-- ==== Sys2Proof/Word.lean ====
section
/-! DEFINITION. The widths the manual's bytes, words, addresses and sets have (00_scope.md section 7; R201). -/

namespace Sys2Proof

/-- One byte of memory, of the fuse block or of a link frame. -/
abbrev Byte := BitVec 8

/-- A word: 16 bits at an even byte address (00_scope.md, section 7). -/
abbrev Word := BitVec 16

/-- A 24-bit byte address. -/
abbrev Addr := BitVec 24

/-- A 32-bit field: a window sum, a sequence number, a workshop identifier. -/
abbrev DWord := BitVec 32

/-- A window index 0–23 (R22). -/
abbrev Win := Fin 24

/-- An overlay page number 0–7 (R108). -/
abbrev PageNo := Fin 8

/-- An index of the limit table 0–31 (R122). -/
abbrev LimitNo := Fin 32

/-- A set of windows: bit i stands for window index i (R201). -/
abbrev WindowSet := BitVec 24

/-- A set of pages: bit p stands for page p (R201). -/
abbrev PageSet := BitVec 8

end Sys2Proof
end

