-- ==== Sys2Proof/Syntax.lean ====
section
/-! DEFINITION. The commands of the part: one constructor of `Instr` per row of spec/opcode_table.json, with the
row's operands. A command is an event at one of the part's ports, a request on the gateway link (the rise of SEL_N
that takes it), or one of the internal steps that the table lists (APPEND_BEGIN and the like). -/

namespace Sys2Proof

/-- The two capture channels (R41). -/
inductive Channel where
  | engine
  | road
deriving DecidableEq, Repr

/-- The level of an input pin. -/
inductive PinLevel where
  | low
  | high
deriving DecidableEq, Repr

/-- What the processor port sees at an arrival (R1): the address lines, the two byte-lane selects, the two strobes
and the data lines. -/
structure BusCycle where
  address : Addr
  lowLane : Bool
  highLane : Bool
  readStrobe : Bool
  writeStrobe : Bool
  data : Word
deriving DecidableEq, Repr

/-- Which line the processor releases before ready (R13). -/
inductive WithdrawCause where
  | strobe
  | chipSelect
deriving DecidableEq, Repr

/-- The payload of a GRANT request (R65; 11_formats.md, section 11.4). -/
structure GrantFields where
  level : Byte
  scope : DWord
  workshop : DWord
  timeStamp : DWord
  duration : Word
  idleChoice : Byte
deriving DecidableEq, Repr

/-- The commands. For a link request, `filler` is the number of whole bytes the gateway clocked after the frame's
check byte (R192). -/
inductive Instr where
  /-- POWER_ON_RESET (R190): the rise of the supply. -/
  | powerOnReset
  /-- START_END (R182). -/
  | startEnd
  /-- PROCESSOR_CYCLE_ARRIVAL (R1). -/
  | processorCycleArrival (cycle : BusCycle)
  /-- STROBE_RELEASE (R8). -/
  | strobeRelease
  /-- CYCLE_WITHDRAWN (R13). -/
  | cycleWithdrawn (cause : WithdrawCause)
  /-- CHIP_SELECT_RELEASE (R16). -/
  | chipSelectRelease
  /-- MEMORY_TRANSFER_COMPLETE (R14): the memory's ready. `some w` gives the word the memory devices return for a
  read when they were altered by a way other than the part; `none` says they return what the part last knew there. -/
  | memoryTransferComplete (returned : Option Word)
  /-- RESET_N_ASSERT (R20). -/
  | resetNAssert
  /-- RESET_N_RELEASE (R20). -/
  | resetNRelease
  /-- CHANNEL_TICK (R43): one tick of a channel, with the level its pin stands at. -/
  | channelTick (channel : Channel) (sample : PinLevel)
  /-- SILENCE (R48). -/
  | silence (channel : Channel)
  /-- PARK_INPUT_CHANGE (R55): the PARK pin takes this level. -/
  | parkInputChange (level : PinLevel)
  /-- PARK_DEBOUNCE_COMPLETE (R55). -/
  | parkDebounceComplete
  /-- GRANT (R65). -/
  | grant (fields : GrantFields) (filler : Nat)
  /-- SECOND_TICK (R70). -/
  | secondTick
  /-- GRANT_TIMER_EXPIRY (R71). -/
  | grantTimerExpiry
  /-- KEEP (R73). -/
  | keep (filler : Nat)
  /-- REVOKE (R74). -/
  | revoke (filler : Nat)
  /-- CLOSING_SUM_REQUEST (R78). -/
  | closingSumRequest
  /-- STRIKE_DECAY (R82). -/
  | strikeDecay
  /-- REFUSALS (R106). -/
  | refusals (filler : Nat)
  /-- DISCARD (R119). -/
  | discard (pages : PageSet) (filler : Nat)
  /-- APPEND_BEGIN (R137). -/
  | appendBegin
  /-- COMMIT (R147). -/
  | commit (pages : PageSet) (filler : Nat)
  /-- ARCHIVED (R144). -/
  | archived (upTo : DWord) (filler : Nat)
  /-- PERIODIC_SCAN_EXPIRY (R166). -/
  | periodicScanExpiry
  /-- PASS_RESUME (R162). -/
  | passResume
  /-- RESCAN (R167). -/
  | rescan (filler : Nat)
  /-- SUM_REQUEST_SERVICE (R170). -/
  | sumRequestService
  /-- REBASE (R172). -/
  | rebase (filler : Nat)
  /-- IGNITION_INPUT_CHANGE (R176): the IGNITION pin takes this level. -/
  | ignitionInputChange (level : PinLevel)
  /-- IGNITION_FILTER_COMPLETE (R176). -/
  | ignitionFilterComplete
  /-- DORMANCY_DELAY_EXPIRY (R185). -/
  | dormancyDelayExpiry
  /-- SETTLE_TIME_END (R188). -/
  | settleTimeEnd
  /-- TRANSACTION_START (R191): the fall of SEL_N. -/
  | transactionStart
  /-- NOP (R193). -/
  | nop (filler : Nat)
  /-- STATUS (R197). -/
  | status (filler : Nat)
  /-- DESCRIBE (R198). -/
  | describe (kind : Byte) (index : Byte) (filler : Nat)
  /-- UNKNOWN (R193): the rise of SEL_N after these whole bytes, first byte first. -/
  | unknown (bytes : List Byte)
  /-- SUPPLY_LOSS (R190). -/
  | supplyLoss
  /-- TRANSACTION_END (R192): the rise of SEL_N of a transaction that carries no request to take. `clocked` is the
  number of bytes clocked while the receiver was STOPPED. -/
  | transactionEnd (clocked : Nat)
deriving DecidableEq, Repr

end Sys2Proof
end

