-- ==== Sys2Proof/Config.lean ====
section
/-! DEFINITION. The manual's fixed numbers, and the free values: what the manual leaves open, as constants without a
body that no proof can see into. -/

namespace Sys2Proof.Config

/-- The slots kept for records of kinds that must not be refused (R134). -/
def reserve : Nat := 8

/-- The words of an overlay page (R108). -/
def pageWords : Nat := 1024

/-- The append queue's places (R136). -/
def appendPlaces : Nat := 8

/-- The refusal list's entries (R103). -/
def refusalPlaces : Nat := 8

/-- Longest run of transfers of one internal requester (R18). -/
def burstLimit : Nat := 8

/-- The free-slot count below which RECORDS_LOW is set (R140). -/
def lowMark : Nat := 64

/-- The dormancy delay in ms (R185). -/
def dormancyMs : Nat := 500

/-- The last period that is not over-range, in ticks (R47). -/
def longestPeriod : Nat := 131071

/-- One above the highest sequence number a record may have (R133, R137): the head's top value. -/
def headTop : Nat := 0xFFFFFFFF

/-- What an address of the calibration memory reads as when nothing has written it. DESIGN CHOICE (log entry 3,
unsafe): the erased pattern FFh. -/
def unlistedByte : Byte := 0xFF#8

/-- FREE VALUE (log entry 5): the byte the memory devices kept on a lane of the write that was in flight when the
supply failed. R21 says only "whatever the memory devices kept". -/
opaque keptByte : Nat → Byte

/-- FREE VALUE (log entry 5): whether the memory devices kept the last write of a record that was in flight when the supply
failed. R138 leaves the slot "not complete" or holding "the whole new record". -/
opaque keptWhole : Nat → Bool

/-- FREE VALUE (log entry 6): whether, of two changes made together, the one named second makes its append request first.
R136: "Two requests made together may join in either order." -/
opaque laterFirst : Nat → Bool

end Sys2Proof.Config
end

