-- ==== Sys2Proof/Machine/State.lean ====
section
/-! DEFINITION. Everything the manual gives the part to hold, as plain data, block by block (00_scope.md, section 3),
the reasons a step can stop, and the state at power-on reset. -/

namespace Sys2Proof.Machine

/-! ## Names -/

/-- The classes a descriptor can give a window (R23). -/
inductive SiteClass where
  | openWindow
  | calibration
  | trim
  | identity
  | keys
deriving DecidableEq, Repr

/-- The class of a word's owner (R28). -/
inductive OwnerClass where
  | image
  | record
  | site (c : SiteClass)
deriving DecidableEq, Repr

/-- The owner of a word (R28). -/
inductive Owner where
  | image
  | record
  | window (w : Win)
  | background
deriving DecidableEq, Repr

/-- A descriptor's or limit record's standing (R22, R122). -/
inductive Standing where
  | switchedOff
  | enabled
  | faulted
  | notLoaded
deriving DecidableEq, Repr

/-- The fault kinds, in the order of 11_formats.md section 11.4. -/
inductive FaultKind where
  | classCode
  | size
  | align
  | trimSize
  | noPage
  | pageIgnored
  | pageTaken
  | recordPlace
  | range
  | thresholdOrder
  | check
  | format
  | code
  | window
  | offset
  | notOwned
  | step
  | duplicate
deriving DecidableEq, Repr

/-- The items of the load-fault set (R35; 11_formats.md section 11.4). -/
inductive LoadItem where
  | descriptor (i : Win)
  | limit (j : LimitNo)
  | image
  | record
  | backgroundClass
  | settleChoice
  | starvationLimit
  | engineTick
  | roadTick
  | engineEdge
  | roadEdge
  | engineDivider
  | roadDivider
  | engineTeeth
  | roadPulses
  | stopLow
  | stopHigh
  | movingLow
  | movingHigh
  | stopThresholds
  | movingThresholds
  | parkUse
  | suspendLimit
  | lockoutThreshold
  | strikeDecay
  | scanPeriod
deriving DecidableEq, Repr

/-- The grant levels (R61). -/
inductive Level where
  | adjust
  | reflash
  | factory
deriving DecidableEq, Repr

/-- The end reasons (R79; 11_formats.md section 11.3). -/
inductive EndReason where
  | none
  | revoked
  | expired
  | idle
  | suspendTimeout
  | motion
  | lockout
  | tamper
  | ignition
  | reset
  | recordsFull
  | powerLoss
deriving DecidableEq, Repr

/-- The notices of the gateway link, in the order of their bits (R199). -/
inductive Notice where
  | grantEnded
  | commitDone
  | scanDone
  | tamperFound
  | rebaseDone
  | refusals
  | recordsLow
  | recordsFull
  | loadFault
  | lockoutBegan
deriving DecidableEq, Repr

/-- The result codes (R195). -/
inductive ResultCode where
  | empty
  | ok
  | pending
  | busy
  | badFrame
  | unknown
  | badArg
  | noGrant
  | notReady
  | locked
  | tampered
  | degraded
  | motion
  | noSpace
  | level
deriving DecidableEq, Repr

/-! ## Pins and the fuse block -/

/-- The levels the outside drives on the part's level inputs (00_scope.md section 5): RESET_N asserted, IGNITION high,
PARK's level, the calibration chip select asserted. -/
structure Pins where
  resetAsserted : Bool
  ignition : PinLevel
  park : PinLevel
  chipSelect : Bool
deriving DecidableEq, Repr

/-- The fuse block (11_formats.md section 11.2): the anchor descriptors' 8 bytes each, byte 0 lowest; bytes 20h–21h;
byte 22h. -/
structure FuseBlock where
  anchors : Vector (BitVec 64) 4
  imageBase : Word
  settleChoice : Byte
deriving DecidableEq, Repr

/-! ## Chapter 2: the Window Map -/

/-- A window descriptor as read (8 bytes, byte 0 lowest), with its standing and fault kind (R22). -/
structure Descriptor where
  raw : BitVec 64
  standing : Standing
  fault : Option FaultKind
deriving DecidableEq, Repr

/-- Where the RECORD window lies (R26). -/
structure Placement where
  base : Addr
  exponent : Nat
deriving DecidableEq, Repr

/-- The Window Map's state (R22, R25–R27, R35, R36, R38). -/
structure WindowMap where
  descriptors : Vector Descriptor 24
  imageBase : Option Addr
  record : Option Placement
  background : SiteClass
  bindings : Vector (Option Win) 8
  scanGroup : List Win
  loadFaults : List (LoadItem × FaultKind)
deriving DecidableEq, Repr

/-- What a resolution answers (R28). -/
structure Resolution where
  owner : Owner
  cls : OwnerClass
  page : Option PageNo
  pageWord : Nat
  refTable : Bool
deriving DecidableEq, Repr

/-! ## Chapter 1: the Bus Path -/

/-- A cycle's direction (R1). -/
inductive Direction where
  | read
  | write
deriving DecidableEq, Repr

/-- The refusal reasons (R103). -/
inductive Reason where
  | hidden
  | cls
  | noGrant
  | tampered
  | scope
  | level
  | frozen
  | motion
  | space
deriving DecidableEq, Repr

/-- The service kinds (R4); an OVERLAY WRITE names the governing limit record when the limit arithmetic applies. -/
inductive Service where
  | pass
  | overlayRead
  | overlayWrite (limit : Option LimitNo)
  | fill
  | drop
deriving DecidableEq, Repr

/-- The holds a decision may attach (R4). -/
inductive DecisionHold where
  | windowOpening
  | pageLoading
deriving DecidableEq, Repr

/-- A decision (R88). `opens` marks a first reflash write (R97). -/
structure Decision where
  service : Service
  refusal : Option Reason
  hold : Option DecisionHold
  opens : Bool
  resolution : Resolution
deriving DecidableEq, Repr

/-- The cycle record (R1). The hold reason is the port's state. -/
structure CycleRecord where
  address : Addr
  lowLane : Bool
  highLane : Bool
  direction : Direction
  data : Word
  decision : Option Decision
deriving DecidableEq, Repr

/-- Why a HELD cycle waits (section 1.2). -/
inductive HoldReason where
  | pageLoading
  | windowOpening
  | memoryPort
deriving DecidableEq, Repr

/-- The processor port (R3). In TRANSFER, `orphan` says that the cycle was withdrawn or abandoned (R13, R20). In DONE,
`readData` is what a READ was answered with. -/
inductive Port where
  | idle
  | gated (cycle : CycleRecord)
  | held (cycle : CycleRecord) (reason : HoldReason)
  | transfer (cycle : CycleRecord) (orphan : Bool)
  | done (cycle : CycleRecord) (readData : Option Word)
deriving DecidableEq, Repr

/-- The gate's set of closing reasons (R3). -/
structure Gate where
  start : Bool
  waking : Bool
  reset : Bool
deriving DecidableEq, Repr

/-- The memory-port requesters (R14). -/
inductive Requester where
  | P
  | R
  | L
  | S
deriving DecidableEq, Repr

/-- What a memory-port transfer does at its word. -/
inductive Action where
  | read
  | write (lowLane highLane : Bool) (data : Word)
deriving DecidableEq, Repr

/-- A memory-port transfer: its word address and its action (R5, R14). -/
structure Transfer where
  address : Addr
  action : Action
deriving DecidableEq, Repr

/-- The arbiter's port state (section 1.3.2). `live` is false when the requester gave up the transfer in flight and its
read data is to be discarded (R14). -/
inductive MemPort where
  | free
  | parked
  | busy (who : Requester) (transfer : Transfer) (live : Bool)
deriving DecidableEq, Repr

/-- The Bus Path's state (R3, R14, section 1.3.2). -/
structure BusPath where
  port : Port
  gate : Gate
  memPort : MemPort
  requestP : Option Transfer
  requestR : Option Transfer
  requestL : Option Transfer
  requestS : Option Transfer
  starvation : Nat
  burst : Nat
deriving DecidableEq, Repr

/-! ## Image parameters (R180) -/

/-- What the image check said (R179). -/
inductive ImageStanding where
  | unread
  | valid
  | invalid
deriving DecidableEq, Repr

/-- Tick rates (R42). -/
inductive TickRate where
  | mhz1
  | khz250
  | khz62_5
  | khz15_625
deriving DecidableEq, Repr

/-- The valid-edge setting (R42). -/
inductive EdgeChoice where
  | rising
  | falling
  | both
deriving DecidableEq, Repr

/-- A channel's settings (R42); `scale` is the teeth per revolution or the pulses per km. -/
structure ChannelSettings where
  rate : TickRate
  edge : EdgeChoice
  divider : Nat
  scale : Nat
deriving DecidableEq, Repr

/-- The parameters of the configuration image, settled at start-up (R180). -/
structure Params where
  image : ImageStanding
  fillValue : Word
  starvationLimit : Nat
  engine : ChannelSettings
  road : ChannelSettings
  stopLow : Nat
  stopHigh : Nat
  movingLow : Nat
  movingHigh : Nat
  parkInUse : Bool
  suspendLimit : Nat
  lockoutThreshold : Nat
  strikeDecay : Nat
  scanPeriod : Nat
deriving DecidableEq, Repr

/-! ## Chapter 3: the Standstill Monitor -/

/-- The filtered level of a channel (R44). -/
inductive FilterLevel where
  | unsettled
  | low
  | high
deriving DecidableEq, Repr

/-- A capture channel's own items (R41). -/
structure CaptureChannel where
  running : Bool
  counter : Word
  wraps : Nat
  previous : Option PinLevel
  filtered : FilterLevel
  dividerCount : Nat
  reference : Option Word
  speed : Nat
deriving DecidableEq, Repr

/-- ENGINE states (R53). -/
inductive EngineState where
  | stopped
  | turning
deriving DecidableEq, Repr

/-- ROAD states (R54). -/
inductive RoadState where
  | stationary
  | creeping
  | moving
deriving DecidableEq, Repr

/-- Park-brake states (R55). -/
inductive ParkState where
  | unknown
  | applied
  | released
deriving DecidableEq, Repr

/-- The Standstill Monitor (R41, R53–R55). `debounce` says whether the debounce interval runs. -/
structure Monitor where
  engine : CaptureChannel
  road : CaptureChannel
  engineState : EngineState
  roadState : RoadState
  park : ParkState
  debounce : Bool
deriving DecidableEq, Repr

/-- A motion event (R57). -/
inductive MotionEvent where
  | engine (s : EngineState)
  | road (s : RoadState)
  | park (s : ParkState)
deriving DecidableEq, Repr

/-! ## Chapter 4: the Grant Controller -/

/-- Grant states (R62). -/
inductive GrantState where
  | idle
  | opening
  | active
  | suspended
  | ending
deriving DecidableEq, Repr

/-- The grant record (R61). The level is absent while the record is empty. -/
structure GrantRecord where
  level : Option Level
  scope : WindowSet
  workshop : DWord
  timeStamp : DWord
  duration : Nat
  idleChoice : Nat
  remaining : Nat
  idleRemaining : Nat
  suspendRemaining : Option Nat
  elapsed : Nat
  beginSeq : Nat
  commitCount : Nat
  rewritten : WindowSet
  clamped : Nat
  pendingEnd : Option EndReason
  endReason : Option EndReason
deriving DecidableEq, Repr

/-- Where the ending procedure stands (R77–R79). In `closing`, `left` are the rewritten windows still to close and
`asked` says that the sum of the first of them has been asked for. -/
inductive EndingStep where
  | none
  | commit
  | closing (left : List Win) (asked : Bool)
  | grantEnd
deriving DecidableEq, Repr

/-- The controller's view of the vehicle (R63). -/
structure MotionView where
  engine : EngineState
  road : RoadState
  park : ParkState
deriving DecidableEq, Repr

/-- The Grant Controller (R61–R63, R81, R82). The lockout flag is computed from the count (R83). -/
structure GrantController where
  state : GrantState
  record : GrantRecord
  step : EndingStep
  lastEnd : EndReason
  view : MotionView
  strikes : Nat
  decay : Nat
deriving DecidableEq, Repr

/-! ## Chapter 5: the Access Decision Unit -/

/-- A refusal list entry (R103). -/
structure Refused where
  owner : Owner
  kind : Direction
  reason : Reason
  address : Addr
  count : Nat
  level : Option Level
deriving DecidableEq, Repr

/-- Announcement states (R99). -/
inductive Announcement where
  | announcing
  | announced
  | failed
deriving DecidableEq, Repr

/-- The ADU's own state: the refusal list, oldest first, and the announcement states (R99, R103). -/
structure Adu where
  refusals : List Refused
  announcements : Vector (Option Announcement) 24
deriving DecidableEq, Repr

/-! ## Chapter 6: the Trim Overlay Unit -/

/-- A page word (R108). -/
structure PageWord where
  value : Word
  baseline : Word
  loaded : Bool
  dirty : Bool
  clamped : Bool
deriving DecidableEq, Repr

/-- A page word at power-on reset and after a close (R121, R131). -/
def PageWord.cleared : PageWord := ⟨0#16, 0#16, false, false, false⟩

/-- Page states (R110). -/
inductive PageState where
  | unbound
  | closed
  | loading
  | opened
  | committing
deriving DecidableEq, Repr

/-- An overlay page: its state and its 1024 words, listed where they differ from `PageWord.cleared`, by rising page
word number. -/
structure Page where
  state : PageState
  words : List (Nat × PageWord)
deriving DecidableEq, Repr

/-- A limit record as read (12 bytes, byte 0 lowest), with its standing and fault kind (R122). -/
structure LimitRecord where
  raw : BitVec 96
  standing : Standing
  fault : Option FaultKind
deriving DecidableEq, Repr

/-- The Trim Overlay Unit (R108–R112, R122). `loadWord` is the page word of the head page whose read the loader has
presented. -/
structure Overlay where
  pages : Vector Page 8
  queue : List PageNo
  loadWord : Nat
  limits : Vector LimitRecord 32
deriving DecidableEq, Repr

/-! ## Chapter 7: the Record Engine -/

/-- WINDOW_SUM causes (R135). -/
inductive SumCause where
  | reflash
  | commit
  | rebase
  | interruptedReflash
  | rollback
deriving DecidableEq, Repr

/-- COMMIT_END outcomes, and the last commit outcome with NONE (R134, R135). -/
inductive CommitOutcome where
  | none
  | done
  | rolledBack
deriving DecidableEq, Repr

/-- Who asked for an append (R136). -/
inductive AppendSource where
  | grant
  | adu
  | commit
  | scanner
  | link
  | survey
deriving DecidableEq, Repr

/-- An append request's kind with the fields its requester supplies (R135). -/
inductive AppendKind where
  | grantBegin (level : Level) (workshop timeStamp : DWord) (scope : WindowSet) (duration idleChoice : Nat)
  | grantEnd (reason : EndReason) (workshop : DWord) (elapsed commitCount : Nat) (rewritten : WindowSet)
      (clamped beginSeq : Nat) (timeStamp : DWord)
  | windowOpened (window : Win) (workshop : DWord) (reference : Option DWord)
  | windowSum (window : Win) (cause : SumCause) (sum : DWord)
  | commitBegin (pages : PageSet) (words : Nat)
  | trimChange (page : PageNo) (word : Nat)
  | commitEnd (outcome : CommitOutcome) (words : Nat)
  | tamper (window : Win) (expected : Option DWord) (found : DWord)
  | lockoutBegin (strikes threshold : Nat)
  | lockoutEnd (strikes threshold : Nat)
  | archiveMark (upTo : Nat)
deriving DecidableEq, Repr

/-- An append request (R136). `ticket` tells apart the scanner's appends of different judgements (the model's own). -/
structure AppendRequest where
  kind : AppendKind
  source : AppendSource
  claimed : Bool
  ticket : Nat
deriving DecidableEq, Repr

/-- What waits for a place in the append queue (R136, R144). -/
inductive Waiter where
  | append (request : AppendRequest)
  | archived (upTo : Nat)
deriving DecidableEq, Repr

/-- What the take of a TRIM_CHANGE gave (R149). -/
structure Taken where
  window : Win
  address : Addr
  value : Word
  clamped : Bool
  elapsed : Nat
deriving DecidableEq, Repr

/-- How far the request in progress has come: reading a taken word's old value, writing the slot, or writing its
follow-on words; the head of a list is the write presented or in flight (R138, R146, R149). -/
inductive AppendStage where
  | readOld
  | slot (left : List (Addr × Word))
  | followOn (left : List (Addr × Word))
deriving DecidableEq, Repr

/-- The request in progress (R134). -/
structure Progress where
  request : AppendRequest
  taken : Option Taken
  stage : AppendStage
deriving DecidableEq, Repr

/-- A running commit (R134, R148): its pages, its take list, the words of it still to be taken, and the listed words
written to memory so far. -/
structure CommitRun where
  pages : PageSet
  takeList : List (PageNo × Nat)
  todo : List (PageNo × Nat)
  written : Nat
deriving DecidableEq, Repr

/-- The Record Engine (R134). The unarchived and free-slot counts are computed (R134). -/
structure RecordEngine where
  head : Nat
  mark : Nat
  claimed : Nat
  queue : List AppendRequest
  waiting : List Waiter
  progress : Option Progress
  commit : Option CommitRun
  lastOutcome : CommitOutcome
  lastWords : Nat
deriving DecidableEq, Repr

/-! ## Chapter 8: the Integrity Scanner -/

/-- Scan results, with 0 for no result (11_formats.md section 11.4). -/
inductive ScanResult where
  | noResult
  | matched
  | mismatch
  | skipped
  | adopted
  | unknownRef
deriving DecidableEq, Repr

/-- A scan result entry: the result and the found sum where one is kept (R163). -/
structure ScanEntry where
  result : ScanResult
  found : Option DWord
deriving DecidableEq, Repr

/-- Who asks for a window sum (R169). -/
inductive SumClient where
  | commit
  | closing
  | survey
  | rebase
deriving DecidableEq, Repr

/-- A waiting sum request (R169). -/
structure SumRequest where
  window : Win
  clients : List SumClient
deriving DecidableEq, Repr

/-- What the sum in progress is for (R159). -/
inductive SumPurpose where
  | pass
  | request (clients : List SumClient)
deriving DecidableEq, Repr

/-- The sum in progress (R159, R160): `word` is the word of the window's range whose read is presented or in flight. -/
structure SumRun where
  window : Win
  word : Nat
  a : Word
  b : Word
  purpose : SumPurpose
deriving DecidableEq, Repr

/-- What a running pass is at (R162–R164, R171): between two windows, summing one, waiting for the append of an ADOPTED
window, or waiting for a TAMPER request to join the append queue. -/
inductive PassPhase where
  | between
  | summing (window : Win)
  | adopting (ticket : Nat)
  | joining (ticket : Nat)
deriving DecidableEq, Repr

/-- A running pass: the windows it has still to judge after the one it is at, and what it is at (R159). -/
structure PassRun where
  left : List Win
  phase : PassPhase
deriving DecidableEq, Repr

/-- The Integrity Scanner (R159). The tamper flag is computed from the set (R171). `tickets` counts the judgements'
appends (the model's own). -/
structure Scanner where
  references : Vector (Option DWord) 24
  marks : WindowSet
  results : Vector ScanEntry 24
  tamper : WindowSet
  pass : Option PassRun
  passCount : Word
  cycleChecked : Bool
  timer : Nat
  queue : List SumRequest
  sum : Option SumRun
  rebase : Option (List Win)
  tickets : Nat
deriving DecidableEq, Repr

/-! ## Chapter 9: the Supply and Ignition Controller and the start-up order -/

/-- Power states (R175). -/
inductive PowerState where
  | start
  | active
  | afterRun
  | dormant
  | waking
deriving DecidableEq, Repr

/-- The filtered ignition level (R176). -/
inductive IgnitionLevel where
  | unsettled
  | on
  | off
deriving DecidableEq, Repr

/-- A record slot as the survey reads it: sequence number, kind word's two bytes, the 13 field words (R133). -/
structure SlotRecord where
  seq : Nat
  kind : Byte
  aux : Byte
  fields : List Word
deriving DecidableEq, Repr

/-- Where the start-up order stands (section 9.2; R153–R157). Lists of words read stand newest first. -/
inductive StartPhase where
  | beforeFuse
  | image (got : List Word)
  | slots (slot : Nat) (got : List Word)
  | entries (left : List (Addr × Word))
  | closeGrant
  | compare (left : List SlotRecord)
  | restore (left : List SlotRecord)
  | sums (left : List Win)
  | drain
  | ended
deriving DecidableEq, Repr

/-- The start-up order's working data: the reference table's words as read, the complete records found so far, the
GRANT_END to write, the TRIM_CHANGE records to roll back, the words written back, the windows the rollback found
altered, and the survey's appends not yet finished (R153–R157). -/
structure StartUp where
  phase : StartPhase
  refWords : List Word
  found : List SlotRecord
  closure : Option AppendKind
  rollback : Option (List SlotRecord)
  restored : Nat
  altered : WindowSet
  owed : Nat
deriving DecidableEq, Repr

/-- The Supply and Ignition Controller (R175). HOLD_PWR and the in-flight reports are computed (R177). `dormancy` is the
delay's time in ms, as far as the commands have shown it; `settleMs` the settle time. -/
structure Supply where
  power : PowerState
  filtered : IgnitionLevel
  stability : Bool
  dormancy : Option Nat
  settling : Bool
  settleMs : Nat
  startUp : StartUp
deriving DecidableEq, Repr

/-! ## Chapter 10: the Gateway Link -/

/-- A reply (R195). -/
structure Reply where
  code : ResultCode
  echo : Byte
  payload : List Byte
deriving DecidableEq, Repr

/-- What a transaction clocks out: the reply and the overrun flag at the fall of SEL_N (R191). -/
structure Snapshot where
  reply : Reply
  overrun : Bool
deriving DecidableEq, Repr

/-- A transaction in progress: SEL_N is asserted. A receiver that was STOPPED at the fall took no snapshot (R191). -/
structure Transaction where
  snapshot : Option Snapshot
deriving DecidableEq, Repr

/-- The Gateway Link (R191, R195, R196, R199). `sdo` are the bytes clocked out on SDO in the last transaction. ATTN_N is
computed from the notice word. -/
structure Link where
  receiving : Bool
  transaction : Option Transaction
  reply : Reply
  overrun : Bool
  notices : Word
  sdo : List Byte
deriving DecidableEq, Repr

/-! ## The part, and the state of a run -/

/-- The part's blocks; and `draws`, the number of free values drawn so far (the model's own). -/
structure Chip where
  pins : Pins
  bus : BusPath
  map : WindowMap
  params : Params
  monitor : Monitor
  grant : GrantController
  adu : Adu
  overlay : Overlay
  engine : RecordEngine
  scanner : Scanner
  supply : Supply
  link : Link
  draws : Nat
deriving DecidableEq, Repr

/-- The calibration memory: (byte address, byte) pairs, addresses rising, listing only bytes that differ from
`Config.unlistedByte`. -/
abbrev Memory := List Host.Cell

/-- The whole state: the commands waiting, first in first out; whether the supply is up; the part; the fuse block; and
the calibration memory as the part last knew it. -/
structure State where
  pending : List Instr
  supplied : Bool
  chip : Chip
  fuse : FuseBlock
  memory : Memory
deriving DecidableEq, Repr

/-- Why the machine stops with a fault. No command of the manual stops the part, so there is no constructor. -/
inductive Fault where
deriving DecidableEq, Repr

/-- Why a command has no outcome. -/
inductive Refusal where
  /-- Raised by an arm of `exec` for a command whose meaning is not written yet; safe, because nothing follows from a
  refused step. No arm raises it now. -/
  | notModelled (mnemonic : String)
deriving DecidableEq, Repr

/-! ## Power-on reset -/

/-- The default settings and parameters (R42, R52, R56, R64, R159, R180). -/
def Params.default : Params where
  image := .unread
  fillValue := 0xFFFF#16
  starvationLimit := 64
  engine := ⟨.mhz1, .rising, 1, 60⟩
  road := ⟨.khz62_5, .rising, 1, 8000⟩
  stopLow := 40
  stopHigh := 80
  movingLow := 30
  movingHigh := 50
  parkInUse := true
  suspendLimit := 120
  lockoutThreshold := 6
  strikeDecay := 10
  scanPeriod := 30

/-- A capture channel at power-on reset (R58). -/
def CaptureChannel.powerOn : CaptureChannel := ⟨false, 0#16, 0, none, .unsettled, 0, none, 0⟩

/-- The monitor at power-on reset (R58). -/
def Monitor.powerOn : Monitor := ⟨.powerOn, .powerOn, .stopped, .stationary, .unknown, false⟩

/-- The empty grant record (R61). -/
def GrantRecord.empty : GrantRecord :=
  ⟨none, 0#24, 0#32, 0#32, 0, 0, 0, 0, none, 0, 0, 0, 0#24, 0, none, none⟩

/-- The Grant Controller at power-on reset (R87). -/
def GrantController.powerOn : GrantController :=
  ⟨.idle, .empty, .none, .none, ⟨.stopped, .stationary, .unknown⟩, 0, 0⟩

/-- The Bus Path at power-on reset, with RESET in the gate's set if RESET_N is asserted (R21). -/
def BusPath.powerOn (resetAsserted : Bool) : BusPath :=
  ⟨.idle, ⟨true, false, resetAsserted⟩, .free, none, none, none, none, 0, 0⟩

/-- The Window Map at power-on reset (R40). -/
def WindowMap.powerOn : WindowMap where
  descriptors := .replicate 24 ⟨0#64, .switchedOff, none⟩
  imageBase := none
  record := none
  background := .openWindow
  bindings := .replicate 8 none
  scanGroup := []
  loadFaults := []

/-- The Trim Overlay Unit at power-on reset (R131). -/
def Overlay.powerOn : Overlay where
  pages := .replicate 8 ⟨.unbound, []⟩
  queue := []
  loadWord := 0
  limits := .replicate 32 ⟨0#96, .notLoaded, none⟩

/-- The Record Engine at power-on reset (R158). -/
def RecordEngine.powerOn : RecordEngine := ⟨1, 0, 0, [], [], none, none, .none, 0⟩

/-- The Integrity Scanner at power-on reset (R174). -/
def Scanner.powerOn : Scanner where
  references := .replicate 24 none
  marks := 0#24
  results := .replicate 24 ⟨.noResult, none⟩
  tamper := 0#24
  pass := none
  passCount := 0#16
  cycleChecked := false
  timer := 0
  queue := []
  sum := none
  rebase := none
  tickets := 0

/-- The start-up order before the fuse read (R178). -/
def StartUp.powerOn : StartUp := ⟨.beforeFuse, [], [], none, none, 0, 0#24, 0⟩

/-- The Supply and Ignition Controller at power-on reset (R190). -/
def Supply.powerOn : Supply := ⟨.start, .unsettled, true, none, false, 16, .powerOn⟩

/-- The Gateway Link at power-on reset: EMPTY with the echoed code of NOP (R195, R200). -/
def Link.powerOn : Link := ⟨true, none, ⟨.empty, 0#8, []⟩, false, 0#16, []⟩

/-- Every block at its power-on values, the input pins as the outside drives them (R190), with this many free values
drawn. -/
def Chip.powerOn (pins : Pins) (draws : Nat) : Chip where
  pins := pins
  bus := .powerOn pins.resetAsserted
  map := .powerOn
  params := .default
  monitor := .powerOn
  grant := .powerOn
  adu := ⟨[], .replicate 24 none⟩
  overlay := .powerOn
  engine := .powerOn
  scanner := .powerOn
  supply := .powerOn
  link := .powerOn
  draws := draws

/-- The input pins at reset: nothing asserted, IGNITION and PARK low. DESIGN CHOICE (log entry 2). -/
def Pins.reset : Pins := ⟨false, .low, .low, false⟩

/-- An unprogrammed fuse block, all bits 0. DESIGN CHOICE (log entry 1). -/
def FuseBlock.blank : FuseBlock := ⟨.replicate 4 0#64, 0#16, 0#8⟩

/-- The machine right after reset: every block at the values the manual's power-on tables give (R21, R40, R58, R87,
R107, R131, R158, R174, R190, R200), before the fuse read; nothing pending; nothing written in memory. -/
def State.reset : State where
  pending := []
  supplied := true
  chip := .powerOn .reset 0
  fuse := .blank
  memory := []

end Sys2Proof.Machine
end

