-- ==== Sys2Proof/Machine/Operands.lean ====
section
/-! DEFINITION. The operand forms: sets of windows and pages, the fields of descriptors, limit records and the
configuration image, and the request frame (R192, R201; 11_formats.md). -/

namespace Sys2Proof.Machine

/-! ## Sets -/

/-- Whether the set holds window `w`. -/
def hasWin (s : WindowSet) (w : Win) : Bool := s.getLsbD w.val

/-- The set with window `w`. -/
def addWin (s : WindowSet) (w : Win) : WindowSet := s ||| (1#24 <<< w.val)

/-- The set without window `w`. -/
def dropWin (s : WindowSet) (w : Win) : WindowSet := s &&& ~~~(1#24 <<< w.val)

/-- The windows of a set in ascending index. -/
def winsOf (s : WindowSet) : List Win := (List.finRange 24).filter (hasWin s)

/-- Whether the set names page `p`. -/
def hasPage (s : PageSet) (p : PageNo) : Bool := s.getLsbD p.val

/-- The pages of a set in ascending page number. -/
def pagesOf (s : PageSet) : List PageNo := (List.finRange 8).filter (hasPage s)

/-! ## Descriptors (11_formats.md section 11.2) -/

/-- Enabled as read: bit 0 of byte 0. -/
def Descriptor.asked (d : Descriptor) : Bool := d.raw.getLsbD 0

/-- The class code: byte 1. -/
def Descriptor.classCode (d : Descriptor) : Nat := (d.raw.extractLsb' 8 8).toNat

/-- The size exponent k: byte 2. -/
def Descriptor.exponent (d : Descriptor) : Nat := (d.raw.extractLsb' 16 8).toNat

/-- The overlay page as read: bit 7 of byte 3 says whether one is named, bits 0–2 which. -/
def Descriptor.pageRead (d : Descriptor) : Option PageNo :=
  if d.raw.getLsbD 31 then some (d.raw.extractLsb' 24 3).toFin else none

/-- The base: bytes 4–6. -/
def Descriptor.base (d : Descriptor) : Addr := d.raw.extractLsb' 32 24

/-- The class an assigned class code names (R23, R32). -/
def classOfCode (n : Nat) : Option SiteClass :=
  match n with
  | 1 => some .openWindow
  | 2 => some .calibration
  | 3 => some .trim
  | 4 => some .identity
  | 5 => some .keys
  | _ => none

/-- The class the descriptor's code names. -/
def Descriptor.siteClass (d : Descriptor) : Option SiteClass := classOfCode d.classCode

/-- Whether the descriptor is ENABLED with class TRIM. -/
def Descriptor.isTrim (d : Descriptor) : Bool := d.standing == .enabled && d.siteClass == some .trim

/-- The effective overlay page (R22): the one read for an ENABLED TRIM descriptor, absent for an ENABLED descriptor of
another class (R33). R22 gives none for a descriptor that is not ENABLED; absent too: the model's choice (log entry
27). -/
def Descriptor.page (d : Descriptor) : Option PageNo := if d.isTrim then d.pageRead else none

/-- Whether an address lies in the 2^k bytes from a base that is a multiple of 2^k (R24). -/
def inRange (base : Addr) (exponent : Nat) (a : Addr) : Bool :=
  decide (base.toNat ≤ a.toNat) && decide (a.toNat < base.toNat + 2 ^ exponent)

/-! ## Limit records (11_formats.md section 11.2) -/

/-- In use: bit 0 of byte 0. -/
def LimitRecord.inUse (l : LimitRecord) : Bool := l.raw.getLsbD 0

/-- The window index: byte 1. -/
def LimitRecord.window (l : LimitRecord) : Nat := (l.raw.extractLsb' 8 8).toNat

/-- The word offset: bytes 2–3. -/
def LimitRecord.offset (l : LimitRecord) : Nat := (l.raw.extractLsb' 16 16).toNat

/-- The interpretation code: byte 4 (0 UNSIGNED, 1 SIGNED). -/
def LimitRecord.interpretation (l : LimitRecord) : Nat := (l.raw.extractLsb' 32 8).toNat

/-- The required level code: byte 5 (1 ADJUST, 2 REFLASH). -/
def LimitRecord.required (l : LimitRecord) : Nat := (l.raw.extractLsb' 40 8).toNat

/-- The lower bound's pattern: bytes 6–7. -/
def LimitRecord.lower (l : LimitRecord) : Word := l.raw.extractLsb' 48 16

/-- The upper bound's pattern: bytes 8–9. -/
def LimitRecord.upper (l : LimitRecord) : Word := l.raw.extractLsb' 64 16

/-- The step S: bytes 10–11. -/
def LimitRecord.step (l : LimitRecord) : Nat := (l.raw.extractLsb' 80 16).toNat

/-- A 16-bit pattern as a number under the record's interpretation (R128). -/
def LimitRecord.read (l : LimitRecord) (w : Word) : Int := if l.interpretation = 1 then w.toInt else w.toNat

/-- Whether an ENABLED record is frozen (R125). -/
def LimitRecord.frozen (l : LimitRecord) : Bool := decide (l.read l.upper < l.read l.lower)

/-! ## Levels -/

/-- The level a level code names (11_formats.md section 11.4). -/
def levelOfCode (b : Byte) : Option Level :=
  if b = 1#8 then some .adjust
  else if b = 2#8 then some .reflash
  else if b = 3#8 then some .factory
  else none

/-- Whether a level code counts as below FACTORY (R65). -/
def belowFactory (b : Byte) : Bool := levelOfCode b != some .factory

/-! ## The configuration image (11_formats.md section 11.2)

The words read by the start-up order, in ascending address: 304 of the checked part, then 96 of the reference table. -/

/-- The number of words the image check covers: 000h–25Fh. -/
def checkedWords : Nat := 304

/-- The number of reference table words: 280h–33Fh. -/
def refTableWords : Nat := 96

/-- The offset from the image base of the i-th word the image read takes (R179). -/
def imageWordOffset (i : Nat) : Nat := if i < checkedWords then 2 * i else 0x280 + 2 * (i - checkedWords)

/-- The word at an even offset of the checked part. -/
def imgWord (img : List Word) (off : Nat) : Word := img.getD (off / 2) 0#16

/-- The byte at an offset of the checked part (R201). -/
def imgByte (img : List Word) (off : Nat) : Byte :=
  if off % 2 = 0 then (imgWord img off).extractLsb' 0 8 else (imgWord img off).extractLsb' 8 8

/-- A 24-bit address field at an offset, low byte first (R201). -/
def imgAddr (img : List Word) (off : Nat) : Addr :=
  imgByte img (off + 2) ++ imgByte img (off + 1) ++ imgByte img off

/-- The 8 bytes of site descriptor `i` (4–23), byte 0 lowest. -/
def imgDescriptor (img : List Word) (i : Nat) : BitVec 64 :=
  let off := 0x40 + 8 * (i - 4)
  imgWord img (off + 6) ++ imgWord img (off + 4) ++ imgWord img (off + 2) ++ imgWord img off

/-- The 12 bytes of limit record `j`, byte 0 lowest. -/
def imgLimit (img : List Word) (j : Nat) : BitVec 96 :=
  let off := 0xE0 + 12 * j
  imgWord img (off + 10) ++ imgWord img (off + 8) ++ imgWord img (off + 6) ++ imgWord img (off + 4)
    ++ imgWord img (off + 2) ++ imgWord img off

/-! ## The request frame (R192, R193; 11_formats.md section 11.4) -/

/-- The payload length each assigned request code requires. -/
def requestLength (code : Byte) : Option Nat :=
  match code.toNat with
  | 0x00 => some 0
  | 0x01 => some 0
  | 0x02 => some 16
  | 0x03 => some 0
  | 0x04 => some 0
  | 0x05 => some 1
  | 0x06 => some 1
  | 0x07 => some 0
  | 0x08 => some 0
  | 0x09 => some 0
  | 0x0A => some 4
  | 0x0B => some 2
  | _ => none

/-- The sum of a list of bytes mod 256. -/
def byteSum (bs : List Byte) : Byte := bs.foldr (· + ·) 0#8

/-- What the link makes of the bytes received in a transaction (R192). -/
inductive FrameVerdict where
  | empty
  | bad (echo : Byte)
  | wellFormed (code : Byte) (payload : List Byte)
deriving DecidableEq, Repr

/-- The judgement of R192: no byte; byte 1 missing or above 40; mid-frame; wrong sum; well-formed. -/
def judgeFrame : List Byte → FrameVerdict
  | [] => .empty
  | [code] => .bad code
  | code :: len :: rest =>
    if len.toNat > 40 then .bad code
    else if rest.length < len.toNat + 1 then .bad code
    else if byteSum (code :: len :: rest.take (len.toNat + 1)) ≠ 0#8 then .bad code
    else .wellFormed code (rest.take len.toNat)

/-- The little-endian 16-bit field at an index of a payload (R201). -/
def payload16 (p : List Byte) (i : Nat) : Word := p.getD (i + 1) 0#8 ++ p.getD i 0#8

/-- The little-endian 32-bit field at an index of a payload (R201). -/
def payload32 (p : List Byte) (i : Nat) : DWord := payload16 p (i + 2) ++ payload16 p i

/-- The GRANT payload's fields (11_formats.md section 11.4). -/
def grantFieldsOf (p : List Byte) : GrantFields where
  level := p.getD 0 0#8
  scope := payload32 p 1
  workshop := payload32 p 5
  timeStamp := payload32 p 9
  duration := payload16 p 13
  idleChoice := p.getD 15 0#8

end Sys2Proof.Machine
end

