-- ==== Sys2Proof/Machine/Flags.lean ====
section
/-! DEFINITION. The flags and counts that the manual gives as functions of other state, and the notice word. -/

namespace Sys2Proof.Machine

/-- The bit of the notice word that stands for a notice (11_formats.md section 11.4). -/
def Notice.bit : Notice → Nat
  | .grantEnded => 0
  | .commitDone => 1
  | .scanDone => 2
  | .tamperFound => 3
  | .rebaseDone => 4
  | .refusals => 5
  | .recordsLow => 6
  | .recordsFull => 7
  | .loadFault => 8
  | .lockoutBegan => 9

/-- The notice word with a flag set (R199). -/
def noticeSet (w : Word) (n : Notice) : Word := w ||| (1#16 <<< n.bit)

/-- The notice word with a flag cleared (R106). -/
def noticeClear (w : Word) (n : Notice) : Word := w &&& ~~~(1#16 <<< n.bit)

/-- Sets a notice flag (R199). -/
def Chip.notify (n : Notice) (c : Chip) : Chip := { c with link.notices := noticeSet c.link.notices n }

/-- The gate is open when its set is empty (R3). -/
def Gate.isOpen (g : Gate) : Bool := !g.start && !g.waking && !g.reset

/-- The lockout flag (R83). -/
def Chip.lockout (c : Chip) : Bool := decide (c.params.lockoutThreshold ≤ c.grant.strikes)

/-- The tamper flag: set exactly when the tamper set is non-empty (R171). -/
def Chip.tamperFlag (c : Chip) : Bool := c.scanner.tamper != 0#24

/-- The record area's capacity C (R133). Before the map has placed the RECORD window the capacity is not yet taken (R158);
it counts as 0, so STATUS then reports a free-slot count of 0: the model's choice (log entry 29). -/
def Chip.capacity (c : Chip) : Nat :=
  match c.map.record with
  | none => 0
  | some p => 2 ^ p.exponent / 32

/-- The unarchived count (R134). -/
def Chip.unarchived (c : Chip) : Nat := c.engine.head - 1 - c.engine.mark

/-- The free-slot count (R134). -/
def Chip.freeSlots (c : Chip) : Nat := c.capacity - c.unarchived - c.engine.claimed

/-- Append in flight (R142). -/
def Chip.appendInFlight (c : Chip) : Bool :=
  !c.engine.waiting.isEmpty || !c.engine.queue.isEmpty || c.engine.progress.isSome

/-- Commit in flight (R142): the commit state is RUNNING. -/
def Chip.commitInFlight (c : Chip) : Bool := c.engine.commit.isSome

/-- Ending in flight (R62). -/
def Chip.endingInFlight (c : Chip) : Bool := c.grant.state == .ending

/-- REBASE in flight (R172). -/
def Chip.rebaseInFlight (c : Chip) : Bool := c.scanner.rebase.isSome

/-- Whether any in-flight report stands (R177). -/
def Chip.workInFlight (c : Chip) : Bool :=
  c.appendInFlight || c.commitInFlight || c.endingInFlight || c.rebaseInFlight

/-- The power states in which HOLD_PWR is asserted of themselves (R177). -/
def PowerState.holds : PowerState → Bool
  | .start => true
  | .afterRun => true
  | .waking => true
  | .active => false
  | .dormant => false

/-- The HOLD_PWR output (R177). -/
def Chip.holdPwr (c : Chip) : Bool := c.supply.power.holds || c.workInFlight

/-- ATTN_N asserted: at least one notice flag is set (R199). -/
def Chip.attention (c : Chip) : Bool := c.link.notices != 0#16

/-- HOLD_PWR as driven: a part without supply drives nothing (R190). -/
def State.holdPwr (s : State) : Bool := s.supplied && s.chip.holdPwr

/-- ATTN_N as driven. -/
def State.attention (s : State) : Bool := s.supplied && s.chip.attention

/-- Ready on the processor port: returned in DONE (R3, R8). -/
def Chip.ready (c : Chip) : Bool :=
  match c.bus.port with
  | .done _ _ => true
  | _ => false

/-- Sets RECORDS_LOW when the free-slot count has gone from 64 or more to below 64 (R140). -/
def Chip.watchLow (before : Nat) (c : Chip) : Chip :=
  if Config.lowMark ≤ before ∧ c.freeSlots < Config.lowMark then c.notify .recordsLow else c

/-- An idle limit in seconds (R61). -/
def idleLimit (choice : Nat) : Nat := 15 * 2 ^ choice

/-- An addition that saturates at 65535 (R61). -/
def satInc (n : Nat) : Nat := if n < 65535 then n + 1 else n

/-- Puts the final reply of the pending request with this request code in the reply buffer, keeping the echoed code
(R195). -/
def Chip.completePending (echo : Byte) (code : ResultCode) (c : Chip) : Chip :=
  if c.link.reply.code = .pending ∧ c.link.reply.echo = echo then { c with link.reply := ⟨code, echo, []⟩ } else c

end Sys2Proof.Machine
end

