-- ==== Sys2Proof/Machine/Memory.lean ====
section
/-! DEFINITION. Sparse tables in one canonical form, and the calibration memory as one of them: reading and writing a
byte and a word, and what the memory devices answer to a transfer (R5, R14, R21, R201). -/

namespace Sys2Proof.Machine

/-- The entry at `i` of a table whose unlisted entries are `d`. -/
def Sparse.get {α : Type} (d : α) : List (Nat × α) → Nat → α
  | [], _ => d
  | (k, v) :: rest, i => if k = i then v else Sparse.get d rest i

/-- The table with the entry at `i` set to `v`: keys stay rising, and no listed entry is `d`. -/
def Sparse.set {α : Type} [DecidableEq α] (d : α) : List (Nat × α) → Nat → α → List (Nat × α)
  | [], i, v => if v = d then [] else [(i, v)]
  | (k, w) :: rest, i, v =>
    if i < k then
      if v = d then (k, w) :: rest else (i, v) :: (k, w) :: rest
    else if i = k then
      if v = d then rest else (i, v) :: rest
    else (k, w) :: Sparse.set d rest i v

/-- The table with `f` applied to every listed entry, for an `f` that keeps `d`; entries that become `d` are dropped. -/
def Sparse.mapEntries {α : Type} [DecidableEq α] (d : α) (f : α → α) : List (Nat × α) → List (Nat × α)
  | [] => []
  | (k, v) :: rest =>
    if f v = d then Sparse.mapEntries d f rest else (k, f v) :: Sparse.mapEntries d f rest

/-- Keys rise from `lo` on, lie below `top`, and no listed entry is `d`. -/
def Sparse.wfFrom {α : Type} [DecidableEq α] (d : α) (top : Nat) : Nat → List (Nat × α) → Bool
  | _, [] => true
  | lo, (k, v) :: rest => decide (lo ≤ k) && decide (k < top) && decide (v ≠ d) && Sparse.wfFrom d top (k + 1) rest

/-- The canonical form of the calibration memory: addresses rise, lie in the 16 MiB space, and no listed byte is what an
unlisted address reads as. -/
def Memory.wf (m : Memory) : Bool := Sparse.wfFrom Config.unlistedByte (2 ^ 24) 0 m

/-- The byte at an address. -/
def Memory.readByte (m : Memory) (a : Addr) : Byte := Sparse.get Config.unlistedByte m a.toNat

/-- The memory with one byte written. -/
def Memory.writeByte (m : Memory) (a : Addr) (b : Byte) : Memory := Sparse.set Config.unlistedByte m a.toNat b

/-- The odd byte address of the word at `a`. -/
def oddByte (a : Addr) : Addr := a ||| 1#24

/-- The word address of a byte address: its lowest bit taken as 0 (R1). -/
def wordAddress (a : Addr) : Addr := a &&& 0xFFFFFE#24

/-- The word at a word address: the low byte at the even address, the high byte at the odd one (00_scope.md
section 7; R201). -/
def Memory.readWord (m : Memory) (a : Addr) : Word := m.readByte (oddByte a) ++ m.readByte (wordAddress a)

/-- The low byte of a word. -/
def lowByte (w : Word) : Byte := w.extractLsb' 0 8

/-- The high byte of a word. -/
def highByte (w : Word) : Byte := w.extractLsb' 8 8

/-- The memory after a write of the selected lanes of a word. -/
def Memory.writeLanes (m : Memory) (a : Addr) (lowLane highLane : Bool) (w : Word) : Memory :=
  let m := if lowLane then m.writeByte (wordAddress a) (lowByte w) else m
  if highLane then m.writeByte (oddByte a) (highByte w) else m

/-- What the memory devices hold after they complete a transfer, and the word they return. A read returns the word at
the address; when the devices give another word there (R14's ready came with `some w`), that word is what they hold. -/
def Memory.complete (m : Memory) (t : Transfer) (returned : Option Word) : Memory × Word :=
  match t.action, returned with
  | .read, none => (m, m.readWord t.address)
  | .read, some w => (m.writeLanes t.address true true w, w)
  | .write lowLane highLane w, _ => (m.writeLanes t.address lowLane highLane w, 0#16)

/-- The memory after a transfer in flight is lost with the supply: the selected lanes of a write hold the word that the
devices kept (R21). -/
def Memory.cutOff (m : Memory) (t : Transfer) (kept : Word) : Memory :=
  match t.action with
  | .read => m
  | .write lowLane highLane _ => m.writeLanes t.address lowLane highLane kept

end Sys2Proof.Machine
end

