-- ==== Sys2Proof/Machine/Bus.lean ====
section
/-! DEFINITION. Chapter 1: the memory port's requests and its arbiter, and the processor port's states. -/

namespace Sys2Proof.Machine

/-! ## Requests (R14) -/

/-- A requester's pending request. -/
def BusPath.request (b : BusPath) : Requester → Option Transfer
  | .P => b.requestP
  | .R => b.requestR
  | .L => b.requestL
  | .S => b.requestS

/-- The Bus Path with a requester's pending request set. -/
def BusPath.setRequest (b : BusPath) (who : Requester) (t : Option Transfer) : BusPath :=
  match who with
  | .P => { b with requestP := t }
  | .R => { b with requestR := t }
  | .L => { b with requestL := t }
  | .S => { b with requestS := t }

/-- Presents a requester's transfer to the arbiter (R14). -/
def Chip.present (who : Requester) (t : Transfer) (c : Chip) : Chip := { c with bus := c.bus.setRequest who (some t) }

/-- Presents a read of a word. -/
def Chip.presentRead (who : Requester) (a : Addr) (c : Chip) : Chip := c.present who ⟨a, .read⟩

/-- Presents a whole-word write. -/
def Chip.presentWrite (who : Requester) (a : Addr) (w : Word) (c : Chip) : Chip := c.present who ⟨a, .write true true w⟩

/-- The memory port after a requester gives up the operation a transfer in flight belongs to: its data will be discarded
(R14). -/
def MemPort.disown (who : Requester) : MemPort → MemPort
  | .busy w t live => if w = who then .busy w t false else .busy w t live
  | .free => .free
  | .parked => .parked

/-- A requester gives up its operation: a request not yet granted is withdrawn, the data of a transfer in flight will be
discarded (R14). -/
def Chip.giveUp (who : Requester) (c : Chip) : Chip :=
  let b := c.bus.setRequest who none
  { c with bus := { b with memPort := b.memPort.disown who } }

/-! ## The arbiter (R15–R18) -/

/-- Whether an internal request is pending. -/
def BusPath.internalPending (b : BusPath) : Bool := b.requestR.isSome || b.requestL.isSome || b.requestS.isSome

/-- The requester R15 grants a FREE port to. -/
def BusPath.winner (b : BusPath) (limit : Nat) : Option Requester :=
  if b.requestP.isSome ∧ b.starvation < limit then some .P
  else if b.requestR.isSome then some .R
  else if b.requestL.isSome then some .L
  else if b.requestS.isSome then some .S
  else if b.requestP.isSome then some .P
  else none

/-- The processor port when its cycle is granted the memory port: TRANSFER (R5, R12). -/
def Port.granted : Port → Port
  | .held cycle .memoryPort => .transfer cycle false
  | p => p

/-- The Bus Path with the port granted to a requester by arbitration (R15, R17). -/
def BusPath.grantTo (b : BusPath) (who : Requester) : BusPath :=
  match b.request who with
  | none => b
  | some t =>
    let b' := { b.setRequest who none with memPort := .busy who t true }
    match who with
    | .P =>
      { b' with
        port := b.port.granted
        starvation := if b.internalPending then b.starvation + 1 else b.starvation
        burst := 0 }
    | .R | .L | .S => { b' with starvation := 0, burst := 1 }

/-- With the port FREE, grants one pending request if there is one (R15). -/
def Chip.arbitrate (c : Chip) : Chip :=
  match c.bus.memPort with
  | .free =>
    match c.bus.winner c.params.starvationLimit with
    | some who => { c with bus := c.bus.grantTo who }
    | none => c
  | .parked => c
  | .busy _ _ _ => c

/-- Ends parking: the port becomes FREE, and the arbitration at the end of the step grants it (R16). A cycle decided PASS
while the port is PARKED is granted by that arbitration in exactly the cases of R16's second row, and loses to the
internal requester in the third row's. -/
def Chip.unpark (c : Chip) : Chip :=
  match c.bus.memPort with
  | .parked => { c with bus.memPort := .free }
  | .free => c
  | .busy _ _ _ => c

/-- After an internal requester's transfer has completed: its presented next transfer starts at once while P is not
waiting and the burst count is below 8; otherwise the port becomes FREE (R17, R18). -/
def Chip.endInternal (who : Requester) (c : Chip) : Chip :=
  match c.bus.request who with
  | some t =>
    if c.bus.requestP = none ∧ c.bus.burst < Config.burstLimit then
      { c with bus := { c.bus.setRequest who none with
          memPort := .busy who t true, starvation := 0, burst := c.bus.burst + 1 } }
    else { c with bus.memPort := .free }
  | none => { c with bus.memPort := .free }

/-- After a P transfer has completed: PARKED while the chip select is asserted, else FREE (R16). -/
def Chip.endPass (c : Chip) : Chip :=
  { c with bus.memPort := if c.pins.chipSelect then .parked else .free }

/-! ## The processor port (R1–R8, R13, R20) -/

/-- The write data of the cycle record: the byte on each selected lane of a WRITE. What the record does not hold, an
unselected lane and the data of a READ, stands as 0 and is never read (R1, R2). -/
def capturedData (b : BusCycle) : Word :=
  (if b.writeStrobe && b.highLane then highByte b.data else 0#8)
    ++ (if b.writeStrobe && b.lowLane then lowByte b.data else 0#8)

/-- The cycle record captured at an arrival (R1). Both strobes together make a WRITE. -/
def captureCycle (b : BusCycle) : CycleRecord where
  address := wordAddress b.address
  lowLane := b.lowLane
  highLane := b.highLane
  direction := if b.writeStrobe then .write else .read
  data := capturedData b
  decision := none

/-- Whether no lane is selected (R2). -/
def CycleRecord.emptyLanes (y : CycleRecord) : Bool := !y.lowLane && !y.highLane

/-- The transfer that serves a PASS: both lanes for a READ, the cycle's lanes and data for a WRITE (R5). -/
def CycleRecord.transfer (y : CycleRecord) : Transfer :=
  match y.direction with
  | .read => ⟨y.address, .read⟩
  | .write => ⟨y.address, .write y.lowLane y.highLane y.data⟩

/-- Completes a cycle: the port enters DONE; read data only for a READ (R8). -/
def Chip.completeCycle (y : CycleRecord) (data : Word) (c : Chip) : Chip :=
  { c with bus.port := .done y (match y.direction with | .read => some data | .write => none) }

/-- Puts a cycle in a hold. -/
def Chip.holdCycle (y : CycleRecord) (why : HoldReason) (c : Chip) : Chip := { c with bus.port := .held y why }

/-- A PASS asks the arbiter for the memory port and waits for it (R12). -/
def Chip.askPort (y : CycleRecord) (c : Chip) : Chip := (c.holdCycle y .memoryPort).present .P y.transfer

/-- What the withdrawal or the abandoning of the cycle in flight does to it before ready has been returned (R13, R20):
discarded in GATED and HELD, with P's request removed; in TRANSFER it goes on without its cycle. -/
def Chip.dropCycle (c : Chip) : Chip :=
  match c.bus.port with
  | .gated _ => { c with bus.port := .idle }
  | .held _ .memoryPort => { c with bus := { c.bus with port := .idle, requestP := none } }
  | .held _ .pageLoading => { c with bus.port := .idle }
  | .held _ .windowOpening => { c with bus.port := .idle }
  | .transfer y _ => { c with bus.port := .transfer y true }
  | .done _ _ => c
  | .idle => c

end Sys2Proof.Machine
end

