-- ==== Sys2Proof/Machine/WindowMap.lean ====
section
/-! DEFINITION. Chapter 2: resolution of an address, and the load of the map, its faults, page bindings and scan
group. -/

namespace Sys2Proof.Machine

/-! ## Resolution (R28) -/

/-- The windows with an index, from the highest rank to the lowest (R28). -/
def rankOrder : List Win :=
  [3, 2, 1, 0, 23, 22, 21, 20, 19, 18, 17, 16, 15, 14, 13, 12, 11, 10, 9, 8, 7, 6, 5, 4]

/-- Whether window `w` is enabled and its range contains the address. -/
def WindowMap.contains (m : WindowMap) (a : Addr) (w : Win) : Bool :=
  m.descriptors[w].standing == .enabled && inRange m.descriptors[w].base m.descriptors[w].exponent a

/-- Whether the IMAGE window contains the address (R25). -/
def WindowMap.inImage (m : WindowMap) (a : Addr) : Bool :=
  match m.imageBase with
  | none => false
  | some b => inRange b 12 a

/-- Whether the RECORD window contains the address (R26). -/
def WindowMap.inRecord (m : WindowMap) (a : Addr) : Bool :=
  match m.record with
  | none => false
  | some p => inRange p.base p.exponent a

/-- Whether the address lies in the reference table region, 280h–33Fh of the IMAGE window (R25). -/
def WindowMap.inRefTable (m : WindowMap) (a : Addr) : Bool :=
  match m.imageBase with
  | none => false
  | some b => decide (b.toNat + 0x280 ≤ a.toNat) && decide (a.toNat < b.toNat + 0x340)

/-- The owner of an address: the highest-ranked window that contains it, else the background (R28). -/
def WindowMap.ownerOf (m : WindowMap) (a : Addr) : Owner :=
  if m.inImage a then .image
  else if m.inRecord a then .record
  else match rankOrder.find? (m.contains a) with
    | some w => .window w
    | none => .background

/-- A window's effective class (R22). -/
def WindowMap.windowClass (m : WindowMap) (w : Win) : SiteClass := m.descriptors[w].siteClass.getD .calibration

/-- The class of an owner (R28). -/
def WindowMap.classOf (m : WindowMap) : Owner → OwnerClass
  | .image => .image
  | .record => .record
  | .window w => .site (m.windowClass w)
  | .background => .site m.background

/-- The word's position in a window that starts at `base` (R28). -/
def pageWordOf (base a : Addr) : Nat := (a.toNat - base.toNat) / 2

/-- The answer to a resolution request (R28). -/
def WindowMap.resolve (m : WindowMap) (a : Addr) : Resolution :=
  let owner := m.ownerOf a
  let cls := m.classOf owner
  match owner with
  | .window w =>
    if cls = .site .trim then ⟨owner, cls, m.descriptors[w].page, pageWordOf m.descriptors[w].base a, false⟩
    else ⟨owner, cls, none, 0, false⟩
  | .image => ⟨owner, cls, none, 0, m.inRefTable a⟩
  | .record => ⟨owner, cls, none, 0, false⟩
  | .background => ⟨owner, cls, none, 0, false⟩

/-- The number of words in a window's range (R24). -/
def WindowMap.spanOf (m : WindowMap) (w : Win) : Nat := 2 ^ (m.descriptors[w].exponent - 1)

/-- The address of word `i` of a window's range. -/
def WindowMap.wordOf (m : WindowMap) (w : Win) (i : Nat) : Addr := m.descriptors[w].base + BitVec.ofNat 24 (2 * i)

/-- Whether window `w` owns word `i` of its range (R29). -/
def WindowMap.owns (m : WindowMap) (w : Win) (i : Nat) : Bool := m.ownerOf (m.wordOf w i) == .window w

/-- The first of the next `fuel` words of a window's range from `i` on that the window owns (R30). -/
def WindowMap.nextOwned (m : WindowMap) (w : Win) : Nat → Nat → Option Nat
  | 0, _ => none
  | fuel + 1, i => if m.owns w i then some i else m.nextOwned w fuel (i + 1)

/-- The first word of the window's range at or after `i` that the window owns. -/
def WindowMap.ownedAt (m : WindowMap) (w : Win) (i : Nat) : Option Nat := m.nextOwned w (m.spanOf w - i) i

/-! ## The load-fault set (R35) -/

/-- Adds an entry; the first one of a start-up sets the LOAD_FAULT notice (R35). -/
def Chip.addFault (f : LoadItem × FaultKind) (c : Chip) : Chip :=
  let c' := { c with map.loadFaults := c.map.loadFaults ++ [f] }
  if c.map.loadFaults.isEmpty then c'.notify .loadFault else c'

/-- Adds entries in order. -/
def Chip.addFaults (fs : List (LoadItem × FaultKind)) (c : Chip) : Chip := fs.foldl (fun c f => c.addFault f) c

/-! ## Checks on descriptors (R32, R33) -/

/-- The standing and fault kind of a descriptor as read: the first check that applies (R32), and PAGE_IGNORED (R33). -/
def checkDescriptor (raw : BitVec 64) : Descriptor :=
  let d : Descriptor := ⟨raw, .enabled, none⟩
  if !d.asked then ⟨raw, .switchedOff, none⟩
  else match d.siteClass with
    | none => ⟨raw, .faulted, some .classCode⟩
    | some cls =>
      if d.exponent < 10 ∨ 24 < d.exponent then ⟨raw, .faulted, some .size⟩
      else if d.base.toNat % 2 ^ d.exponent ≠ 0 then ⟨raw, .faulted, some .align⟩
      else if cls = .trim ∧ 11 < d.exponent then ⟨raw, .faulted, some .trimSize⟩
      else if cls = .trim ∧ d.pageRead = none then ⟨raw, .faulted, some .noPage⟩
      else if cls ≠ .trim ∧ d.pageRead ≠ none then ⟨raw, .enabled, some .pageIgnored⟩
      else d

/-- The load-fault entries of the descriptors with indexes for which `pick` holds. -/
def descriptorFaults (ds : Vector Descriptor 24) (pick : Win → Bool) : List (LoadItem × FaultKind) :=
  (List.finRange 24).filterMap fun w =>
    if pick w then ds[w].fault.map fun k => (.descriptor w, k) else none

/-- Whether a descriptor with a higher index keeps the page that TRIM descriptor `w` names (R34). -/
def pageTaken (ds : Vector Descriptor 24) (w : Win) : Bool :=
  ds[w].isTrim && (List.finRange 24).any fun v => decide (w < v) && ds[v].isTrim && ds[v].pageRead == ds[w].pageRead

/-- The descriptors after page ownership is settled (R34). -/
def settlePages (ds : Vector Descriptor 24) : Vector Descriptor 24 :=
  Vector.ofFn fun w : Win => if pageTaken ds w then ⟨ds[w].raw, .faulted, some .pageTaken⟩ else ds[w]

/-- The page bindings (R36). -/
def bindPages (ds : Vector Descriptor 24) : Vector (Option Win) 8 :=
  Vector.ofFn fun p : PageNo => (List.finRange 24).find? fun w => ds[w].page == some p

/-- The scan group (R38). -/
def scanGroupOf (ds : Vector Descriptor 24) : List Win :=
  (List.finRange 24).filter fun w => ds[w].standing == .enabled && ds[w].siteClass != some .openWindow

/-! ## The two steps of the load (R31) -/

/-- Step 1, at the fuse read: the anchors, checked, and the image base (R31, R178). They stand in the map from here on, as
step 1 of R31, R25 and R178 have it, and not from the end of step 2 only, as the last paragraph of R31 has it: the
model's choice (log entry 28). -/
def Chip.loadAnchors (f : FuseBlock) (c : Chip) : Chip :=
  let ds : Vector Descriptor 24 :=
    Vector.ofFn fun w : Win => if h : w.val < 4 then checkDescriptor f.anchors[w.val] else c.map.descriptors[w]
  let base : Addr := f.imageBase.extractLsb' 0 12 ++ 0#12
  { c with map.descriptors := ds, map.imageBase := some base }.addFaults
    (descriptorFaults ds fun w => decide (w.val < 4))

/-- The RECORD window's default: 4 KiB, 4096 bytes above the image base, modulo the address space (R26). -/
def defaultPlacement (imageBase : Addr) : Placement := ⟨imageBase + 4096#24, 12⟩

/-- Whether a RECORD placement is valid (R26). -/
def placementValid (imageBase : Addr) (p : Placement) : Bool :=
  decide (12 ≤ p.exponent) && decide (p.exponent ≤ 20) && p.base.toNat % 2 ^ p.exponent == 0
    && !inRange p.base p.exponent imageBase

/-- The RECORD placement and background class of a valid image, with their load-fault entries (R26, R27). -/
def headerWindows (img : List Word) (imageBase : Addr) : Placement × SiteClass × List (LoadItem × FaultKind) :=
  let p : Placement := ⟨imgAddr img 0x02, (imgByte img 0x05).toNat⟩
  let (place, f1) :=
    if placementValid imageBase p then (p, []) else (defaultPlacement imageBase, [(.record, .recordPlace)])
  let (cls, f2) := match (imgByte img 0x06).toNat with
    | 1 => (SiteClass.openWindow, [])
    | 2 => (SiteClass.calibration, [])
    | _ => (SiteClass.openWindow, [(LoadItem.backgroundClass, FaultKind.range)])
  (place, cls, f1 ++ f2)

/-- The descriptors with the sites taken from a valid image and checked (R31, R32). -/
def takeSites (ds : Vector Descriptor 24) (img : List Word) : Vector Descriptor 24 :=
  Vector.ofFn fun w : Win => if w.val < 4 then ds[w] else checkDescriptor (imgDescriptor img w.val)

/-- The descriptors of the degraded map (R37). -/
def dropSites (ds : Vector Descriptor 24) : Vector Descriptor 24 :=
  Vector.ofFn fun w : Win => if w.val < 4 then ds[w] else ⟨0#64, .notLoaded, none⟩

/-- Page ownership, bindings, page states and scan group, from checked descriptors (R34, R36, R38). -/
def Chip.completeMap (ds : Vector Descriptor 24) (c : Chip) : Chip :=
  let settled := settlePages ds
  let bound := bindPages settled
  { c with
    map.descriptors := settled
    map.bindings := bound
    map.scanGroup := scanGroupOf settled
    overlay.pages := Vector.ofFn fun p : PageNo =>
      ⟨if bound[p].isSome then .closed else .unbound, c.overlay.pages[p].words⟩ }.addFaults
    (descriptorFaults settled fun w => settled[w].fault == some FaultKind.pageTaken)

/-- Step 2, at the image read (R31): the map of a valid image, or the degraded map (R37). `img` are the words of the
checked part. -/
def Chip.loadMap (img : List Word) (c : Chip) : Chip :=
  let base := c.map.imageBase.getD 0#24
  if c.params.image = .valid then
    let ds := takeSites c.map.descriptors img
    let (place, cls, faults) := headerWindows img base
    ({ c with map.record := some place, map.background := cls }.addFaults
      (faults ++ descriptorFaults ds fun w => decide (4 ≤ w.val))).completeMap ds
  else
    { c with map.record := some (defaultPlacement base), map.background := .calibration }.completeMap
      (dropSites c.map.descriptors)

end Sys2Proof.Machine
end

