-- ==== Sys2Proof/Machine/Overlay.lean ====
section
/-! DEFINITION. Chapter 6: overlay pages, the limit arithmetic, overlay service, loading and closing. -/

namespace Sys2Proof.Machine

/-! ## Page words -/

/-- The page word `n` of a page. -/
def Page.word (p : Page) (n : Nat) : PageWord := Sparse.get PageWord.cleared p.words n

/-- The page with page word `n` set. -/
def Page.setWord (p : Page) (n : Nat) (w : PageWord) : Page := { p with words := Sparse.set PageWord.cleared p.words n w }

/-- The page in LOADING: every word's loaded, dirty and clamp marks cleared (R111). -/
def Page.enterLoading (p : Page) : Page where
  state := .loading
  words := Sparse.mapEntries PageWord.cleared
    (fun w => { w with loaded := false, dirty := false, clamped := false }) p.words

/-- The page closed: every word cleared (R121). -/
def Page.close (p : Page) : Page :=
  match p.state with
  | .unbound => p
  | .closed => p
  | .loading => ⟨.closed, []⟩
  | .opened => ⟨.closed, []⟩
  | .committing => ⟨.closed, []⟩

/-- The chip with one page changed. -/
def Chip.setPage (n : PageNo) (p : Page) (c : Chip) : Chip := { c with overlay.pages := c.overlay.pages.set n p }

/-- The first served page word of page `p` at or after `n`, with its address (R109, R112). -/
def Chip.servedAt (c : Chip) (p : PageNo) (n : Nat) : Option (Nat × Addr) :=
  match c.map.bindings[p] with
  | none => none
  | some w => (c.map.ownedAt w n).map fun i => (i, c.map.wordOf w i)

/-- Whether page word `n` of page `p` is a served word (R109). -/
def Chip.served (c : Chip) (p : PageNo) (n : Nat) : Bool :=
  match c.map.bindings[p] with
  | none => false
  | some w => decide (n < c.map.spanOf w) && c.map.owns w n

/-! ## The limit arithmetic (R128–R130) -/

/-- The step limit's intermediate value (R129). -/
def stepLimited (x b : Int) (s : Nat) : Int :=
  if s = 0 then x
  else if x < b - s then b - s
  else if b + s < x then b + s
  else x

/-- The bounds' final value (R130). -/
def boundLimited (x lower upper : Int) : Int := if x < lower then lower else if upper < x then upper else x

/-- The stored word of the limit arithmetic for an intended word and a baseline (R128–R130). -/
def LimitRecord.apply (l : LimitRecord) (intended baseline : Word) : Word :=
  BitVec.ofInt 16
    (boundLimited (stepLimited (l.read intended) (l.read baseline) l.step) (l.read l.lower) (l.read l.upper))

/-- The governing record of a page word of window `w` (R126). -/
def Chip.governing (c : Chip) (w : Win) (n : Nat) : Option LimitNo :=
  (List.finRange 32).find? fun j =>
    c.overlay.limits[j].standing == .enabled && c.overlay.limits[j].window == w.val && c.overlay.limits[j].offset == n

/-! ## Overlay service (R115–R118) -/

/-- The intended word: the written lanes over the page word's current value (R116). -/
def CycleRecord.merge (y : CycleRecord) (v : Word) : Word :=
  (if y.highLane then highByte y.data else highByte v) ++ (if y.lowLane then lowByte y.data else lowByte v)

/-- The word an OVERLAY WRITE stores (R116). -/
def Chip.storedWord (c : Chip) (limit : Option LimitNo) (x : Word) (w : PageWord) : Word :=
  match limit with
  | none => x
  | some j => c.overlay.limits[j].apply x w.baseline

/-- Serves an OVERLAY WRITE at its page word: stores the word, marks it dirty, and counts a CLAMP (R61, R116, R117). -/
def Chip.storeOverlay (y : CycleRecord) (limit : Option LimitNo) (p : PageNo) (n : Nat) (c : Chip) : Chip :=
  let w := c.overlay.pages[p].word n
  let x := y.merge w.value
  let s := c.storedWord limit x w
  let c' := c.setPage p (c.overlay.pages[p].setWord n { w with value := s, dirty := true, clamped := s != x })
  if s = x then c' else { c' with grant.record.clamped := satInc c.grant.record.clamped }

/-- Takes a page word for a commit: the baseline takes the value, the dirty and clamp marks clear (R118). -/
def Chip.take (p : PageNo) (n : Nat) (c : Chip) : Chip :=
  let w := c.overlay.pages[p].word n
  c.setPage p (c.overlay.pages[p].setWord n { w with baseline := w.value, dirty := false, clamped := false })

/-- A loaded page word: value and baseline are the data read (R112). -/
def Chip.loadOverlay (p : PageNo) (n : Nat) (data : Word) (c : Chip) : Chip :=
  c.setPage p (c.overlay.pages[p].setWord n ⟨data, data, true, false, false⟩)

/-! ## The idle timer (R72) -/

/-- A served-write report: restarts the idle timer of a grant in force when it names a window in the scope (R8, R72). -/
def Chip.reportServed (owner : Owner) (c : Chip) : Chip :=
  match owner with
  | .window w =>
    if (c.grant.state = .active ∨ c.grant.state = .suspended) ∧ hasWin c.grant.record.scope w then
      { c with grant.record.idleRemaining := idleLimit c.grant.record.idleChoice }
    else c
  | .image | .record | .background => c

/-- Serves an OVERLAY WRITE whole: the store, the cycle's completion and the served-write report (R6, R8). -/
def Chip.serveOverlayWrite (y : CycleRecord) (limit : Option LimitNo) (r : Resolution) (c : Chip) : Chip :=
  match r.page with
  | none => c.completeCycle y 0#16
  | some p => ((c.storeOverlay y limit p r.pageWord).completeCycle y 0#16).reportServed r.owner

/-- Serves the write held for PAGE LOADING on page `p`, if there is one (R10, R113). -/
def Chip.serveHeld (p : PageNo) (c : Chip) : Chip :=
  match c.bus.port with
  | .held y .pageLoading =>
    match y.decision with
    | some d =>
      if d.resolution.page = some p then
        match d.service with
        | .overlayWrite limit => c.serveOverlayWrite y limit d.resolution
        | .pass | .overlayRead | .fill | .drop => c
      else c
    | none => c
  | _ => c

/-! ## Loading (R111–R114) -/

/-- A page enters OPEN, and the write held on it is served in the same change (R113). -/
def Chip.openPage (p : PageNo) (c : Chip) : Chip :=
  (c.setPage p { c.overlay.pages[p] with state := .opened }).serveHeld p

/-- The loader at page word `n` of the first page of this queue: it presents the read of the next served word, or, where
there is none, opens the page and turns to the next one (R112, R113). -/
def Chip.loadAlong : List PageNo → Nat → Chip → Chip
  | [], _, c => { c with overlay.queue := [] }
  | p :: rest, n, c =>
    match c.servedAt p n with
    | some (i, a) => { c with overlay.queue := p :: rest, overlay.loadWord := i }.presentRead .L a
    | none => Chip.loadAlong rest 0 (c.openPage p)

/-- Pages enter LOADING and join the load queue in this order; an idle loader starts on the first (R111). -/
def Chip.startLoads (ps : List PageNo) (c : Chip) : Chip :=
  let c' := ps.foldl (fun c p => c.setPage p c.overlay.pages[p].enterLoading) c
  match c.overlay.queue with
  | [] => Chip.loadAlong ps 0 c'
  | q :: qs => { c' with overlay.queue := (q :: qs) ++ ps }

/-- The loader's read has completed: the word is loaded and the loader goes on (R112). -/
def Chip.loaderRead (data : Word) (c : Chip) : Chip :=
  match c.overlay.queue with
  | [] => c
  | p :: rest => Chip.loadAlong (p :: rest) (c.overlay.loadWord + 1) (c.loadOverlay p c.overlay.loadWord data)

/-- The write held for PAGE LOADING completes as a DROP (R10). -/
def Chip.dropHeld (c : Chip) : Chip :=
  match c.bus.port with
  | .held y .pageLoading => c.completeCycle y 0#16
  | _ => c

/-- The close of a grant's ending: every page in use enters CLOSED, the load queue empties, the loader stops, and a write
held for PAGE LOADING completes as a DROP (R10, R114, R121). -/
def Chip.closePages (c : Chip) : Chip :=
  ({ c with
     overlay.pages := Vector.ofFn fun p : PageNo => c.overlay.pages[p].close
     overlay.queue := [] }.giveUp .L).dropHeld

end Sys2Proof.Machine
end

