-- ==== Sys2Proof/Machine/Queue.lean ====
section
/-! DEFINITION. The two request queues that join the blocks: the append queue (R136) and the sum request queue
(R169); and changes that make their requests together. -/

namespace Sys2Proof.Machine

/-- Whether the append queue has a place (R136). -/
def Chip.queueHasPlace (c : Chip) : Bool := decide (c.engine.queue.length < Config.appendPlaces)

/-- Asks for an append: the request joins the queue, or waits for a place behind those that wait already (R136). -/
def Chip.requestAppend (r : AppendRequest) (c : Chip) : Chip :=
  if c.queueHasPlace then { c with engine.queue := c.engine.queue ++ [r] }
  else { c with engine.waiting := c.engine.waiting ++ [.append r] }

/-- An unclaimed append of the given source. -/
def Chip.append (source : AppendSource) (kind : AppendKind) (c : Chip) : Chip :=
  c.requestAppend ⟨kind, source, false, 0⟩

/-- A claimed append of the commit sequencer (R141). -/
def Chip.appendClaimed (kind : AppendKind) (c : Chip) : Chip := c.requestAppend ⟨kind, .commit, true, 0⟩

/-- Claims slots, which may set RECORDS_LOW (R140, R141, R144). -/
def Chip.claim (n : Nat) (c : Chip) : Chip :=
  { c with engine.claimed := c.engine.claimed + n }.watchLow c.freeSlots

/-! ## Requests made together (R136) -/

/-- Changes made one after the other. -/
def Chip.inOrder (fs : List (Chip → Chip)) (c : Chip) : Chip := fs.foldl (fun c f => f c) c

/-- The next free value that orders two changes made together is drawn. -/
def Chip.drawn (c : Chip) : Chip := { c with draws := c.draws + 1 }

/-- Two chains of changes made together, whose append requests may join in either order (R136): each chain keeps its own
order, and a free value says which chain makes its next change first (log entry 6). `choices` bounds the number of
choices. -/
def Chip.together : Nat → List (Chip → Chip) → List (Chip → Chip) → Chip → Chip
  | choices + 1, f :: fs, g :: gs, c =>
    if Config.laterFirst c.draws then Chip.together choices (f :: fs) gs (g c.drawn)
    else Chip.together choices fs (g :: gs) (f c.drawn)
  | _, fs, gs, c => c.inOrder (fs ++ gs)

/-! ## The sum request queue (R169) -/

/-- The sum request queue with a request for a window: merged into a waiting request for the same window, else at the
end (R169). -/
def mergeSum (w : Win) (client : SumClient) : List SumRequest → List SumRequest
  | [] => [⟨w, [client]⟩]
  | r :: rest => if r.window = w then ⟨w, r.clients ++ [client]⟩ :: rest else r :: mergeSum w client rest

/-- Asks the Integrity Scanner for a window's sum (R169). -/
def Chip.requestSum (w : Win) (client : SumClient) (c : Chip) : Chip :=
  { c with scanner.queue := mergeSum w client c.scanner.queue }

end Sys2Proof.Machine
end

