-- ==== Sys2Proof/Machine/Grant.lean ====
section
/-! DEFINITION. Chapter 4: admission, opening, motion events, timers, the ending procedure, strikes and lockout. -/

namespace Sys2Proof.Machine

/-! ## Motion conditions (R63) -/

/-- The motion condition of a level, judged against the controller's view (R63). -/
def MotionView.allows (v : MotionView) : Level → Bool
  | .adjust => v.road == .stationary
  | .reflash => v.road == .stationary && v.engine == .stopped && v.park == .applied
  | .factory => v.road == .stationary && v.engine == .stopped && v.park == .applied

/-- Whether the motion condition of the grant's level holds. -/
def GrantController.conditionHolds (g : GrantController) : Bool :=
  match g.record.level with
  | none => false
  | some l => g.view.allows l

/-- The view after a motion event (R63). -/
def MotionView.take (v : MotionView) : MotionEvent → MotionView
  | .engine s => { v with engine := s }
  | .road s => { v with road := s }
  | .park s => { v with park := s }

/-! ## The ending procedure (R76–R80) -/

/-- The GRANT_END append of the grant that is ending (R79). -/
def GrantRecord.endAppend (r : GrantRecord) : AppendKind :=
  .grantEnd (r.endReason.getD .none) r.workshop r.elapsed r.commitCount r.rewritten r.clamped r.beginSeq r.timeStamp

/-- The closing sums still to take: with none left the GRANT_END append is queued (R78, R79). -/
def Chip.closeWindows (left : List Win) (c : Chip) : Chip :=
  match left with
  | [] => { c with grant.step := .grantEnd }.append .grant c.grant.record.endAppend
  | w :: ws => { c with grant.step := .closing (w :: ws) false }

/-- The close of the pages and the steps after it (R77–R79). -/
def Chip.closeGrant (c : Chip) : Chip := c.closePages.closeWindows (winsOf c.grant.record.rewritten)

/-- The entry to ENDING: the end reason is set, the timers freeze, and the procedure waits for a commit in flight or
goes on at once (R76, R77). -/
def Chip.beginEnding (reason : EndReason) (c : Chip) : Chip :=
  let c' := { c with
    grant.state := .ending
    grant.record.endReason := some reason
    grant.record.suspendRemaining := none }
  if c.commitInFlight then { c' with grant.step := .commit } else c'.closeGrant

/-- An end cause (R67, R75): ends a grant in force, becomes the pending end reason of one in OPENING that has none, and
has no effect otherwise. -/
def Chip.endCause (reason : EndReason) (c : Chip) : Chip :=
  match c.grant.state with
  | .active | .suspended => c.beginEnding reason
  | .opening =>
    if c.grant.record.pendingEnd = none then { c with grant.record.pendingEnd := some reason } else c
  | .ending | .idle => c

/-- The tamper cause, which applies at ADJUST and REFLASH only (R75). -/
def Chip.tamperCause (c : Chip) : Chip :=
  if c.grant.record.level = some .factory then c else c.endCause .tamper

/-- The grant record and the announcement states emptied (R61, R99). Of a grant that is still ENDING the announcement
states stand till here in AFTER_RUN too: the model's reading of R99 beside R107 (log entry 26). -/
def Chip.emptyGrant (c : Chip) : Chip :=
  { c with
    grant.state := .idle
    grant.record := .empty
    grant.step := .none
    adu.announcements := .replicate 24 none }

/-- The end of the ending, at the completion of the GRANT_END append (R80). -/
def Chip.endingComplete (c : Chip) : Chip :=
  ({ c with grant.lastEnd := c.grant.record.endReason.getD .none }.emptyGrant).notify .grantEnded

/-- A closing sum is delivered: the WINDOW_SUM is queued (R78). -/
def Chip.closingSum (w : Win) (sum : DWord) (c : Chip) : Chip :=
  match c.grant.step with
  | .closing (_ :: _) true => c.append .grant (.windowSum w .reflash sum)
  | _ => c

/-- The procedure then goes on to the next window, or to its GRANT_END after the last (R78, R79). -/
def Chip.closingGoesOn (c : Chip) : Chip :=
  match c.grant.step with
  | .closing (_ :: rest) true => c.closeWindows rest
  | _ => c

/-- Whether a pass write to window `w` is held for WINDOW OPENING or MEMORY PORT or in flight, withdrawn or not (R78). -/
def Port.passWriteTo (w : Win) : Port → Bool
  | .held y .windowOpening => y.direction == .write && (y.decision.map (·.resolution.owner)) == some (.window w)
  | .held y .memoryPort => y.direction == .write && (y.decision.map (·.resolution.owner)) == some (.window w)
  | .transfer y _ => y.direction == .write && (y.decision.map (·.resolution.owner)) == some (.window w)
  | .held _ .pageLoading => false
  | .idle => false
  | .gated _ => false
  | .done _ _ => false

/-- The ending asks for the next rewritten window's sum once no pass write to it remains (R78). -/
def Chip.askClosingSum (c : Chip) : Chip :=
  match c.grant.step with
  | .closing (w :: rest) false =>
    if c.bus.port.passWriteTo w then c
    else { c with grant.step := .closing (w :: rest) true }.requestSum w .closing
  | _ => c

/-! ## Motion events (R63, R68, R69) -/

/-- The judgement of an ACTIVE or SUSPENDED grant after an event has updated the view (R68, R69). -/
def Chip.judgeMotion (e : MotionEvent) (c : Chip) : Chip :=
  match c.grant.state with
  | .active =>
    if e = MotionEvent.road RoadState.moving then c.beginEnding .motion
    else if c.grant.conditionHolds then c
    else { c with grant.state := .suspended, grant.record.suspendRemaining := some c.params.suspendLimit }
  | .suspended =>
    if e = MotionEvent.road RoadState.moving then c.beginEnding .motion
    else if c.grant.conditionHolds then
      { c with grant.state := .active, grant.record.suspendRemaining := none }
    else c
  | .idle | .opening | .ending => c

/-- A motion event is taken (R57, R63, R68, R69). -/
def Chip.motionEvent (c : Chip) (e : MotionEvent) : Chip :=
  { c with grant.view := c.grant.view.take e }.judgeMotion e

/-- Motion events taken in order. -/
def Chip.motionEvents (es : List MotionEvent) (c : Chip) : Chip := es.foldl Chip.motionEvent c

/-! ## Admission and opening (R65–R67) -/

/-- The scope after dropping every index that does not name an enabled window (R65). -/
def Chip.admittedScope (scope : DWord) (c : Chip) : WindowSet :=
  (List.finRange 24).foldl
    (fun s w => if scope.getLsbD w.val && c.map.descriptors[w].standing == .enabled then addWin s w else s) 0#24

/-- The seven checks of a GRANT request in order: the reply of the first that fails (R65). -/
def Chip.grantRefusal (f : GrantFields) (c : Chip) : Option ResultCode :=
  if c.grant.state ≠ .idle then some .busy
  else if c.scanner.cycleChecked = false then some .notReady
  else if c.params.image = .invalid ∧ belowFactory f.level then some .degraded
  else if c.lockout then some .locked
  else if c.tamperFlag ∧ belowFactory f.level then some .tampered
  else if levelOfCode f.level = none ∨ f.duration = 0#16 ∨ 7 < f.idleChoice.toNat then some .badArg
  else if c.freeSlots ≤ Config.reserve + 2 then some .noSpace
  else none

/-- The grant record at admission (R66). -/
def Chip.admittedRecord (f : GrantFields) (c : Chip) : GrantRecord :=
  { GrantRecord.empty with
    level := levelOfCode f.level
    scope := c.admittedScope f.scope
    workshop := f.workshop
    timeStamp := f.timeStamp
    duration := min f.duration.toNat 240
    idleChoice := f.idleChoice.toNat }

/-- Admission (R66). -/
def Chip.admitGrant (f : GrantFields) (c : Chip) : Chip :=
  let r := c.admittedRecord f
  { c with grant.state := .opening, grant.record := r }.append .grant
    (.grantBegin (r.level.getD .adjust) r.workshop r.timeStamp r.scope r.duration r.idleChoice)

/-- The pages bound to windows in the scope, in ascending page number (R67). -/
def Chip.scopePages (c : Chip) : List PageNo :=
  (List.finRange 8).filter fun p =>
    match c.map.bindings[p] with
    | none => false
    | some w => hasWin c.grant.record.scope w && c.overlay.pages[p].state == .closed

/-- A grant takes force: its timers are set and its pages begin loading (R67). -/
def Chip.takeForce (state : GrantState) (suspend : Option Nat) (c : Chip) : Chip :=
  let c' := { c with
    grant.state := state
    grant.record.suspendRemaining := suspend
    grant.record.remaining := c.grant.record.duration * 60
    grant.record.idleRemaining := idleLimit c.grant.record.idleChoice
    grant.record.elapsed := 0 }
  c'.startLoads c'.scopePages

/-- The end of the opening at the completion of a written GRANT_BEGIN (R67). -/
def Chip.openingEnds (seq : Nat) (c : Chip) : Chip :=
  let begun : Chip := { c with grant.record.beginSeq := seq }
  let opened : Chip := match begun.grant.record.pendingEnd with
    | some reason => begun.beginEnding reason
    | none =>
      if begun.grant.view.road = RoadState.moving then begun.beginEnding .motion
      else if begun.grant.conditionHolds then begun.takeForce .active none
      else begun.takeForce .suspended (some begun.params.suspendLimit)
  opened.completePending 0x02#8 .ok

/-- The Grant Controller is told that its GRANT_BEGIN was written; only a grant in OPENING waits for that (R67). -/
def Chip.openingWritten (seq : Nat) (c : Chip) : Chip := if c.grant.state = .opening then c.openingEnds seq else c

/-- The end of the opening when GRANT_BEGIN found no free slot (R67, first row). -/
def Chip.openingFailed (c : Chip) : Chip :=
  if c.grant.state = .opening then c.emptyGrant.completePending 0x02#8 .noSpace else c

/-! ## Timers (R70, R71) -/

/-- The record's timers after one second in force (R70). -/
def GrantRecord.secondPassed (r : GrantRecord) : GrantRecord :=
  { r with
    remaining := r.remaining - 1
    idleRemaining := r.idleRemaining - 1
    suspendRemaining := r.suspendRemaining.map (· - 1)
    elapsed := satInc r.elapsed }

/-- The end reason of the first timer at 0 (R71). -/
def GrantRecord.expiry (r : GrantRecord) : Option EndReason :=
  if r.remaining = 0 then some .expired
  else if r.suspendRemaining = some 0 then some .suspendTimeout
  else if r.idleRemaining = 0 then some .idle
  else none

/-- Whether a grant is in force: ACTIVE or SUSPENDED. -/
def GrantState.inForce : GrantState → Bool
  | .active => true
  | .suspended => true
  | .idle => false
  | .opening => false
  | .ending => false

/-- The end reason that R71 gives now, if a grant is in force and one of its timers is at 0. -/
def GrantController.dueEnd (g : GrantController) : Option EndReason :=
  if g.state.inForce then g.record.expiry else none

/-- R71 applied: the grant enters ENDING if one of its timers has reached 0. -/
def Chip.applyExpiry (c : Chip) : Chip :=
  match c.grant.dueEnd with
  | some reason => c.beginEnding reason
  | none => c

/-! ## Strikes and lockout (R81–R84) -/

/-- The beginning of lockout (R83). -/
def Chip.beginLockout (c : Chip) : Chip :=
  ((c.append .grant (.lockoutBegin c.grant.strikes c.params.lockoutThreshold)).endCause .lockout).notify .lockoutBegan

/-- A strike (R81), which begins lockout when it takes the count to the threshold (R83). -/
def Chip.strike (c : Chip) : Chip :=
  let c' := { c with grant.strikes := min (c.grant.strikes + 1) 15, grant.decay := 0 }
  if !c.lockout && c'.lockout then c'.beginLockout else c'

/-- Whether the decay timer has reached the strike decay period (R82). -/
def Chip.decayDue (c : Chip) : Bool :=
  decide (0 < c.grant.strikes) && decide (60 * c.params.strikeDecay ≤ c.grant.decay)

/-- A decay of the strike count (R82), which ends lockout when it takes the count below the threshold (R84). -/
def Chip.applyDecay (c : Chip) : Chip :=
  if c.decayDue then
    let c' := { c with grant.strikes := c.grant.strikes - 1, grant.decay := 0 }
    if c.lockout && !c'.lockout then
      c'.append .grant (.lockoutEnd c'.grant.strikes c'.params.lockoutThreshold)
    else c'
  else c

/-! ## KEEP and REVOKE (R73, R74) -/

/-- KEEP (R73). -/
def Chip.keepGrant (c : Chip) : Chip × ResultCode :=
  if c.grant.state.inForce then
    ({ c with grant.record.idleRemaining := idleLimit c.grant.record.idleChoice }, .ok)
  else (c, .noGrant)

/-- REVOKE (R74). -/
def Chip.revokeGrant (c : Chip) : Chip × ResultCode :=
  if c.grant.state = .idle then (c, .noGrant) else (c.endCause .revoked, .ok)

end Sys2Proof.Machine
end

