-- ==== Sys2Proof/Machine/Access.lean ====
section
/-! DEFINITION. Chapter 5: the decision on a processor cycle, the refusal list, and how a decision is carried out. -/

namespace Sys2Proof.Machine

/-! ## Reads (R89, R90) -/

/-- Whether a grant is in force at level FACTORY. -/
def GrantController.factoryInForce (g : GrantController) : Bool := g.state.inForce && g.record.level == some .factory

/-- The service of a READ of a TRIM word (R90). -/
def Chip.trimRead (c : Chip) (r : Resolution) : Service :=
  match r.page with
  | none => .pass
  | some p =>
    match c.overlay.pages[p].state with
    | .opened => .overlayRead
    | .committing => .overlayRead
    | .loading => if (c.overlay.pages[p].word r.pageWord).loaded then .overlayRead else .pass
    | .closed => .pass
    | .unbound => .pass

/-- The service of a READ (R89). -/
def Chip.readService (c : Chip) (r : Resolution) : Service :=
  match r.cls with
  | .site .openWindow => .pass
  | .site .calibration => .pass
  | .site .identity => .pass
  | .record => .pass
  | .site .trim => c.trimRead r
  | .site .keys => if c.grant.factoryInForce then .pass else .fill
  | .image => if !r.refTable && c.grant.factoryInForce then .pass else .fill

/-- The decision on a READ: FILL is refused HIDDEN (R89, R91). -/
def Chip.decideRead (c : Chip) (r : Resolution) : Decision :=
  let s := c.readService r
  ⟨s, if s = .fill then some .hidden else none, none, false, r⟩

/-! ## Writes (R92–R101) -/

/-- The governing limit record of a TRIM word (R94, R126). -/
def Chip.governs (c : Chip) (r : Resolution) : Option LimitNo :=
  match r.owner with
  | .window w => if r.cls = .site .trim then c.governing w r.pageWord else none
  | .image | .record | .background => none

/-- Check 4 of R93: the background, or a window not in the scope. -/
def Chip.outOfScope (c : Chip) (r : Resolution) : Bool :=
  match r.owner with
  | .background => true
  | .window w => !hasWin c.grant.record.scope w
  | .image => false
  | .record => false

/-- Check 5 of R93 with the limit checks of R94. -/
def Chip.levelFails (c : Chip) (r : Resolution) (level : Level) : Bool :=
  match r.cls with
  | .site .calibration => level == .adjust
  | .site .identity => level != .factory
  | .site .keys => level != .factory
  | .image => level != .factory
  | .site .trim =>
    match c.governs r with
    | none => false
    | some j => level == .adjust && c.overlay.limits[j].required == 2
  | .site .openWindow => false
  | .record => false

/-- Check 6 of R93 with the limit checks of R94. -/
def Chip.frozenFails (c : Chip) (r : Resolution) (level : Level) : Bool :=
  match c.governs r with
  | none => false
  | some j => level != .factory && c.overlay.limits[j].frozen

/-- Whether the class's windows are announced before a rewrite (R97). -/
def announcedClass : OwnerClass → Bool
  | .site .calibration => true
  | .site .identity => true
  | .site .keys => true
  | .site .openWindow => false
  | .site .trim => false
  | .image => false
  | .record => false

/-- Whether a write that passes checks 1 to 7 is a first reflash write (R97). -/
def Chip.firstReflash (c : Chip) (r : Resolution) : Bool :=
  match r.owner with
  | .window w => announcedClass r.cls && !hasWin c.grant.record.rewritten w
  | .image | .record | .background => false

/-- The announcement state of the owner, where it has one (R99). -/
def Chip.announcement (c : Chip) (r : Resolution) : Option Announcement :=
  match r.owner with
  | .window w => if announcedClass r.cls && hasWin c.grant.record.rewritten w then c.adu.announcements[w] else none
  | .image | .record | .background => none

/-- Check 8 of R93 (R97). -/
def Chip.noSpaceToAnnounce (c : Chip) (r : Resolution) : Bool :=
  (c.firstReflash r && decide (c.freeSlots ≤ Config.reserve)) || c.announcement r == some .failed

/-- The refusal checks on a WRITE that needs a grant, in order: the reason of the first that holds (R93). -/
def Chip.writeRefusal (c : Chip) (r : Resolution) : Option Reason :=
  if r.cls = .record ∨ (r.cls = .image ∧ r.refTable = true) then some .cls
  else if c.grant.state = .idle ∨ c.grant.state = .opening ∨ c.grant.state = .ending then some .noGrant
  else
    match c.grant.record.level with
    | none => some .noGrant
    | some level =>
      if c.tamperFlag ∧ (r.cls = .site .calibration ∨ r.cls = .site .trim) ∧ level ≠ .factory then some .tampered
      else if c.outOfScope r then some .scope
      else if c.levelFails r level then some .level
      else if c.frozenFails r level then some .frozen
      else if c.grant.state = .suspended then some .motion
      else if c.noSpaceToAnnounce r then some .space
      else none

/-- The governing record a TRIM write applies: below FACTORY, and not frozen (R101). -/
def Chip.appliedLimit (c : Chip) (r : Resolution) : Option LimitNo :=
  if c.grant.record.level = some .factory then none
  else match c.governs r with
    | none => none
    | some j => if c.overlay.limits[j].frozen then none else some j

/-- Whether the owner's page is LOADING at the decision (R101). -/
def Chip.pageIsLoading (c : Chip) (r : Resolution) : Bool :=
  match r.page with
  | none => false
  | some p => c.overlay.pages[p].state == .loading

/-- The decision on a WRITE that no check refuses (R92, R98, R99, R101). -/
def Chip.servedWriteDecision (c : Chip) (r : Resolution) : Decision :=
  if r.cls = .site .trim then
    ⟨.overlayWrite (c.appliedLimit r), none, if c.pageIsLoading r then some .pageLoading else none, false, r⟩
  else if c.firstReflash r then ⟨.pass, none, some .windowOpening, true, r⟩
  else if c.announcement r = some .announcing then ⟨.pass, none, some .windowOpening, false, r⟩
  else ⟨.pass, none, none, false, r⟩

/-- The decision on a WRITE (R92, R93, R96). -/
def Chip.decideWrite (c : Chip) (r : Resolution) : Decision :=
  if r.cls = .site .openWindow then ⟨.pass, none, none, false, r⟩
  else
    match c.writeRefusal r with
    | some reason => ⟨.drop, some reason, none, false, r⟩
    | none => c.servedWriteDecision r

/-- The decision on a cycle (R4, R88). -/
def Chip.decision (c : Chip) (y : CycleRecord) : Decision :=
  match y.direction with
  | .read => c.decideRead (c.map.resolve y.address)
  | .write => c.decideWrite (c.map.resolve y.address)

/-! ## The refusal list (R102–R105) -/

/-- Whether a reason strikes (R102). -/
def Reason.strikes : Reason → Bool
  | .noGrant => true
  | .scope => true
  | .level => true
  | .cls => true
  | .frozen => true
  | .hidden => false
  | .tampered => false
  | .motion => false
  | .space => false

/-- Whether a refusal agrees with an entry in owner, access kind and reason (R104). -/
def Refused.sameRun (a b : Refused) : Bool := a.owner == b.owner && a.kind == b.kind && a.reason == b.reason

/-- An entry with its repeat count raised, saturating at 255 (R104). -/
def Refused.again (e : Refused) : Refused := { e with count := if e.count < 255 then e.count + 1 else e.count }

/-- The list after a refusal, and whether it created an entry (R104). -/
def recordRefusal (list : List Refused) (e : Refused) : List Refused × Bool :=
  match list.getLast? with
  | none => ([e], true)
  | some newest =>
    if newest.sameRun e then (list.dropLast ++ [newest.again], false)
    else if list.length < Config.refusalPlaces then (list ++ [e], true)
    else (list.tail ++ [e], true)

/-- The entry a refused cycle makes (R103). -/
def Chip.refusalEntry (c : Chip) (y : CycleRecord) (reason : Reason) (r : Resolution) : Refused where
  owner := r.owner
  kind := y.direction
  reason := reason
  address := y.address
  count := 1
  level := if c.grant.state = .idle then none else c.grant.record.level

/-- Enters a refusal in the list, sets REFUSALS on an empty one, and reports a new striking entry (R102, R104, R105). -/
def Chip.refuse (y : CycleRecord) (reason : Reason) (r : Resolution) (c : Chip) : Chip :=
  let (list, isNew) := recordRefusal c.adu.refusals (c.refusalEntry y reason r)
  let c' := { c with adu.refusals := list }
  let c' := if c.adu.refusals.isEmpty then c'.notify .refusals else c'
  if isNew && reason.strikes then c'.strike else c'

/-! ## Carrying a decision out (R4–R7, R88, R98) -/

/-- A first reflash write: the window joins the rewritten-window set as ANNOUNCING and its WINDOW_OPENED append is
queued (R98). -/
def Chip.openWindow (w : Win) (c : Chip) : Chip :=
  { c with
    grant.record.rewritten := addWin c.grant.record.rewritten w
    adu.announcements := c.adu.announcements.set w (some .announcing) }.append .adu
    (.windowOpened w c.grant.record.workshop c.scanner.references[w])

/-- The hand-overs a decision calls for, in the order of R88. -/
def Chip.handOver (y : CycleRecord) (d : Decision) (c : Chip) : Chip :=
  let c := match d.refusal with
    | some reason => c.refuse y reason d.resolution
    | none => c
  match d.opens, d.resolution.owner with
  | true, .window w => c.openWindow w
  | _, _ => c

/-- The page word an OVERLAY READ returns (R115). -/
def Chip.overlayValue (c : Chip) (r : Resolution) : Word :=
  match r.page with
  | none => c.params.fillValue
  | some p => (c.overlay.pages[p].word r.pageWord).value

/-- Carries out a decided cycle (R5–R7, R10–R12). -/
def Chip.carryOut (y : CycleRecord) (d : Decision) (c : Chip) : Chip :=
  match d.service, d.hold with
  | .fill, _ => c.completeCycle y c.params.fillValue
  | .drop, _ => c.completeCycle y 0#16
  | .overlayRead, _ => c.completeCycle y (c.overlayValue d.resolution)
  | .overlayWrite _, some .pageLoading => c.holdCycle y .pageLoading
  | .overlayWrite limit, _ => c.serveOverlayWrite y limit d.resolution
  | .pass, some .windowOpening => c.holdCycle y .windowOpening
  | .pass, _ => c.askPort y

/-- Decides a cycle with a non-empty lane set, makes the hand-overs, and carries the decision out; parking ends (R4,
R16). -/
def Chip.decideLanes (y : CycleRecord) (c : Chip) : Chip :=
  let d := c.decision y
  ((c.handOver y d).carryOut { y with decision := some d } d).unpark

/-- Decides a cycle at its arrival or when the gate opens; one with an empty lane set completes undecided, with the fill
value for a READ (R2, R4). -/
def Chip.decideCycle (y : CycleRecord) (c : Chip) : Chip :=
  if y.emptyLanes then c.completeCycle y c.params.fillValue else c.decideLanes y

/-- The gate has changed: a GATED cycle is decided once the set is empty (R9). -/
def Chip.gateChanged (c : Chip) : Chip :=
  match c.bus.port with
  | .gated y => if c.bus.gate.isOpen then c.decideCycle y else c
  | _ => c

/-! ## Holds that end (R11, R99) -/

/-- The cycle held for WINDOW OPENING on window `w` leaves its hold: towards the memory port if the record was written,
as a DROP if not (R11, R99). -/
def Chip.releaseOpening (w : Win) (written : Bool) (c : Chip) : Chip :=
  match c.bus.port with
  | .held y .windowOpening =>
    if (y.decision.map (·.resolution.owner)) = some (.window w) then
      if written then c.askPort y else c.completeCycle y 0#16
    else c
  | _ => c

/-- The completion of a WINDOW_OPENED append (R99). A window no longer in the set of the grant has no state to set. -/
def Chip.announced (w : Win) (written : Bool) (c : Chip) : Chip :=
  let c' := if hasWin c.grant.record.rewritten w then
      { c with adu.announcements := c.adu.announcements.set w (some (if written then .announced else .failed)) }
    else c
  c'.releaseOpening w written

end Sys2Proof.Machine
end

