-- ==== Sys2Proof/Machine/Commit.lean ====
section
/-! DEFINITION. Section 7.6: commits; and the DISCARD request (R119, R120). -/

namespace Sys2Proof.Machine

/-- Whether page `p` is bound to a window in the scope. -/
def Chip.pageInScope (c : Chip) (p : PageNo) : Bool :=
  match c.map.bindings[p] with
  | none => false
  | some w => hasWin c.grant.record.scope w

/-! ## The COMMIT request (R147, R148) -/

/-- The dirty served words of a page, in ascending page word number (R147, R148). -/
def Chip.dirtyWords (c : Chip) (p : PageNo) : List (PageNo × Nat) :=
  ((List.range Config.pageWords).filter fun n => (c.overlay.pages[p].word n).dirty && c.served p n).map fun n => (p, n)

/-- The take list of a page set (R148). -/
def Chip.takeList (c : Chip) (pages : PageSet) : List (PageNo × Nat) := (pagesOf pages).flatMap c.dirtyWords

/-- The space a commit needs: D + P + 2 (R141). -/
def Chip.spaceNeeded (c : Chip) (pages : PageSet) : Nat :=
  (c.takeList pages).length + ((pagesOf pages).filter fun p => !(c.dirtyWords p).isEmpty).length + 2

/-- The checks of COMMIT in order: the reply of the first that fails (R147). -/
def Chip.commitRefusal (pages : PageSet) (c : Chip) : Option ResultCode :=
  if !c.grant.state.inForce then some .noGrant
  else if c.grant.state = .suspended then some .motion
  else if pages = 0#8 ∨ (pagesOf pages).any (fun p => c.overlay.pages[p].state != .opened || !c.pageInScope p) then
    some .badArg
  else if c.commitInFlight then some .busy
  else if c.freeSlots < c.spaceNeeded pages + Config.reserve then some .noSpace
  else none

/-- Puts pages in a state. -/
def Chip.setPages (ps : List PageNo) (state : PageState) (c : Chip) : Chip :=
  ps.foldl (fun c p => c.setPage p { c.overlay.pages[p] with state := state }) c

/-- The acceptance of a commit (R148). -/
def Chip.acceptCommit (pages : PageSet) (c : Chip) : Chip :=
  let list := c.takeList pages
  (({ c with engine.commit := some ⟨pages, list, list, 0⟩ }.setPages (pagesOf pages) .committing).claim
    (c.spaceNeeded pages)).appendClaimed (.commitBegin pages list.length)

/-- COMMIT (R147): done at once when no word is dirty. -/
def Chip.takeCommit (pages : PageSet) (c : Chip) : Chip × ResultCode :=
  match c.commitRefusal pages with
  | some code => (c, code)
  | none =>
    if (c.takeList pages).isEmpty then
      ({ c with engine.lastOutcome := .done, engine.lastWords := 0 }.notify .commitDone, .ok)
    else (c.acceptCommit pages, .ok)

/-! ## The commit sequence (R149–R151) -/

/-- The sequencer queues its next request: the next word's TRIM_CHANGE, or COMMIT_END after the last (R149–R151). -/
def Chip.commitNext (c : Chip) : Chip :=
  match c.engine.commit with
  | none => c
  | some run =>
    match run.todo with
    | (p, n) :: _ => c.appendClaimed (.trimChange p n)
    | [] => c.appendClaimed (.commitEnd .done run.written)

/-- The window bound to a page a commit works on. -/
def Chip.boundWindow (c : Chip) (p : PageNo) : Win := c.map.bindings[p].getD 0

/-- A TRIM_CHANGE request is finished: the sequencer goes on to the page's next word, or asks for the window's sum after
the page's last (R149, R150). -/
def Chip.trimFinished (p : PageNo) (written : Bool) (c : Chip) : Chip :=
  match c.engine.commit with
  | none => c
  | some run =>
    let run' := { run with
      todo := run.todo.tail
      written := if written then run.written + 1 else run.written }
    let c' := { c with engine.commit := some run' }
    if (run'.todo.head?.map Prod.fst) = some p then c'.commitNext else c'.requestSum (c.boundWindow p) .commit

/-- A commit's window sum is delivered (R150). -/
def Chip.commitSum (w : Win) (sum : DWord) (c : Chip) : Chip :=
  if c.commitInFlight then c.appendClaimed (.windowSum w .commit sum) else c

/-- The commit's pages leave COMMITTING (R151): OPEN, or CLOSED with every other page when the grant's ending waited for
the commit (R77). -/
def Chip.leaveCommitting (pages : PageSet) (c : Chip) : Chip :=
  if c.grant.state = .ending then c.closeGrant
  else c.setPages ((pagesOf pages).filter fun p => c.overlay.pages[p].state == .committing) .opened

/-- The finish of a commit at the completion of its COMMIT_END (R151). -/
def Chip.commitFinish (c : Chip) : Chip :=
  match c.engine.commit with
  | none => c
  | some run =>
    ({ c with
      engine.commit := none
      engine.lastOutcome := .done
      engine.lastWords := run.written }.leaveCommitting run.pages).notify .commitDone

/-! ## DISCARD (R119, R120) -/

/-- The checks of DISCARD in order: the reply of the first that fails (R119). -/
def Chip.discardRefusal (pages : PageSet) (c : Chip) : Option ResultCode :=
  if !c.grant.state.inForce then some .noGrant
  else if pages = 0#8 ∨ (pagesOf pages).any (fun p => c.overlay.pages[p].state == .unbound || !c.pageInScope p) then
    some .badArg
  else if (pagesOf pages).any (fun p => c.overlay.pages[p].state == .loading || c.overlay.pages[p].state == .committing)
    then some .busy
  else none

/-- DISCARD (R119, R120). -/
def Chip.takeDiscard (pages : PageSet) (c : Chip) : Chip × ResultCode :=
  match c.discardRefusal pages with
  | some code => (c, code)
  | none => (c.startLoads (pagesOf pages), .ok)

end Sys2Proof.Machine
end

