-- ==== Sys2Proof/Machine/Formats.lean ====
section
/-! DEFINITION. Chapter 11: codes, record slots, reference entries, and the bytes of replies. -/

namespace Sys2Proof.Machine

/-! ## Codes (11_formats.md sections 11.3, 11.4) -/

/-- Level codes, 0 for NONE. -/
def levelCode : Option Level → Nat
  | none => 0
  | some .adjust => 1
  | some .reflash => 2
  | some .factory => 3

/-- End reason codes. -/
def EndReason.code : EndReason → Nat
  | .none => 0
  | .revoked => 1
  | .expired => 2
  | .idle => 3
  | .suspendTimeout => 4
  | .motion => 5
  | .lockout => 6
  | .tamper => 7
  | .ignition => 8
  | .reset => 9
  | .recordsFull => 10
  | .powerLoss => 11

/-- WINDOW_SUM cause codes. -/
def SumCause.code : SumCause → Nat
  | .reflash => 1
  | .commit => 2
  | .rebase => 3
  | .interruptedReflash => 4
  | .rollback => 5

/-- Commit outcome codes. -/
def CommitOutcome.code : CommitOutcome → Nat
  | .none => 0
  | .done => 1
  | .rolledBack => 2

/-- Result codes. -/
def ResultCode.code : ResultCode → Nat
  | .empty => 0x00
  | .ok => 0x01
  | .pending => 0x02
  | .busy => 0x03
  | .badFrame => 0x04
  | .unknown => 0x05
  | .badArg => 0x06
  | .noGrant => 0x07
  | .notReady => 0x08
  | .locked => 0x09
  | .tampered => 0x0A
  | .degraded => 0x0B
  | .motion => 0x0C
  | .noSpace => 0x0D
  | .level => 0x0E

/-- Refusal reason codes. -/
def Reason.code : Reason → Nat
  | .hidden => 1
  | .cls => 2
  | .noGrant => 3
  | .tampered => 4
  | .scope => 5
  | .level => 6
  | .frozen => 7
  | .motion => 8
  | .space => 9

/-- Owner codes. -/
def Owner.code : Owner → Nat
  | .window w => w.val
  | .image => 0x20
  | .record => 0x21
  | .background => 0x22

/-- Fault kind codes, 0 for none. -/
def faultCode : Option FaultKind → Nat
  | none => 0
  | some .classCode => 1
  | some .size => 2
  | some .align => 3
  | some .trimSize => 4
  | some .noPage => 5
  | some .pageIgnored => 6
  | some .pageTaken => 7
  | some .recordPlace => 8
  | some .range => 9
  | some .thresholdOrder => 10
  | some .check => 11
  | some .format => 12
  | some .code => 13
  | some .window => 14
  | some .offset => 15
  | some .notOwned => 16
  | some .step => 17
  | some .duplicate => 18

/-- Load-fault item codes. -/
def LoadItem.code : LoadItem → Nat
  | .descriptor i => i.val
  | .limit j => 0x20 + j.val
  | .image => 0x40
  | .record => 0x41
  | .backgroundClass => 0x42
  | .settleChoice => 0x43
  | .starvationLimit => 0x44
  | .engineTick => 0x45
  | .roadTick => 0x46
  | .engineEdge => 0x47
  | .roadEdge => 0x48
  | .engineDivider => 0x49
  | .roadDivider => 0x4A
  | .engineTeeth => 0x4B
  | .roadPulses => 0x4C
  | .stopLow => 0x4D
  | .stopHigh => 0x4E
  | .movingLow => 0x4F
  | .movingHigh => 0x50
  | .stopThresholds => 0x51
  | .movingThresholds => 0x52
  | .parkUse => 0x53
  | .suspendLimit => 0x54
  | .lockoutThreshold => 0x55
  | .strikeDecay => 0x56
  | .scanPeriod => 0x57

/-- Standing codes. -/
def Standing.code : Standing → Nat
  | .switchedOff => 0
  | .enabled => 1
  | .faulted => 2
  | .notLoaded => 3

/-- Power state codes. -/
def PowerState.code : PowerState → Nat
  | .start => 0
  | .active => 1
  | .afterRun => 2
  | .dormant => 3
  | .waking => 4

/-- Grant state codes. -/
def GrantState.code : GrantState → Nat
  | .idle => 0
  | .opening => 1
  | .active => 2
  | .suspended => 3
  | .ending => 4

/-- ENGINE state codes, in the order of R53. -/
def EngineState.code : EngineState → Nat
  | .stopped => 0
  | .turning => 1

/-- ROAD state codes, in the order of R54. -/
def RoadState.code : RoadState → Nat
  | .stationary => 0
  | .creeping => 1
  | .moving => 2

/-- PARK state codes, in the order of R55. -/
def ParkState.code : ParkState → Nat
  | .unknown => 0
  | .applied => 1
  | .released => 2

/-- Page state codes. -/
def PageState.code : PageState → Nat
  | .unbound => 0
  | .closed => 1
  | .loading => 2
  | .opened => 3
  | .committing => 4

/-- Scan result codes. -/
def ScanResult.code : ScanResult → Nat
  | .noResult => 0
  | .matched => 1
  | .mismatch => 2
  | .skipped => 3
  | .adopted => 4
  | .unknownRef => 5

/-! ## Words of fields (R201, R202) -/

/-- A number as a word. -/
def wordOf (n : Nat) : Word := BitVec.ofNat 16 n

/-- The low word of a 32-bit field. -/
def lowWord (d : DWord) : Word := d.extractLsb' 0 16

/-- The high word of a 32-bit field. -/
def highWord (d : DWord) : Word := d.extractLsb' 16 16

/-- A 32-bit field as two words, low word first (R201). -/
def words32 (d : DWord) : List Word := [lowWord d, highWord d]

/-- A set of windows as a 32-bit field (R201). -/
def setField (s : WindowSet) : DWord := s.zeroExtend 32

/-- A reference sum and its state word (R202). -/
def sumWords : Option DWord → List Word
  | some d => words32 d ++ [0#16]
  | none => [0#16, 0#16, 1#16]

/-- A set flag as a word. -/
def flagWord (b : Bool) : Word := if b then 1#16 else 0#16

/-! ## Records (11_formats.md section 11.3) -/

/-- The kind code of an append. -/
def AppendKind.code : AppendKind → Nat
  | .grantBegin .. => 0x01
  | .grantEnd .. => 0x02
  | .windowOpened .. => 0x03
  | .windowSum .. => 0x04
  | .commitBegin .. => 0x05
  | .trimChange .. => 0x06
  | .commitEnd .. => 0x07
  | .tamper .. => 0x08
  | .lockoutBegin .. => 0x09
  | .lockoutEnd .. => 0x0A
  | .archiveMark .. => 0x0B

/-- What the engine itself fills in (R135): the old reference of a WINDOW_SUM, and the take and the old value of a
TRIM_CHANGE. -/
structure EngineFields where
  oldReference : Option DWord
  taken : Option Taken
  oldValue : Word
deriving DecidableEq, Repr

/-- The auxiliary byte of an append. -/
def AppendKind.auxByte (e : EngineFields) : AppendKind → Nat
  | .grantBegin level .. => levelCode (some level)
  | .grantEnd reason .. => reason.code
  | .windowOpened w .. => w.val
  | .windowSum w .. => w.val
  | .trimChange .. => (e.taken.map fun t => t.window.val).getD 0
  | .tamper w .. => w.val
  | .commitBegin .. => 0
  | .commitEnd .. => 0
  | .lockoutBegin .. => 0
  | .lockoutEnd .. => 0
  | .archiveMark .. => 0

/-- The used field words of an append, from slot offset 02h on. -/
def AppendKind.usedFields (e : EngineFields) : AppendKind → List Word
  | .grantBegin _ workshop timeStamp scope duration idleChoice =>
    words32 workshop ++ words32 timeStamp ++ words32 (setField scope) ++ [wordOf duration, wordOf idleChoice]
  | .grantEnd _ workshop elapsed commitCount rewritten clamped beginSeq timeStamp =>
    words32 workshop ++ [wordOf elapsed, wordOf commitCount] ++ words32 (setField rewritten) ++ [wordOf clamped]
      ++ words32 (BitVec.ofNat 32 beginSeq) ++ words32 timeStamp
  | .windowOpened _ workshop reference => words32 workshop ++ sumWords reference
  | .windowSum _ cause sum => [wordOf cause.code] ++ sumWords e.oldReference ++ words32 sum
  | .commitBegin pages words => [pages.zeroExtend 16, wordOf words]
  | .trimChange _ n =>
    match e.taken with
    | some t => [wordOf n, e.oldValue, t.value, flagWord t.clamped, wordOf t.elapsed]
    | none => [wordOf n, e.oldValue]
  | .commitEnd outcome words => [wordOf outcome.code, wordOf words]
  | .tamper _ expected found => sumWords expected ++ words32 found
  | .lockoutBegin strikes threshold => [wordOf strikes, wordOf threshold]
  | .lockoutEnd strikes threshold => [wordOf strikes, wordOf threshold]
  | .archiveMark upTo => words32 (BitVec.ofNat 32 upTo)

/-- A list of words filled up to 13 with 0000h (R135). -/
def pad13 (ws : List Word) : List Word := ws ++ List.replicate (13 - ws.length) 0#16

/-- The 13 field words of an append (R135). -/
def AppendKind.fieldWords (e : EngineFields) (k : AppendKind) : List Word := pad13 (k.usedFields e)

/-- The kind word: the kind code low, the auxiliary byte high. -/
def AppendKind.kindWord (e : EngineFields) (k : AppendKind) : Word :=
  BitVec.ofNat 8 (k.auxByte e) ++ BitVec.ofNat 8 k.code

/-- Words at rising word addresses. -/
def wordsFrom : Addr → List Word → List (Addr × Word)
  | _, [] => []
  | a, w :: ws => (a, w) :: wordsFrom (a + 2#24) ws

/-- The 17 writes of a record, in the order of R138. -/
def slotWrites (slot : Addr) (kindWord : Word) (fields : List Word) (seq : Nat) : List (Addr × Word) :=
  [(slot, 0#16)] ++ wordsFrom (slot + 2#24) fields ++ wordsFrom (slot + 0x1C#24) (words32 (BitVec.ofNat 32 seq))
    ++ [(slot, kindWord)]

/-- The record a slot's 16 words hold, in ascending address (R133). -/
def slotRecord (ws : List Word) : SlotRecord where
  seq := (ws.getD 14 0#16).toNat + 65536 * (ws.getD 15 0#16).toNat
  kind := lowByte (ws.getD 0 0#16)
  aux := highByte (ws.getD 0 0#16)
  fields := (ws.drop 1).take 13

/-- Whether slot `i` of `capacity` slots is complete (R133). -/
def SlotRecord.complete (r : SlotRecord) (capacity i : Nat) : Bool :=
  r.kind != 0#8 && decide (1 ≤ r.seq) && decide (r.seq < Config.headTop) && (r.seq - 1) % capacity == i

/-- A field word of a record. -/
def SlotRecord.word (r : SlotRecord) (i : Nat) : Word := r.fields.getD i 0#16

/-- A 32-bit field of a record. -/
def SlotRecord.dword (r : SlotRecord) (i : Nat) : DWord := r.word (i + 1) ++ r.word i

/-- The window a record's auxiliary byte names (R203). -/
def SlotRecord.window (r : SlotRecord) : Option Win := if h : r.aux.toNat < 24 then some ⟨r.aux.toNat, h⟩ else none

/-! ## Reference entries (R145, R146) -/

/-- The four writes of a reference entry update, in the order of R146. -/
def entryWrites (imageBase : Addr) (w : Win) (sum : DWord) : List (Addr × Word) :=
  let entry : Addr := imageBase + BitVec.ofNat 24 (0x280 + 8 * w.val)
  [(entry, highWord sum), (entry + 4#24, lowWord sum), (entry + 2#24, ~~~highWord sum), (entry + 6#24, ~~~lowWord sum)]

/-- The sum of a consistent reference entry among the reference table's words; `none` if it is not consistent (R145). -/
def entrySum (refWords : List Word) (w : Win) : Option DWord :=
  let at' (i : Nat) : Word := refWords.getD (4 * w.val + i) 0#16
  if at' 1 = ~~~at' 0 ∧ at' 3 = ~~~at' 2 then some (at' 0 ++ at' 2) else none

/-! ## Replies (R195; 11_formats.md section 11.4) -/

/-- A number as a byte. -/
def byteOf (n : Nat) : Byte := BitVec.ofNat 8 n

/-- A flag as a byte: 1 set, 0 clear. -/
def flagByte (b : Bool) : Byte := if b then 1#8 else 0#8

/-- The bytes of a field, least significant first (R201). -/
def bytesOf : Nat → Nat → List Byte
  | 0, _ => []
  | k + 1, n => byteOf n :: bytesOf k (n / 256)

/-- The bytes of a reply as it is clocked out, the check byte last (R195, R196). -/
def Snapshot.bytes (s : Snapshot) : List Byte :=
  let body := [byteOf s.reply.code.code, s.reply.echo, flagByte s.overrun, byteOf s.reply.payload.length]
    ++ s.reply.payload
  body ++ [0#8 - byteSum body]

/-- The STATUS payload (R197). -/
def Chip.statusPayload (c : Chip) : List Byte :=
  [byteOf c.supply.power.code, byteOf c.grant.state.code,
   byteOf (if c.grant.state = .idle then 0 else levelCode c.grant.record.level)]
  ++ bytesOf 4 c.grant.record.scope.toNat
  ++ (if c.grant.state = .idle ∨ c.grant.state = .opening then [0#8, 0#8, 0#8]
      else byteOf ((c.grant.record.remaining + 59) / 60) :: bytesOf 2 c.grant.record.idleRemaining)
  ++ [byteOf c.monitor.engineState.code] ++ bytesOf 2 c.monitor.engine.speed
  ++ [byteOf c.monitor.roadState.code] ++ bytesOf 2 c.monitor.road.speed
  ++ [byteOf c.monitor.park.code, byteOf c.grant.strikes, flagByte c.lockout, flagByte c.tamperFlag]
  ++ bytesOf 4 c.scanner.tamper.toNat ++ bytesOf 2 c.scanner.passCount.toNat
  ++ [flagByte c.scanner.cycleChecked, flagByte c.commitInFlight]
  ++ c.overlay.pages.toList.map (fun p => byteOf p.state.code)
  ++ bytesOf 4 c.engine.head ++ bytesOf 4 c.engine.mark ++ bytesOf 2 c.freeSlots
  ++ [byteOf c.adu.refusals.length, byteOf c.grant.lastEnd.code, byteOf c.engine.lastOutcome.code]
  ++ bytesOf 2 c.engine.lastWords ++ bytesOf 2 c.link.notices.toNat
  ++ [byteOf c.map.loadFaults.length]
  ++ c.map.loadFaults.flatMap (fun f => [byteOf f.1.code, byteOf (faultCode (some f.2))])

/-- The 8 bytes of a refusal list entry. -/
def Refused.bytes (e : Refused) : List Byte :=
  [byteOf e.owner.code, match e.kind with | .read => 0#8 | .write => 1#8, byteOf e.reason.code,
   byteOf (levelCode e.level)] ++ bytesOf 3 e.address.toNat ++ [byteOf e.count]

/-- The REFUSALS payload (R106). -/
def refusalsPayload (list : List Refused) : List Byte := byteOf list.length :: list.flatMap Refused.bytes

/-- The bits of a descriptor that are not reserved (R202; 11_formats.md section 11.2). -/
def descriptorMask : BitVec 64 := 0x00FFFFFF87FFFF01#64

/-- The bits of a limit record that are not reserved. -/
def limitMask : BitVec 96 := 0xFFFFFFFFFFFFFFFFFFFFFF01#96

/-- The DESCRIBE WINDOW payload (R198, R202). -/
def Descriptor.payload (d : Descriptor) : List Byte :=
  bytesOf 8 (d.raw &&& descriptorMask).toNat
    ++ [byteOf d.standing.code, byteOf (faultCode d.fault),
        match d.page with | some p => byteOf p.val | none => 0xFF#8]

/-- The DESCRIBE LIMIT payload (R127, R198, R202). -/
def LimitRecord.payload (l : LimitRecord) : List Byte :=
  bytesOf 12 (l.raw &&& limitMask).toNat
    ++ [byteOf l.standing.code, byteOf (faultCode l.fault), flagByte (l.standing == .enabled && l.frozen)]

/-- The DESCRIBE REFERENCE payload (R198, R202). -/
def Scanner.payload (s : Scanner) (w : Win) : List Byte :=
  (match s.references[w] with
    | some d => bytesOf 4 d.toNat ++ [0#8, 0#8]
    | none => [0#8, 0#8, 0#8, 0#8, 1#8, 0#8])
  ++ [byteOf s.results[w].result.code] ++ bytesOf 4 (s.results[w].found.getD 0#32).toNat
  ++ [flagByte (hasWin s.tamper w), flagByte (hasWin s.marks w)]

/-- A DESCRIBE reply's payload, or none where the kind or the index is out of range (R198). -/
def Chip.describePayload (c : Chip) (kind index : Byte) : Option (List Byte) :=
  match kind.toNat with
  | 0 => if h : index.toNat < 24 then some c.map.descriptors[index.toNat].payload else none
  | 1 => if h : index.toNat < 32 then some c.overlay.limits[index.toNat].payload else none
  | 2 => if h : index.toNat < 24 then some (c.scanner.payload ⟨index.toNat, h⟩) else none
  | _ => none

end Sys2Proof.Machine
end

