-- ==== Sys2Proof/Machine/Scanner.lean ====
section
/-! DEFINITION. Chapter 8: window sums, scan passes, tamper, and REBASE. -/

namespace Sys2Proof.Machine

/-! ## The window sum (R160) -/

/-- The sum of a window that owns no words. -/
def emptySum : DWord := 0x00000001#32

/-- The sum in progress with one word added to the accumulators (R160). -/
def SumRun.add (r : SumRun) (w : Word) : SumRun := { r with a := r.a + w, b := r.b + (r.a + w) }

/-- The sum when the last owned word has been taken (R160). -/
def SumRun.total (r : SumRun) : DWord := r.b ++ r.a

/-- The window sum over a list of owned words in ascending address (R160): what a run of `SumRun.add` comes to. -/
def windowSum (ws : List Word) : DWord :=
  let r := ws.foldl SumRun.add ⟨0, 0, 1#16, 0#16, .pass⟩
  r.total

/-- Starts a sum: the read of the window's first owned word is presented (R160). -/
def Chip.startSum (w : Win) (word : Nat) (purpose : SumPurpose) (c : Chip) : Chip :=
  { c with scanner.sum := some ⟨w, word, 1#16, 0#16, purpose⟩ }.presentRead .S (c.map.wordOf w word)

/-- Whether a sum request is waiting or in progress (R162). -/
def Chip.sumsWaiting (c : Chip) : Bool := !c.scanner.queue.isEmpty || c.scanner.sum.isSome

/-! ## Judgements (R163, R164, R171) -/

/-- The skip condition of R163: the window is in the rewritten-window set, or its page is COMMITTING. -/
def Chip.skips (c : Chip) (w : Win) : Bool :=
  hasWin c.grant.record.rewritten w ||
    match c.map.descriptors[w].page with
    | none => false
    | some p => c.overlay.pages[p].state == .committing

/-- Enters a scan result (R163). -/
def Chip.enterResult (w : Win) (result : ScanResult) (found : Option DWord) (c : Chip) : Chip :=
  { c with scanner.results := c.scanner.results.set w ⟨result, found⟩ }

/-- Tamper is found on a window (R171). The TAMPER request and what the tamper cause queues are made together: a free
value says which is made first (R136, log entry 6). Answers too whether the TAMPER request found a place. -/
def Chip.tamperFound (w : Win) (found : DWord) (c : Chip) : Chip × Bool :=
  let r : AppendRequest := ⟨.tamper w c.scanner.references[w] found, .scanner, false, c.scanner.tickets⟩
  let c' := ({ c with
      scanner.tamper := addWin c.scanner.tamper w
      scanner.tickets := c.scanner.tickets + 1 }.notify .tamperFound).drawn
  if Config.laterFirst c.draws then (c'.tamperCause.requestAppend r, c'.tamperCause.queueHasPlace)
  else ((c'.requestAppend r).tamperCause, c'.queueHasPlace)

/-- An adoption: the WINDOW_SUM of cause INTERRUPTED_REFLASH is queued (R164). -/
def Chip.adopt (w : Win) (found : DWord) (c : Chip) : Chip :=
  { c with scanner.tickets := c.scanner.tickets + 1 }.requestAppend
    ⟨.windowSum w .interruptedReflash found, .scanner, false, c.scanner.tickets⟩

/-- A mismatch or an unknown reference: tamper is found unless the window is in the set already; the judgement waits if
the TAMPER request found the append queue full (R171). -/
def Chip.judgeDiffers (w : Win) (result : ScanResult) (found : DWord) (c : Chip) : Chip × Option PassPhase :=
  let c' := c.enterResult w result (some found)
  if hasWin c.scanner.tamper w then (c', none)
  else
    let (c'', joined) := c'.tamperFound w found
    (c'', if joined then none else some (.joining c.scanner.tickets))

/-- The judgement of a window whose sum has been formed (R163). Answers what the pass waits for, or none when the
judgement has ended. -/
def Chip.judge (w : Win) (found : DWord) (c : Chip) : Chip × Option PassPhase :=
  if c.skips w then (c.enterResult w .skipped none, none)
  else if hasWin c.scanner.marks w then
    ((c.enterResult w .adopted (some found)).adopt w found, some (.adopting c.scanner.tickets))
  else match c.scanner.references[w] with
    | none => c.judgeDiffers w .unknownRef found
    | some r =>
      if found = r then (c.enterResult w .matched (some found), none) else c.judgeDiffers w .mismatch found

/-! ## Passes (R162, R165–R168) -/

/-- The completion of a pass (R165). -/
def Chip.passComplete (c : Chip) : Chip :=
  { c with
    scanner.pass := none
    scanner.passCount := c.scanner.passCount + 1
    scanner.cycleChecked := c.scanner.cycleChecked || c.supply.power == PowerState.active }.notify .scanDone

/-- A pass with these windows left goes on: it waits for sum requests, skips windows, judges windows that own no words,
and starts the sum of the first other window; with no window left it completes (R162, R163, R165). -/
def Chip.passOn : List Win → Chip → Chip
  | [], c => c.passComplete
  | w :: ws, c =>
    if c.sumsWaiting then { c with scanner.pass := some ⟨w :: ws, .between⟩ }
    else if c.skips w then Chip.passOn ws (c.enterResult w .skipped none)
    else match c.map.ownedAt w 0 with
      | some i => { c with scanner.pass := some ⟨ws, .summing w⟩ }.startSum w i .pass
      | none =>
        match c.judge w emptySum with
        | (c', none) => Chip.passOn ws c'
        | (c', some phase) => { c' with scanner.pass := some ⟨ws, phase⟩ }

/-- A pass starts (R162). -/
def Chip.startPass (c : Chip) : Chip :=
  Chip.passOn c.map.scanGroup
    { c with scanner.timer := 0, scanner.pass := some ⟨c.map.scanGroup, .between⟩ }

/-- The sum of the pass's window is complete: it is judged and the pass goes on (R163). -/
def Chip.passSum (w : Win) (found : DWord) (c : Chip) : Chip :=
  match c.scanner.pass with
  | none => c
  | some run =>
    match c.judge w found with
    | (c', none) => Chip.passOn run.left c'
    | (c', some phase) => { c' with scanner.pass := some ⟨run.left, phase⟩ }

/-- A judgement that waited for its append has ended: the pass goes on if it is this judgement it waits for. -/
def Chip.passWaited (phase : PassPhase) (c : Chip) : Chip :=
  match c.scanner.pass with
  | none => c
  | some run => if run.phase = phase then Chip.passOn run.left c else c

/-- A waiting pass goes on once the sum request queue is empty and no request is in progress (R162). -/
def Chip.resumePass (c : Chip) : Chip := if c.sumsWaiting then c else c.passWaited .between

/-- The pass's sum in progress is discarded and its read given up (R167, R168). The scanner does not wait for a discarded
read in flight before it presents the next sum's first read: the model's choice (log entry 35). -/
def Chip.dropPassSum (c : Chip) : Chip :=
  match c.scanner.sum with
  | some ⟨_, _, _, _, .pass⟩ => { c with scanner.sum := none }.giveUp .S
  | _ => c

/-- A running pass restarts; an adoption it waits on goes on being waited for (R167). The model's choices: the new pass
presents its first read at once, though a discarded read may still be in flight (log entry 35), and while it waits for the
adoption no sum request is served (log entry 36). -/
def Chip.restartPass (run : PassRun) (c : Chip) : Chip :=
  match run.phase with
  | .adopting t =>
    { c with scanner.timer := 0, scanner.pass := some ⟨c.map.scanGroup, .adopting t⟩ }
  | .between => c.startPass
  | .joining _ => c.startPass
  | .summing _ => c.dropPassSum.startPass

/-- RESCAN (R167). -/
def Chip.rescan (c : Chip) : Chip × ResultCode :=
  if c.supply.power = .active then
    match c.scanner.pass with
    | none => (c.startPass, .ok)
    | some run => (c.restartPass run, .ok)
  else (c, .notReady)

/-- The scanner leaves ACTIVE (R168). -/
def Chip.abandonPass (c : Chip) : Chip :=
  let c' := c.dropPassSum
  { c' with scanner.pass := none, scanner.cycleChecked := false, scanner.timer := 0 }

/-- Whether the periodic timer runs: in ACTIVE with a scan period other than 0 (R166). -/
def Chip.timerRuns (c : Chip) : Bool := c.supply.power == PowerState.active && c.params.scanPeriod != 0

/-- Whether the periodic timer has reached the scan period (R166). -/
def Chip.scanDue (c : Chip) : Bool := c.timerRuns && decide (c.params.scanPeriod * 60 ≤ c.scanner.timer)

/-- The periodic expiry: the timer returns to zero, and a pass starts if none runs (R166). -/
def Chip.periodicExpiry (c : Chip) : Chip :=
  if c.scanDue then
    match c.scanner.pass with
    | none => c.startPass
    | some _ => { c with scanner.timer := 0 }
  else c

/-! ## REBASE (R172, R173) -/

/-- The next window of a REBASE list, or its end (R173). -/
def Chip.rebaseNext (left : List Win) (c : Chip) : Chip :=
  match left with
  | [] => { c with scanner.rebase := none }.notify .rebaseDone
  | w :: ws => { c with scanner.rebase := some (w :: ws) }.requestSum w .rebase

/-- The checks of REBASE in order: the reply of the first that fails (R172). -/
def Chip.rebaseRefusal (c : Chip) : Option ResultCode :=
  if !c.grant.state.inForce then some .noGrant
  else if c.grant.record.level ≠ some .factory then some .level
  else if c.grant.state = .suspended then some .motion
  else if c.rebaseInFlight then some .busy
  else none

/-- REBASE (R172). -/
def Chip.takeRebase (c : Chip) : Chip × ResultCode :=
  match c.rebaseRefusal with
  | some code => (c, code)
  | none => (c.rebaseNext (winsOf c.scanner.tamper), .ok)

/-- The WINDOW_SUM of a rebased window is finished: REBASE goes on to the next window (R173). -/
def Chip.rebaseFinished (c : Chip) : Chip :=
  match c.scanner.rebase with
  | some (_ :: rest) => c.rebaseNext rest
  | _ => c

end Sys2Proof.Machine
end

