-- ==== Sys2Proof/Machine/Monitor.lean ====
section
/-! DEFINITION. Chapter 3: the tick of a capture channel, periods and speeds, the motion machines, the park brake, and
the start of the monitor. -/

namespace Sys2Proof.Machine

/-! ## Settings -/

/-- The tick rate in Hz (R42). -/
def TickRate.hz : TickRate → Nat
  | .mhz1 => 1000000
  | .khz250 => 250000
  | .khz62_5 => 62500
  | .khz15_625 => 15625

/-- The edge factor e (R45). -/
def EdgeChoice.factor : EdgeChoice → Nat
  | .rising => 1
  | .falling => 1
  | .both => 2

/-- Whether an edge to this level is a valid edge (R45). -/
def EdgeChoice.accepts : EdgeChoice → PinLevel → Bool
  | .rising, .high => true
  | .rising, .low => false
  | .falling, .high => false
  | .falling, .low => true
  | .both, _ => true

/-! ## Speeds (R49, R50) -/

/-- The ENGINE speed in rpm of a period that is not over-range (R49). -/
def engineSpeed (k : ChannelSettings) (p : Nat) : Nat :=
  min (60 * k.rate.hz * k.divider / (k.scale * k.edge.factor * p)) 16383

/-- The ROAD speed in 0.1 km/h of a period that is not over-range (R50). -/
def roadSpeed (k : ChannelSettings) (p : Nat) : Nat :=
  min (36000 * k.rate.hz * k.divider / (k.scale * k.edge.factor * p)) 2550

/-! ## One tick (R43–R48) -/

/-- Step 1 of a tick: the counter advances, and its pass to 0000h raises the wrap count up to 3 (R43). -/
def CaptureChannel.advance (k : CaptureChannel) : CaptureChannel :=
  { k with
    counter := k.counter + 1
    wraps := if k.counter = 0xFFFF#16 ∧ k.wraps < 3 then k.wraps + 1 else k.wraps }

/-- Whether the channel falls silent at its next tick: the wrap count passes from 2 to 3 (R48). -/
def CaptureChannel.fallsSilent (k : CaptureChannel) : Bool := k.counter == 0xFFFF#16 && k.wraps == 2

/-- The filtered level that stands for a pin level. -/
def FilterLevel.ofPin : PinLevel → FilterLevel
  | .low => .low
  | .high => .high

/-- Whether a sample is an edge: seen on two consecutive samples, and different from a settled filtered level (R44). -/
def CaptureChannel.isEdge (k : CaptureChannel) (sample : PinLevel) : Bool :=
  k.previous == some sample && k.filtered != .unsettled && k.filtered != .ofPin sample

/-- Step 2 of a tick: the filter takes a sample (R44). -/
def CaptureChannel.sampled (k : CaptureChannel) (sample : PinLevel) : CaptureChannel :=
  { k with
    previous := some sample
    filtered := if k.previous = some sample then .ofPin sample else k.filtered }

/-- The period from the reference to a capture made now (R47). -/
def CaptureChannel.period (k : CaptureChannel) (reference : Word) : Nat :=
  k.wraps * 65536 + k.counter.toNat - reference.toNat

/-- The speed update of a capture made now: none without a reference, 0 when the period is over-range (R47, R51). -/
def CaptureChannel.captureSpeed (speed : Nat → Nat) (k : CaptureChannel) : Option Nat :=
  k.reference.map fun r => if k.period r ≤ Config.longestPeriod then speed (k.period r) else 0

/-- A capture: the wrap count returns to 0 and the counter's value becomes the reference (R46, R47). -/
def CaptureChannel.captured (k : CaptureChannel) : CaptureChannel :=
  { k with wraps := 0, reference := some k.counter, dividerCount := 0 }

/-- Step 3 of a tick, for a valid edge: it advances the divider and, when that is complete, makes a capture (R45, R46).
Answers the channel and the speed update. -/
def CaptureChannel.validEdge (divider : Nat) (speed : Nat → Nat) (k : CaptureChannel) : CaptureChannel × Option Nat :=
  if k.dividerCount + 1 = divider then (k.captured, k.captureSpeed speed)
  else ({ k with dividerCount := k.dividerCount + 1 }, none)

/-- One tick of a running channel: the channel after it and the speed updates it makes, in order (R43, R48, R51). -/
def CaptureChannel.tick (settings : ChannelSettings) (speed : Nat → Nat) (sample : PinLevel) (k : CaptureChannel) :
    CaptureChannel × List Nat :=
  let silence := if k.fallsSilent then [0] else []
  let edge := k.isEdge sample && settings.edge.accepts sample
  let k' := k.advance.sampled sample
  if edge then
    let (k'', update) := k'.validEdge settings.divider speed
    (k'', silence ++ update.toList)
  else (k', silence)

/-! ## The motion machines (R53, R54) -/

/-- The ENGINE machine's state after a speed update (R53). -/
def nextEngine (p : Params) (v : Nat) (s : EngineState) : EngineState :=
  if v ≤ p.stopLow then .stopped else if p.stopHigh ≤ v then .turning else s

/-- The states the ROAD machine enters at a speed update, in order (R54). -/
def roadPath (p : Params) (v : Nat) (s : RoadState) : List RoadState :=
  if v = 0 then (if s = .stationary then [] else [.stationary])
  else if v ≤ p.movingLow then (if s = .creeping then [] else [.creeping])
  else if v < p.movingHigh then (if s = .stationary then [.creeping] else [])
  else match s with
    | .stationary => [.creeping, .moving]
    | .creeping => [.moving]
    | .moving => []

/-- An ENGINE speed update, with the event of a changed state (R51, R53, R57). -/
def Chip.engineUpdate (c : Chip) (v : Nat) : Chip :=
  let s := nextEngine c.params v c.monitor.engineState
  let c' := { c with monitor.engine.speed := v, monitor.engineState := s }
  if s = c.monitor.engineState then c' else c'.motionEvent (.engine s)

/-- The ROAD machine enters a state and sends its event (R57). -/
def Chip.enterRoad (c : Chip) (s : RoadState) : Chip := { c with monitor.roadState := s }.motionEvent (.road s)

/-- A ROAD speed update, with the events of the states entered (R51, R54, R57). -/
def Chip.roadUpdate (c : Chip) (v : Nat) : Chip :=
  (roadPath c.params v c.monitor.roadState).foldl Chip.enterRoad { c with monitor.road.speed := v }

/-- A tick of a channel (R43). A HALTED channel takes none (R59). -/
def Chip.channelTick (channel : Channel) (sample : PinLevel) (c : Chip) : Chip :=
  match channel with
  | .engine =>
    if c.monitor.engine.running then
      let (k, updates) := c.monitor.engine.tick c.params.engine (engineSpeed c.params.engine) sample
      updates.foldl Chip.engineUpdate { c with monitor.engine := k }
    else c
  | .road =>
    if c.monitor.road.running then
      let (k, updates) := c.monitor.road.tick c.params.road (roadSpeed c.params.road) sample
      updates.foldl Chip.roadUpdate { c with monitor.road := k }
    else c

/-- Silence of a channel whose wrap count stands at 3: the speed becomes 0 and the machine takes the update (R48). -/
def Chip.silence (channel : Channel) (c : Chip) : Chip :=
  match channel with
  | .engine => if c.monitor.engine.running ∧ c.monitor.engine.wraps = 3 then c.engineUpdate 0 else c
  | .road => if c.monitor.road.running ∧ c.monitor.road.wraps = 3 then c.roadUpdate 0 else c

/-! ## The park brake (R55, R56) -/

/-- The park-brake state a level stands for (R55). -/
def ParkState.ofPin : PinLevel → ParkState
  | .high => .applied
  | .low => .released

/-- Whether the monitor runs. -/
def Monitor.runs (m : Monitor) : Bool := m.engine.running && m.road.running

/-- The park brake takes a state, with its event if it changed (R55, R57). -/
def Chip.enterPark (s : ParkState) (c : Chip) : Chip :=
  if c.monitor.park = s then c else { c with monitor.park := s }.motionEvent (.park s)

/-- A change of the PARK level restarts the debounce interval while the monitor runs with the input in use (R55). -/
def Chip.parkInput (level : PinLevel) (c : Chip) : Chip :=
  let c' := { c with pins.park := level }
  if c.pins.park ≠ level ∧ c.monitor.runs ∧ c.params.parkInUse then { c' with monitor.debounce := true } else c'

/-- The debounce interval completes (R55). -/
def Chip.parkDebounced (c : Chip) : Chip :=
  if c.monitor.debounce then { c with monitor.debounce := false }.enterPark (.ofPin c.pins.park) else c

/-! ## The start and the restart (R58, R59) -/

/-- The monitor as it starts (R58) and restarts (R59). -/
def Monitor.started (parkInUse : Bool) : Monitor :=
  { Monitor.powerOn with
    engine := { CaptureChannel.powerOn with running := true }
    road := { CaptureChannel.powerOn with running := true }
    park := if parkInUse then .unknown else .applied
    debounce := parkInUse }

/-- One event for each machine whose state differs (R57, R59). R57 does not order the events of different machines: that
they are sent ENGINE, ROAD, PARK is the model's choice (log entry 30). -/
def monitorEvents (before after : Monitor) : List MotionEvent :=
  (if before.engineState = after.engineState then [] else [.engine after.engineState])
    ++ (if before.roadState = after.roadState then [] else [.road after.roadState])
    ++ (if before.park = after.park then [] else [.park after.park])

/-- The monitor starts or restarts, with its events (R58, R59); their order is the model's choice (log entry 30). -/
def Chip.startMonitor (c : Chip) : Chip :=
  let m := Monitor.started c.params.parkInUse
  { c with monitor := m }.motionEvents (monitorEvents c.monitor m)

/-- The entry to DORMANT halts the channels and abandons the debounce interval (R59). -/
def Monitor.halted (m : Monitor) : Monitor :=
  { m with engine.running := false, road.running := false, debounce := false }

end Sys2Proof.Machine
end

