-- ==== Sys2Proof/Machine/Parameters.lean ====
section
/-! DEFINITION. The image check (R179), the settling of the image parameters (R42, R52, R56, R64, R159, R180) and the
checks of the limit table (R123, R124). -/

namespace Sys2Proof.Machine

/-- A load-fault entry list. -/
abbrev Faults := List (LoadItem × FaultKind)

/-- A parameter that is in range as read, or its default with a RANGE entry (R180). -/
def inBounds (lo hi : Nat) (default value : Nat) (item : LoadItem) : Nat × Faults :=
  if lo ≤ value ∧ value ≤ hi then (value, []) else (default, [(item, .range)])

/-- A coded parameter: the value an assigned code names, or the default with a RANGE entry (R180). -/
def coded {α : Type} (default : α) (value : Option α) (item : LoadItem) : α × Faults :=
  match value with
  | some v => (v, [])
  | none => (default, [(item, .range)])

/-- Tick codes (11_formats.md section 11.2). -/
def rateOfCode (n : Nat) : Option TickRate :=
  match n with
  | 0 => some .mhz1
  | 1 => some .khz250
  | 2 => some .khz62_5
  | 3 => some .khz15_625
  | _ => none

/-- Edge codes. -/
def edgeOfCode (n : Nat) : Option EdgeChoice :=
  match n with
  | 0 => some .rising
  | 1 => some .falling
  | 2 => some .both
  | _ => none

/-- Divider codes. -/
def dividerOfCode (n : Nat) : Option Nat :=
  match n with
  | 0 => some 1
  | 1 => some 2
  | 2 => some 4
  | 3 => some 8
  | _ => none

/-- Park-use codes: whether the input is in use. -/
def parkUseOfCode (n : Nat) : Option Bool :=
  match n with
  | 0 => some true
  | 1 => some false
  | _ => none

/-- The order check of a pair of thresholds (R52, step 2): both defaults and a THRESHOLD_ORDER entry where the low one is
not below the high one. -/
def ordered (low high lowDefault highDefault : Nat) (item : LoadItem) : Nat × Nat × Faults :=
  if low < high then (low, high, []) else (lowDefault, highDefault, [(item, .thresholdOrder)])

/-- The channel settings of a valid image (R42), with their load-fault entries. -/
def channelSettings (img : List Word) : ChannelSettings × ChannelSettings × Faults :=
  let (eRate, f1) := coded .mhz1 (rateOfCode (imgByte img 0x13).toNat) .engineTick
  let (rRate, f2) := coded .khz62_5 (rateOfCode (imgByte img 0x17).toNat) .roadTick
  let (eEdge, f3) := coded .rising (edgeOfCode (imgByte img 0x14).toNat) .engineEdge
  let (rEdge, f4) := coded .rising (edgeOfCode (imgByte img 0x18).toNat) .roadEdge
  let (eDiv, f5) := coded 1 (dividerOfCode (imgByte img 0x15).toNat) .engineDivider
  let (rDiv, f6) := coded 1 (dividerOfCode (imgByte img 0x19).toNat) .roadDivider
  let (teeth, f7) := inBounds 1 240 60 (imgByte img 0x16).toNat .engineTeeth
  let (pulses, f8) := inBounds 500 25000 8000 (imgWord img 0x1A).toNat .roadPulses
  (⟨eRate, eEdge, eDiv, teeth⟩, ⟨rRate, rEdge, rDiv, pulses⟩, f1 ++ f2 ++ f3 ++ f4 ++ f5 ++ f6 ++ f7 ++ f8)

/-- The motion thresholds of a valid image: range first, then order (R52). -/
def thresholds (img : List Word) : (Nat × Nat) × (Nat × Nat) × Faults :=
  let (sl, f1) := inBounds 10 200 40 (imgWord img 0x1C).toNat .stopLow
  let (sh, f2) := inBounds 20 400 80 (imgWord img 0x1E).toNat .stopHigh
  let (ml, f3) := inBounds 5 190 30 (imgWord img 0x20).toNat .movingLow
  let (mh, f4) := inBounds 10 200 50 (imgWord img 0x22).toNat .movingHigh
  let (sl, sh, f5) := ordered sl sh 40 80 .stopThresholds
  let (ml, mh, f6) := ordered ml mh 30 50 .movingThresholds
  ((sl, sh), (ml, mh), f1 ++ f2 ++ f3 ++ f4 ++ f5 ++ f6)

/-- The parameters of a valid image, with their load-fault entries in item order (R180). -/
def validParams (img : List Word) : Params × Faults :=
  let (limit, f1) := inBounds 16 255 64 (imgByte img 0x12).toNat .starvationLimit
  let (engine, road, f2) := channelSettings img
  let ((sl, sh), (ml, mh), f3) := thresholds img
  let (park, f4) := coded true (parkUseOfCode (imgByte img 0x24).toNat) .parkUse
  let (suspend, f5) := inBounds 10 600 120 (imgWord img 0x26).toNat .suspendLimit
  let (threshold, f6) := inBounds 1 15 6 (imgByte img 0x25).toNat .lockoutThreshold
  let (decay, f7) := inBounds 1 60 10 (imgByte img 0x28).toNat .strikeDecay
  let (period, f8) := inBounds 0 240 30 (imgByte img 0x29).toNat .scanPeriod
  ({ image := .valid, fillValue := imgWord img 0x10, starvationLimit := limit, engine := engine, road := road,
     stopLow := sl, stopHigh := sh, movingLow := ml, movingHigh := mh, parkInUse := park, suspendLimit := suspend,
     lockoutThreshold := threshold, strikeDecay := decay, scanPeriod := period },
   f1 ++ f2 ++ f3 ++ f4 ++ f5 ++ f6 ++ f7 ++ f8)

/-- The image check: the fault of the first row of R179's table that applies, if one does. -/
def imageFault (img : List Word) : Option FaultKind :=
  if img.foldr (· + ·) 0#16 ≠ 0#16 then some .check
  else if imgWord img 0 ≠ 1#16 then some .format
  else none

/-- Judges the image (R179) and settles the parameters (R180). -/
def Chip.settleParams (img : List Word) (c : Chip) : Chip :=
  match imageFault img with
  | some k => { c with params := { Params.default with image := .invalid } }.addFault (.image, k)
  | none =>
    let (ps, faults) := validParams img
    { c with params := ps }.addFaults faults

/-! ## The limit table (R123, R124) -/

/-- The standing and fault kind of a limit record as read: the first check that holds (R123). -/
def checkLimit (m : WindowMap) (raw : BitVec 96) : LimitRecord :=
  let l : LimitRecord := ⟨raw, .enabled, none⟩
  if !l.inUse then ⟨raw, .switchedOff, none⟩
  else if 1 < l.interpretation ∨ l.required < 1 ∨ 2 < l.required then ⟨raw, .faulted, some .code⟩
  else if h : l.window < 24 then
    if !m.descriptors[l.window].isTrim then ⟨raw, .faulted, some .window⟩
    else if m.spanOf ⟨l.window, h⟩ ≤ l.offset then ⟨raw, .faulted, some .offset⟩
    else if !m.owns ⟨l.window, h⟩ l.offset then ⟨raw, .faulted, some .notOwned⟩
    else if 32767 < l.step then ⟨raw, .faulted, some .step⟩
    else l
  else ⟨raw, .faulted, some .window⟩

/-- Whether an ENABLED record with a lower index names the same word as ENABLED record `j` (R124). -/
def duplicated (ls : Vector LimitRecord 32) (j : LimitNo) : Bool :=
  ls[j].standing == .enabled && (List.finRange 32).any fun i =>
    decide (i < j) && ls[i].standing == .enabled && ls[i].window == ls[j].window && ls[i].offset == ls[j].offset

/-- The limit table of a valid image after R123 and R124. -/
def checkLimits (m : WindowMap) (img : List Word) : Vector LimitRecord 32 :=
  let ls : Vector LimitRecord 32 := Vector.ofFn fun j : LimitNo => checkLimit m (imgLimit img j.val)
  Vector.ofFn fun j : LimitNo => if duplicated ls j then ⟨ls[j].raw, .faulted, some .duplicate⟩ else ls[j]

/-- The load-fault entries of the limit records whose fault kind `pick` names, in index order. -/
def limitFaults (ls : Vector LimitRecord 32) (pick : FaultKind → Bool) : Faults :=
  (List.finRange 32).filterMap fun j : LimitNo => (ls[j].fault.filter pick).map fun k => (LoadItem.limit j, k)

/-- Takes and checks the limit table of a valid image; an invalid image leaves every record NOT_LOADED (R123). The entries
of R123 are added before those of R124, which comes after its checks (log entry 15). -/
def Chip.loadLimits (img : List Word) (c : Chip) : Chip :=
  if c.params.image = .valid then
    let ls := checkLimits c.map img
    ({ c with overlay.limits := ls }.addFaults (limitFaults ls fun k => k != FaultKind.duplicate)).addFaults
      (limitFaults ls fun k => k == FaultKind.duplicate)
  else c

end Sys2Proof.Machine
end

