-- ==== Sys2Proof/Machine/Survey.lean ====
section
/-! DEFINITION. Section 7.7: what the survey finds in the record area's slots and the reference table (R153–R157,
R203), as functions of the words read. -/

namespace Sys2Proof.Machine

/-! ## The run (R153) -/

/-- The complete record with a sequence number. -/
def recordNumbered (found : List SlotRecord) (n : Nat) : Option SlotRecord := found.find? fun r => r.seq == n

/-- The highest sequence number among complete records, 0 for a fresh area. -/
def highestSeq (found : List SlotRecord) : Nat := found.foldl (fun h r => max h r.seq) 0

/-- At most `fuel` complete records counting down from sequence number `n` without a gap, latest first. -/
def runFrom (found : List SlotRecord) : Nat → Nat → List SlotRecord
  | 0, _ => []
  | fuel + 1, n =>
    match recordNumbered found n with
    | none => []
    | some r => r :: runFrom found fuel (n - 1)

/-- The run, latest record first (R153). -/
def runOf (found : List SlotRecord) : List SlotRecord := runFrom found found.length (highestSeq found)

/-- The latest record of a latest-first run for which `p` holds, and the records later than it, latest first. -/
def latestWith (p : SlotRecord → Bool) (run : List SlotRecord) : Option (SlotRecord × List SlotRecord) :=
  (run.find? p).map fun r => (r, run.takeWhile fun x => !p x)

/-- Whether a record is of a kind. -/
def SlotRecord.isKind (code : Byte) (r : SlotRecord) : Bool := r.kind == code

/-- The head the survey settles (R153). -/
def surveyHead (found : List SlotRecord) : Nat := highestSeq found + 1

/-- The archive mark the survey settles (R153). -/
def surveyMark (found : List SlotRecord) : Nat :=
  let h := highestSeq found
  let run := runOf found
  let marks := (run.filter (SlotRecord.isKind 0x0B#8)).map fun r => min (r.dword 0).toNat h
  max (marks.foldl max 0) (h - run.length)

/-! ## The cut-off grant (R154) -/

/-- The number of TRIM_CHANGE records of an earliest-first list that lie between a COMMIT_BEGIN and a COMMIT_END with
outcome DONE (R154). `inside` counts those since the last COMMIT_BEGIN, where one stands open. -/
def doneTrims : Option Nat → List SlotRecord → Nat
  | _, [] => 0
  | inside, r :: rest =>
    if r.kind = 0x05#8 then doneTrims (some 0) rest
    else if r.kind = 0x06#8 then doneTrims (inside.map (· + 1)) rest
    else if r.kind = 0x07#8 then
      (if r.word 0 = 1#16 then inside.getD 0 else 0) + doneTrims none rest
    else doneTrims inside rest

/-- The set of windows named by the records of a list for which `p` holds. -/
def windowsNamed (p : SlotRecord → Bool) (rs : List SlotRecord) : WindowSet :=
  rs.foldl (fun s r => if p r then (match r.window with | some w => addWin s w | none => s) else s) 0#24

/-- The GRANT_END the survey queues for a cut-off grant, if the run holds one (R154). -/
def surveyClosure (run : List SlotRecord) : Option AppendKind :=
  match latestWith (SlotRecord.isKind 0x01#8) run with
  | none => none
  | some (g, later) =>
    if later.any (SlotRecord.isKind 0x02#8) then none
    else
      let elapsed := ((later.filter (SlotRecord.isKind 0x06#8)).map fun r => (r.word 4).toNat).foldl max 0
      some (.grantEnd .powerLoss (g.dword 0) elapsed (doneTrims none later.reverse)
        (windowsNamed (SlotRecord.isKind 0x03#8) later) 0 g.seq (g.dword 2))

/-! ## The cut-off commit (R155) -/

/-- The window and word address a TRIM_CHANGE names, where its window is an enabled TRIM window of the map (R155). -/
def trimTarget (m : WindowMap) (r : SlotRecord) : Option (Win × Addr) :=
  match r.window with
  | none => none
  | some w => if m.descriptors[w].isTrim then some (w, m.wordOf w (r.word 0).toNat) else none

/-- The TRIM_CHANGE records of a cut-off commit, earliest first, if the run holds one; those that name no enabled TRIM
window are passed over (R155). -/
def surveyRollback (m : WindowMap) (run : List SlotRecord) : Option (List SlotRecord) :=
  match latestWith (SlotRecord.isKind 0x05#8) run with
  | none => none
  | some (_, later) =>
    if later.any (SlotRecord.isKind 0x07#8) then none
    else some ((later.filter fun r => r.isKind 0x06#8 && (trimTarget m r).isSome).reverse)

/-! ## References and marks (R156) -/

/-- Whether a record is of a kind and names a window. -/
def SlotRecord.names (code : Byte) (w : Win) (r : SlotRecord) : Bool := r.isKind code && r.window == some w

/-- Whether a WINDOW_SUM's cause code is assigned (R203). -/
def SlotRecord.causeAssigned (r : SlotRecord) : Bool := decide (1 ≤ (r.word 0).toNat) && decide ((r.word 0).toNat ≤ 5)

/-- The new sum of the latest WINDOW_SUM with an assigned cause for a window (R156, R203). -/
def latestSum (run : List SlotRecord) (w : Win) : Option DWord :=
  (run.find? fun r => r.names 0x04#8 w && r.causeAssigned).map fun r => r.dword 4

/-- The reference of a window (R156). -/
def settledReference (run : List SlotRecord) (refWords : List Word) (w : Win) : Option DWord :=
  match latestSum run w with
  | some d => some d
  | none => entrySum refWords w

/-- The reference table the survey hands over (R156). -/
def surveyReferences (run : List SlotRecord) (refWords : List Word) : Vector (Option DWord) 24 :=
  Vector.ofFn fun w : Win => settledReference run refWords w

/-- The writes that bring the reference entries in memory to the sums of the run (R156). `refs` are the scanner's
references by then: where the rollback has written a window's reference anew, its entry is that one's. The windows are taken
in ascending index: the model's choice (log entry 34). -/
def surveyEntryWrites (run : List SlotRecord) (refWords : List Word) (refs : Vector (Option DWord) 24)
    (imageBase : Addr) : List (Addr × Word) :=
  (List.finRange 24).flatMap fun w : Win =>
    match latestSum run w with
    | none => []
    | some d => if entrySum refWords w = some d ∨ refs[w] ≠ some d then [] else entryWrites imageBase w d

/-- The interrupted-reflash marks: windows with a WINDOW_OPENED later than the latest GRANT_BEGIN and no later
WINDOW_SUM (R156, R203). -/
def surveyMarks (run : List SlotRecord) : WindowSet :=
  match latestWith (SlotRecord.isKind 0x01#8) run with
  | none => 0#24
  | some (_, later) =>
    (List.finRange 24).foldl
      (fun s w => match later.find? fun r => r.names 0x03#8 w || r.names 0x04#8 w with
        | some r => if r.kind = 0x03#8 then addWin s w else s
        | none => s) 0#24

/-! ## The tamper set and lockout (R157) -/

/-- The rebuilt tamper set (R157). -/
def surveyTamper (run : List SlotRecord) : WindowSet :=
  (List.finRange 24).foldl
    (fun s w => match run.find? fun r => r.names 0x08#8 w || (r.names 0x04#8 w && r.word 0 == 3#16) with
      | some r => if r.kind = 0x08#8 then addWin s w else s
      | none => s) 0#24

/-- Whether the run holds a LOCKOUT_BEGIN with no later LOCKOUT_END (R157). -/
def surveyLockout (run : List SlotRecord) : Bool :=
  match run.find? fun r => r.isKind 0x09#8 || r.isKind 0x0A#8 with
  | some r => r.kind == 0x09#8
  | none => false

end Sys2Proof.Machine
end

