-- ==== Sys2Proof/Machine/StartUp.lean ====
section
/-! DEFINITION. Section 9.2 and 7.7: the start-up order from the fuse read to the end of the survey. -/

namespace Sys2Proof.Machine

/-- The chip with the start-up order at a phase. -/
def Chip.atPhase (phase : StartPhase) (c : Chip) : Chip := { c with supply.startUp.phase := phase }

/-- The image base, once the fuse read has given it. -/
def Chip.imageAt (c : Chip) (offset : Nat) : Addr := c.map.imageBase.getD 0#24 + BitVec.ofNat 24 offset

/-- The address of byte `offset` of record slot `slot` (R133). -/
def Chip.slotAt (c : Chip) (slot offset : Nat) : Addr :=
  (c.map.record.map Placement.base).getD 0#24 + BitVec.ofNat 24 (32 * slot + offset)

/-! ## The fuse read (R178) -/

/-- The settle time a settle choice gives (R178). -/
def settleTime (choice : Byte) : Option Nat :=
  match choice.toNat with
  | 0 => some 1
  | 1 => some 2
  | 2 => some 4
  | 3 => some 8
  | 4 => some 16
  | _ => none

/-- The settle choice taken (R178). -/
def Chip.takeSettleChoice (choice : Byte) (c : Chip) : Chip :=
  match settleTime choice with
  | some ms => { c with supply.settleMs := ms }
  | none => { c with supply.settleMs := 16 }.addFault (.settleChoice, .range)

/-- The fuse read, and the presentation of the first image read (R178, R179). -/
def Chip.fuseRead (f : FuseBlock) (c : Chip) : Chip :=
  let c' := ((c.loadAnchors f).takeSettleChoice f.settleChoice).atPhase (.image [])
  c'.presentRead .R (c'.imageAt (imageWordOffset 0))

/-! ## The end of the survey (R157, R181) -/

/-- The survey ends, and RECORDS_LOW is judged (R140, R157). -/
def Chip.surveyEnd (c : Chip) : Chip :=
  let c' := c.atPhase .ended
  if c'.freeSlots < Config.lowMark then c'.notify .recordsLow else c'

/-- The next write of the reference entries (R156), or the end of the survey after the last. -/
def Chip.surveyEntries (left : List (Addr × Word)) (c : Chip) : Chip :=
  match left with
  | [] => c.surveyEnd
  | (a, w) :: rest => (c.atPhase (.entries ((a, w) :: rest))).presentWrite .R a w

/-- Once every append that the survey queued is finished, it brings the reference entries in memory to the references,
and ends (R153, R156, R157). -/
def Chip.surveyDrain (c : Chip) : Chip :=
  if c.supply.startUp.owed = 0 then
    c.surveyEntries
      (surveyEntryWrites (runOf c.supply.startUp.found) c.supply.startUp.refWords c.scanner.references (c.imageAt 0))
  else c.atPhase .drain

/-- An append of the survey, which it waits for. -/
def Chip.surveyAppend (kind : AppendKind) (c : Chip) : Chip :=
  { c with supply.startUp.owed := c.supply.startUp.owed + 1 }.append .survey kind

/-! ## The rollback (R155) -/

/-- The rollback's COMMIT_END (R155). -/
def Chip.rollbackEnd (c : Chip) : Chip :=
  ({ c with engine.lastOutcome := .rolledBack, engine.lastWords := c.supply.startUp.restored }.surveyAppend
    (.commitEnd .rolledBack c.supply.startUp.restored)).surveyDrain

/-- The next window's sum, or the COMMIT_END after the last (R155). -/
def Chip.rollbackSums (left : List Win) (c : Chip) : Chip :=
  match left with
  | [] => c.rollbackEnd
  | w :: ws => (c.atPhase (.sums (w :: ws))).requestSum w .survey

/-- The windows named by the TRIM_CHANGE records of the rollback, in ascending index (R155). -/
def Chip.rollbackWindows (c : Chip) : List Win :=
  winsOf (windowsNamed (fun _ => true) (c.supply.startUp.rollback.getD []))

/-- The next comparison of the rollback, or the sums after the last (R155). -/
def Chip.rollbackCompare (left : List SlotRecord) (c : Chip) : Chip :=
  match left with
  | [] => c.rollbackSums c.rollbackWindows
  | r :: rest =>
    let address : Addr := ((trimTarget c.map r).map Prod.snd).getD 0#24
    (c.atPhase (.compare (r :: rest))).presentRead .R address

/-- A window the rollback finds altered joins the tamper set (R155, R157). -/
def Chip.rollbackTamper (w : Win) (c : Chip) : Chip :=
  if hasWin c.scanner.tamper w then c
  else
    { c with
      scanner.tamper := addWin c.scanner.tamper w
      supply.startUp.altered := addWin c.supply.startUp.altered w }.notify .tamperFound

/-- The comparison of a memory word with a TRIM_CHANGE record (R155): field word 1 is the old value, 2 the new. -/
def Chip.rollbackWord (r : SlotRecord) (rest : List SlotRecord) (data : Word) (c : Chip) : Chip :=
  match trimTarget c.map r with
  | none => c.rollbackCompare rest
  | some (w, address) =>
    if data = r.word 2 then (c.atPhase (.restore (r :: rest))).presentWrite .R address (r.word 1)
    else if data = r.word 1 then c.rollbackCompare rest
    else (c.rollbackTamper w).rollbackCompare rest

/-- A word has been written back (R155). -/
def Chip.rollbackRestored (rest : List SlotRecord) (c : Chip) : Chip :=
  { c with supply.startUp.restored := c.supply.startUp.restored + 1 }.rollbackCompare rest

/-- A rollback sum is delivered: TAMPER if the rollback found the window altered, then WINDOW_SUM (R155). The rollback then
goes on to the next window, or to its COMMIT_END, also while one of them waits for a place in a full append queue: the
model's choice where R155 and R136 are silent (log entry 31). -/
def Chip.surveySum (w : Win) (sum : DWord) (c : Chip) : Chip :=
  match c.supply.startUp.phase with
  | .sums (_ :: rest) =>
    let c' := if hasWin c.supply.startUp.altered w then
        c.surveyAppend (.tamper w c.scanner.references[w] sum)
      else c
    (c'.surveyAppend (.windowSum w .rollback sum)).rollbackSums rest
  | _ => c

/-- The survey goes on to the rollback, or to its end where there is none (R155). -/
def Chip.surveyRollbackStart (c : Chip) : Chip :=
  match c.supply.startUp.rollback with
  | none => c.surveyDrain
  | some trims => c.rollbackCompare trims

/-- The survey closes a cut-off grant, or goes on where there is none (R154). -/
def Chip.surveyCloseGrant (c : Chip) : Chip :=
  match c.supply.startUp.closure with
  | none => c.surveyRollbackStart
  | some kind => (c.atPhase .closeGrant).surveyAppend kind

/-- An append of the survey is finished. -/
def Chip.surveyFinished (c : Chip) : Chip :=
  let c' := { c with supply.startUp.owed := c.supply.startUp.owed - 1 }
  match c.supply.startUp.phase with
  | .closeGrant => c'.surveyRollbackStart
  | .drain => c'.surveyDrain
  | _ => c'

/-! ## The reading of the area (R153) -/

/-- The findings settled from the records as read, and handed to their owners (R153–R157, R181). -/
def Chip.settleFindings (c : Chip) : Chip :=
  let found := c.supply.startUp.found
  let refs := c.supply.startUp.refWords
  let run := runOf found
  let closure := surveyClosure run
  { c with
    engine.head := surveyHead found
    engine.mark := surveyMark found
    scanner.references := surveyReferences run refs
    scanner.marks := surveyMarks run
    scanner.tamper := surveyTamper run
    grant.strikes := if surveyLockout run then c.params.lockoutThreshold else c.grant.strikes
    grant.decay := if surveyLockout run then 0 else c.grant.decay
    grant.lastEnd := if closure.isSome then .powerLoss else c.grant.lastEnd
    supply.startUp.closure := closure
    supply.startUp.rollback := surveyRollback c.map run }

/-- The survey's first phase is over: the findings are settled, and carried out in the order of R154 to R157 (R153). -/
def Chip.surveySettle (c : Chip) : Chip := c.settleFindings.surveyCloseGrant

/-- The read of the next word of a slot. -/
def Chip.surveyRead (slot : Nat) (got : List Word) (c : Chip) : Chip :=
  (c.atPhase (.slots slot got)).presentRead .R (c.slotAt slot (2 * got.length))

/-- A word of a slot has been read (R153); `got` stands newest first. That the slots are read from 0 to C − 1, and the words
of each in ascending address, is the model's choice (log entry 33). -/
def Chip.surveyWord (slot : Nat) (got : List Word) (data : Word) (c : Chip) : Chip :=
  let got' := data :: got
  if got'.length < 16 then c.surveyRead slot got'
  else
    let r := slotRecord got'.reverse
    let c' := if r.complete c.capacity slot then { c with supply.startUp.found := r :: c.supply.startUp.found } else c
    if slot + 1 < c.capacity then c'.surveyRead (slot + 1) [] else c'.surveySettle

/-! ## The image read (R179, R180) -/

/-- The image read is complete: the image is judged, the parameters settled, the map and the limit table loaded, the
monitor started, and the survey begun (R179–R181). -/
def Chip.imageComplete (words : List Word) (c : Chip) : Chip :=
  let img := words.take checkedWords
  let c' := ((((c.settleParams img).loadMap img).loadLimits img).startMonitor)
  { c' with supply.startUp.refWords := words.drop checkedWords }.surveyRead 0 []

/-- A word of the image has been read (R179); `got` stands newest first. -/
def Chip.imageWord (got : List Word) (data : Word) (c : Chip) : Chip :=
  let got' := data :: got
  if got'.length < checkedWords + refTableWords then
    (c.atPhase (.image got')).presentRead .R (c.imageAt (imageWordOffset got'.length))
  else c.imageComplete got'.reverse

/-! ## Requester R before the bus opens -/

/-- Whether the start-up order uses requester R itself, so that no append can be begun. -/
def StartPhase.usesR : StartPhase → Bool
  | .image _ => true
  | .slots _ _ => true
  | .entries _ => true
  | .compare _ => true
  | .restore _ => true
  | .beforeFuse => false
  | .closeGrant => false
  | .sums _ => false
  | .drain => false
  | .ended => false

/-- A transfer of the start-up order on requester R has completed (R179, R181). -/
def Chip.startUpDone (data : Word) (c : Chip) : Chip :=
  match c.supply.startUp.phase with
  | .image got => c.imageWord got data
  | .slots slot got => c.surveyWord slot got data
  | .entries left => c.surveyEntries left.tail
  | .compare (r :: rest) => c.rollbackWord r rest data
  | .restore (_ :: rest) => c.rollbackRestored rest
  | .compare [] => c
  | .restore [] => c
  | .beforeFuse => c
  | .closeGrant => c
  | .sums _ => c
  | .drain => c
  | .ended => c

end Sys2Proof.Machine
end

