-- ==== Sys2Proof/Machine/Record.lean ====
section
/-! DEFINITION. Sections 7.3 to 7.5: appends from their beginning to their finish, the ARCHIVED request, and the
delivery of window sums (R170). -/

namespace Sys2Proof.Machine

/-! ## ARCHIVED (R144) and the places of the append queue (R136) -/

/-- ARCHIVED is taken: the mark rises, a slot is claimed, and the ARCHIVE_MARK request joins (R144). -/
def Chip.takeArchived (n : Nat) (c : Chip) : Chip :=
  { c with
    engine.mark := n
    engine.claimed := c.engine.claimed + 1
    engine.queue := c.engine.queue ++ [(⟨.archiveMark n, .link, true, 0⟩ : AppendRequest)] }.watchLow c.freeSlots

/-- ARCHIVED (R144). -/
def Chip.requestArchived (n : Nat) (c : Chip) : Chip × ResultCode :=
  if n ≤ c.engine.mark ∨ c.engine.head - 1 < n then (c, .badArg)
  else if c.queueHasPlace then (c.takeArchived n, .ok)
  else ({ c with engine.waiting := c.engine.waiting ++ [.archived n] }, .pending)

/-- An append request that waited for a place has joined the queue: the judgement of a TAMPER request that the pass
waited for has ended (R171). -/
def Chip.waiterJoined (r : AppendRequest) (c : Chip) : Chip :=
  match r.kind with
  | .tamper .. => c.passWaited (.joining r.ticket)
  | .grantBegin .. | .grantEnd .. | .windowOpened .. | .windowSum .. | .commitBegin .. | .trimChange .. | .commitEnd ..
  | .lockoutBegin .. | .lockoutEnd .. | .archiveMark .. => c

/-- A place has come free: what has waited longest joins the queue (R136, R144). -/
def Chip.joinWaiter (c : Chip) : Chip :=
  match c.engine.waiting with
  | [] => c
  | .append r :: rest =>
    { c with engine.queue := c.engine.queue ++ [r], engine.waiting := rest }.waiterJoined r
  | .archived n :: rest => ({ c with engine.waiting := rest }.takeArchived n).completePending 0x0A#8 .ok

/-! ## What requesters are told (R137, R138) -/

/-- A WINDOW_SUM has been written: the sum becomes the reference, the mark goes, and a rebased window leaves the tamper
set (R146, R161, R173). -/
def Chip.sumWritten (w : Win) (cause : SumCause) (sum : DWord) (c : Chip) : Chip :=
  { c with
    scanner.references := c.scanner.references.set w (some sum)
    scanner.marks := dropWin c.scanner.marks w
    scanner.tamper := if cause = .rebase then dropWin c.scanner.tamper w else c.scanner.tamper }

/-- The end of an adoption's judgement at its append's completion (R164). -/
def Chip.adoptionEnds (r : AppendRequest) (cause : SumCause) (c : Chip) : Chip :=
  if cause = .interruptedReflash then c.passWaited (.adopting r.ticket) else c

/-- The requester is told that the record was written, with its sequence number (R138). -/
def Chip.tellWritten (r : AppendRequest) (seq : Nat) (c : Chip) : Chip :=
  match r.kind with
  | .grantBegin .. => c.openingWritten seq
  | .grantEnd .. => if r.source = .grant then c.endingComplete else c
  | .windowOpened w .. => c.announced w true
  | .windowSum w cause sum => (c.sumWritten w cause sum).adoptionEnds r cause
  | .trimChange .. => { c with grant.record.commitCount := satInc c.grant.record.commitCount }
  | .commitEnd .. => if r.source = .commit then c.commitFinish else c
  | .commitBegin .. | .tamper .. | .lockoutBegin .. | .lockoutEnd .. | .archiveMark .. => c

/-- The requester is told that the record was not written (R137). -/
def Chip.tellNotWritten (r : AppendRequest) (c : Chip) : Chip :=
  match r.kind with
  | .grantBegin .. => c.openingFailed
  | .grantEnd .. => if r.source = .grant then c.endingComplete else c
  | .windowOpened w .. => c.announced w false
  | .windowSum w cause _ =>
    (if cause = .reflash then { c with scanner.marks := addWin c.scanner.marks w } else c).adoptionEnds r cause
  | .commitEnd .. => if r.source = .commit then c.commitFinish else c
  | .trimChange .. | .commitBegin .. | .tamper .. | .lockoutBegin .. | .lockoutEnd .. | .archiveMark .. => c

/-- What goes on when a request is finished (R136): the commit sequencer's next step (R148–R151), REBASE (R173), the
survey (R157). -/
def Chip.requestFinished (r : AppendRequest) (written : Bool) (c : Chip) : Chip :=
  match r.source with
  | .commit =>
    (match r.kind with
    | .commitBegin .. => c.commitNext
    | .trimChange p _ => c.trimFinished p written
    | .windowSum .. => c.commitNext
    | .grantBegin .. | .grantEnd .. | .windowOpened .. | .commitEnd .. | .tamper .. | .lockoutBegin ..
    | .lockoutEnd .. | .archiveMark .. => c)
  | .scanner =>
    (match r.kind with
    | .windowSum _ cause _ => if cause = .rebase then c.rebaseFinished else c
    | .grantBegin .. | .grantEnd .. | .windowOpened .. | .commitBegin .. | .trimChange .. | .commitEnd .. | .tamper ..
    | .lockoutBegin .. | .lockoutEnd .. | .archiveMark .. => c)
  | .survey => c.surveyFinished
  | .grant | .adu | .link => c

/-! ## Beginning a request (R137, R149) -/

/-- Whether the record of a request can be written (R137). -/
def Chip.canWrite (r : AppendRequest) (c : Chip) : Bool :=
  decide (c.engine.head < Config.headTop) &&
    if r.claimed then decide (c.unarchived < c.capacity) else decide (1 ≤ c.freeSlots)

/-- The claimed count after a request's completion (R137, R138). -/
def Chip.unclaim (r : AppendRequest) (c : Chip) : Chip :=
  if r.claimed then { c with engine.claimed := c.engine.claimed - 1 } else c

/-- Whether a request's record is a GRANT_BEGIN. -/
def AppendKind.isGrantBegin : AppendKind → Bool
  | .grantBegin .. => true
  | .grantEnd .. | .windowOpened .. | .windowSum .. | .commitBegin .. | .trimChange .. | .commitEnd .. | .tamper ..
  | .lockoutBegin .. | .lockoutEnd .. | .archiveMark .. => false

/-- Whether telling a request's end lets a pass go on that waits for this adoption (R164), while a grant can take an end
cause: both can then make append requests (R136). -/
def Chip.adoptionMeetsGrant (r : AppendRequest) (c : Chip) : Bool :=
  match r.kind, c.scanner.pass with
  | .windowSum _ .interruptedReflash _, some ⟨_, .adopting ticket⟩ =>
    ticket == r.ticket && (c.grant.state.inForce || c.grant.state == .opening)
  | _, _ => false

/-- Points 4 and 5 of R137, which are one change: the requester is told that the record was not written, and the
records-full cause is sent, but not for a GRANT_BEGIN. In this order, but where an adoption's pass goes on beside a grant:
there they are made together, and a free value says which is made first (R136, R164, log entry 6). -/
def Chip.notWrittenTold (r : AppendRequest) (c : Chip) : Chip :=
  if r.kind.isGrantBegin then c.tellNotWritten r
  else if c.adoptionMeetsGrant r then Chip.together 1 [Chip.tellNotWritten r] [Chip.endCause .recordsFull] c
  else (c.tellNotWritten r).endCause .recordsFull

/-- An append that cannot be written completes at once as not written (R137). -/
def Chip.appendNotWritten (r : AppendRequest) (c : Chip) : Chip :=
  (((c.unclaim r).notify .recordsFull).notWrittenTold r).requestFinished r false

/-- The slot address of the record that will have sequence number `seq` (R133, R137). -/
def Chip.slotFor (c : Chip) (seq : Nat) : Addr := c.slotAt ((seq - 1) % c.capacity) 0

/-- The writes of a request's record (R135, R138). -/
def Chip.recordWrites (r : AppendRequest) (e : EngineFields) (c : Chip) : List (Addr × Word) :=
  slotWrites (c.slotFor c.engine.head) (r.kind.kindWord e) (r.kind.fieldWords e) c.engine.head

/-- Presents the first of a list of writes on requester R. -/
def Chip.presentFirst (ws : List (Addr × Word)) (c : Chip) : Chip :=
  match ws with
  | [] => c
  | (a, w) :: _ => c.presentWrite .R a w

/-- Starts the writes of the record (R138). -/
def Chip.startRecord (r : AppendRequest) (taken : Option Taken) (e : EngineFields) (c : Chip) : Chip :=
  let ws := c.recordWrites r e
  { c with engine.progress := some ⟨r, taken, .slot ws⟩ }.presentFirst ws

/-- The take of a TRIM_CHANGE (R149, step 1). -/
def Chip.takenWord (p : PageNo) (n : Nat) (c : Chip) : Taken :=
  let w := c.overlay.pages[p].word n
  let window := c.boundWindow p
  ⟨window, c.map.wordOf window n, w.value, w.clamped, c.grant.record.elapsed⟩

/-- A TRIM_CHANGE is begun: the word is taken and its old value read (R149, steps 1 and 2). -/
def Chip.startTrim (r : AppendRequest) (p : PageNo) (n : Nat) (c : Chip) : Chip :=
  let t := c.takenWord p n
  { c.take p n with engine.progress := some ⟨r, some t, .readOld⟩ }.presentRead .R t.address

/-- The engine starts the append of a request whose record can be written (R137, R149). -/
def Chip.startAppend (r : AppendRequest) (c : Chip) : Chip :=
  match r.kind with
  | .trimChange p n => c.startTrim r p n
  | .windowSum w _ _ => c.startRecord r none ⟨c.scanner.references[w], none, 0#16⟩
  | .grantBegin .. | .grantEnd .. | .windowOpened .. | .commitBegin .. | .commitEnd .. | .tamper .. | .lockoutBegin ..
  | .lockoutEnd .. | .archiveMark .. => c.startRecord r none ⟨none, none, 0#16⟩

/-- Whether the Record Engine can begin a request: none is in progress, and the survey does not use requester R. -/
def Chip.canBegin (c : Chip) : Bool := c.engine.progress.isNone && !c.supply.startUp.phase.usesR

/-- The engine removes the oldest request and begins it; the place it leaves is taken by what has waited longest (R136,
R137). What waited joins before the test of the record: the model's choice (log entry 24). -/
def Chip.beginAppend (c : Chip) : Chip :=
  if c.canBegin then
    match c.engine.queue with
    | [] => c
    | r :: rest =>
      let c' := { c with engine.queue := rest }.joinWaiter
      if c'.canWrite r then c'.startAppend r else c'.appendNotWritten r
  else c

/-! ## Carrying a request on (R138, R146, R149) -/

/-- The follow-on writes of a written record: the reference entry (R146) or the taken word (R149). -/
def Chip.followOn (p : Progress) (c : Chip) : List (Addr × Word) :=
  match p.request.kind with
  | .windowSum w _ sum => entryWrites (c.imageAt 0) w sum
  | .trimChange .. => match p.taken with
    | some t => [(t.address, t.value)]
    | none => []
  | .grantBegin .. | .grantEnd .. | .windowOpened .. | .commitBegin .. | .commitEnd .. | .tamper .. | .lockoutBegin ..
  | .lockoutEnd .. | .archiveMark .. => []

/-- The request in progress is finished. -/
def Chip.finishRequest (p : Progress) (c : Chip) : Chip :=
  { c with engine.progress := none }.requestFinished p.request true

/-- The record is complete: the head rises, the requester is told, and the follow-on step begins (R138). -/
def Chip.appendComplete (p : Progress) (c : Chip) : Chip :=
  let counted := ({ c with engine.head := c.engine.head + 1 }.unclaim p.request).watchLow c.freeSlots
  let told := counted.tellWritten p.request c.engine.head
  match c.followOn p with
  | [] => told.finishRequest p
  | ws => { told with engine.progress := some { p with stage := .followOn ws } }.presentFirst ws

/-- A transfer of the request in progress has completed: the engine presents its next write, or the stage is over
(R138, R146, R149). -/
def Chip.progressDone (p : Progress) (data : Word) (c : Chip) : Chip :=
  match p.stage with
  | .readOld => c.startRecord p.request p.taken ⟨none, p.taken, data⟩
  | .slot (_ :: w :: ws) =>
    { c with engine.progress := some { p with stage := .slot (w :: ws) } }.presentFirst (w :: ws)
  | .slot _ => c.appendComplete p
  | .followOn (_ :: w :: ws) =>
    { c with engine.progress := some { p with stage := .followOn (w :: ws) } }.presentFirst (w :: ws)
  | .followOn _ => c.finishRequest p

/-- What the memory devices kept of a write of `who` that was in flight when the supply failed: free bytes (R21). Of the
two writes of a record's kind word they keep what R138 allows: a kind code that is VOID, or, of the last write, the whole
word (log entry 5). -/
def Chip.keptWord (who : Requester) (c : Chip) : Word :=
  let high := Config.keptByte (c.draws + 1)
  match who, c.engine.progress with
  | .R, some ⟨_, _, .slot [(_, last)]⟩ => if Config.keptWhole c.draws then last else high ++ 0#8
  | .R, some ⟨_, _, .slot ws⟩ => if ws.length = 17 then high ++ 0#8 else high ++ Config.keptByte c.draws
  | _, _ => high ++ Config.keptByte c.draws

/-- A transfer on requester R has completed. -/
def Chip.engineDone (data : Word) (c : Chip) : Chip :=
  match c.engine.progress with
  | some p => c.progressDone p data
  | none => c.startUpDone data

/-! ## Sums (R160, R163, R170) -/

/-- A REBASE's window sum is delivered (R173). -/
def Chip.rebaseSum (w : Win) (sum : DWord) (c : Chip) : Chip :=
  if c.rebaseInFlight then c.append .scanner (.windowSum w .rebase sum) else c

/-- What the delivery of a sum to one requester brings about, in order (R170). -/
def SumClient.takes (w : Win) (sum : DWord) : SumClient → List (Chip → Chip)
  | .commit => [Chip.commitSum w sum]
  | .closing => [Chip.closingSum w sum, Chip.closingGoesOn]
  | .survey => [Chip.surveySum w sum]
  | .rebase => [Chip.rebaseSum w sum]

/-- A sum is handed to each requester of its request (R170). The requesters of a merged request make their append requests
together (R136, log entry 6). -/
def Chip.deliver (w : Win) (sum : DWord) (clients : List SumClient) (c : Chip) : Chip :=
  match clients with
  | [] => c
  | first :: others =>
    Chip.together (clients.length + 1) (first.takes w sum) (others.flatMap (SumClient.takes w sum)) c

/-- A sum is complete: the pass judges it, or it is delivered. -/
def Chip.sumComplete (r : SumRun) (c : Chip) : Chip :=
  let c' := { c with scanner.sum := none }
  match r.purpose with
  | .pass => c'.passSum r.window r.total
  | .request clients => c'.deliver r.window r.total clients

/-- A read of requester S has completed: the word is added, and the next owned word's read is presented or the sum is
complete (R160). -/
def Chip.sumRead (data : Word) (c : Chip) : Chip :=
  match c.scanner.sum with
  | none => c
  | some r =>
    let r' := r.add data
    match c.map.ownedAt r.window (r.word + 1) with
    | some i =>
      { c with scanner.sum := some { r' with word := i } }.presentRead .S (c.map.wordOf r.window i)
    | none => c.sumComplete r'

/-- Whether no window of a pass is being judged (R170). A restarted pass that waits for the append of an adoption made
before the restart (R167) counts as judging one, since that judgement has not ended (R164): the model's choice (log entry
36). -/
def Chip.betweenWindows (c : Chip) : Bool :=
  match c.scanner.pass with
  | none => true
  | some run => run.phase == .between

/-- The scanner takes the oldest waiting sum request and starts its sum; a window that owns no words is delivered at once
(R160, R170). -/
def Chip.serveSum (c : Chip) : Chip :=
  if c.scanner.sum.isSome ∨ !c.betweenWindows then c
  else
    match c.scanner.queue with
    | [] => c
    | r :: rest =>
      let c' := { c with scanner.queue := rest }
      match c.map.ownedAt r.window 0 with
      | some i => c'.startSum r.window i (.request r.clients)
      | none => c'.deliver r.window emptySum r.clients

end Sys2Proof.Machine
end

