-- ==== Sys2Proof/Machine/Supply.lean ====
section
/-! DEFINITION. Chapter 9: power states, the ignition filter, dormancy and waking; and the external reset (R20, R86,
R189). -/

namespace Sys2Proof.Machine

/-! ## Entries to power states -/

/-- The entry to ACTIVE (R182, R184, R188): the dormancy delay stops and a scan pass starts. -/
def Chip.enterActive (c : Chip) : Chip :=
  { c with supply.power := .active, supply.dormancy := none }.startPass

/-- The entry to AFTER_RUN (R182, R183, R188): the dormancy delay starts from 0, the ignition cause is sent, and the
scanner leaves ACTIVE. The announcement states of a grant that is then ENDING are kept until its record is emptied (R99):
the model's reading beside R107's row for AFTER_RUN (log entry 26). -/
def Chip.enterAfterRun (c : Chip) : Chip :=
  (({ c with supply.power := .afterRun, supply.dormancy := some 0 }.endCause .ignition).abandonPass)

/-- ACTIVE with the filtered level ON, AFTER_RUN otherwise (R182, R188). -/
def Chip.enterRunning (c : Chip) : Chip :=
  match c.supply.filtered with
  | .on => c.enterActive
  | .off => c.enterAfterRun
  | .unsettled => c.enterAfterRun

/-- Whether START can end: the survey has ended and the filtered level is ON or OFF (R182). -/
def Supply.startOver (s : Supply) : Bool := s.power == .start && s.startUp.phase == .ended && s.filtered != .unsettled

/-- The end of START (R182). -/
def Chip.endStart (c : Chip) : Chip :=
  if c.supply.startOver then ({ c with bus.gate.start := false }.enterRunning).gateChanged else c

/-! ## The ignition filter (R176) -/

/-- The filtered level a pin level stands for (R176). -/
def IgnitionLevel.ofPin : PinLevel → IgnitionLevel
  | .high => .on
  | .low => .off

/-- A change of the IGNITION input restarts the stability interval (R176). -/
def Chip.ignitionInput (level : PinLevel) (c : Chip) : Chip :=
  let c' := { c with pins.ignition := level }
  if c.pins.ignition = level then c' else { c' with supply.stability := true }

/-- A wake starts (R187). -/
def Chip.startWake (c : Chip) : Chip :=
  { c with supply.power := .waking, supply.settling := true, bus.gate.waking := true }

/-- An ignition event, by power state (R176). -/
def Chip.ignitionEvent (level : IgnitionLevel) (c : Chip) : Chip :=
  match c.supply.power, level with
  | .active, .off => c.enterAfterRun
  | .afterRun, .on => c.enterActive
  | .dormant, .on => c.startWake
  | _, _ => c

/-- The stability interval completes (R176). The settling out of UNSETTLED is no event. -/
def Chip.ignitionFiltered (c : Chip) : Chip :=
  if c.supply.stability then
    let level := IgnitionLevel.ofPin c.pins.ignition
    let c' := { c with supply.stability := false, supply.filtered := level }
    if c.supply.filtered = .unsettled ∨ c.supply.filtered = level then c' else c'.ignitionEvent level
  else c

/-! ## Dormancy (R185, R186) -/

/-- The dormancy delay has reached 500 ms (R185). -/
def Chip.delayExpired (c : Chip) : Chip :=
  match c.supply.power, c.supply.dormancy with
  | .afterRun, some t => { c with supply.dormancy := some (max t Config.dormancyMs) }
  | _, _ => c

/-- Whether every condition of R185 holds. -/
def Chip.mayGoDormant (c : Chip) : Bool :=
  c.supply.power == .afterRun
    && (match c.supply.dormancy with | some t => decide (Config.dormancyMs ≤ t) | none => false)
    && !c.workInFlight
    && (match c.bus.port with | .idle => true | _ => false)
    && (match c.bus.memPort with | .busy _ _ _ => false | .free => true | .parked => true)
    && c.link.transaction.isNone

/-- The entry to DORMANT (R186). -/
def Chip.enterDormant (c : Chip) : Chip :=
  { c with
    supply.power := .dormant
    supply.dormancy := none
    monitor := c.monitor.halted
    link.receiving := false }

/-- The part enters DORMANT at the first instant at which every condition holds (R185). -/
def Chip.checkDormancy (c : Chip) : Chip := if c.mayGoDormant then c.enterDormant else c

/-- The end of the settle time (R188): the monitor restarts, the receiver starts, and the part enters ACTIVE or
AFTER_RUN; a GATED cycle is then decided. -/
def Chip.settleEnds (c : Chip) : Chip :=
  if c.supply.settling then
    (({ c with bus.gate.waking := false, supply.settling := false, link.receiving := true }.startMonitor).enterRunning
      ).gateChanged
  else c

/-! ## Processor arrivals (R1, R9, R185, R187) -/

/-- What an arrival does to the power state: it restarts the dormancy delay in AFTER_RUN and starts a wake in DORMANT. -/
def Chip.arrivalReported (c : Chip) : Chip :=
  match c.supply.power with
  | .afterRun => { c with supply.dormancy := some 0 }
  | .dormant => c.startWake
  | .start => c
  | .active => c
  | .waking => c

/-- A cycle that has arrived is decided if the gate is open and GATED otherwise, which ends parking (R3, R9, R16). -/
def Chip.admitCycle (y : CycleRecord) (c : Chip) : Chip :=
  if c.bus.gate.isOpen then c.decideCycle y else { c with bus.port := .gated y }.unpark

/-- A strobe is asserted with the chip select; it is an arrival if the port is IDLE (R1). With a cycle in flight, also one
that was withdrawn or abandoned and is only waiting for its transfer, the assertion is lost and the chip select stays as it
was: the model's choice beside R13 and R16 (log entry 32). -/
def Chip.cycleArrives (b : BusCycle) (c : Chip) : Chip :=
  match c.bus.port with
  | .idle =>
    if b.readStrobe || b.writeStrobe then
      ({ c with pins.chipSelect := true }.arrivalReported).admitCycle (captureCycle b)
    else c
  | .gated _ => c
  | .held _ _ => c
  | .transfer _ _ => c
  | .done _ _ => c

/-- The processor releases the strobe that began the cycle: DONE becomes IDLE, and a cycle before ready is withdrawn (R8,
R13). -/
def Chip.strobeReleased (c : Chip) : Chip :=
  match c.bus.port with
  | .done _ _ => { c with bus.port := .idle }
  | .idle => c
  | .gated _ => c.dropCycle
  | .held _ _ => c.dropCycle
  | .transfer _ _ => c.dropCycle

/-- The processor releases the chip select: a cycle before ready is withdrawn, and parking ends (R13, R16). -/
def Chip.chipSelectReleased (c : Chip) : Chip := ({ c with pins.chipSelect := false }.dropCycle).unpark

/-- A cycle is withdrawn before ready (R13). -/
def Chip.cycleWithdrawn (cause : WithdrawCause) (c : Chip) : Chip :=
  match cause with
  | .strobe => c.dropCycle
  | .chipSelect => c.chipSelectReleased

/-! ## External reset (R20, R86, R189) -/

/-- The cycle in DONE is over at the external reset: its strobe release is not awaited (R20). -/
def Port.afterReset : Port → Port
  | .done _ _ => .idle
  | p => p

/-- The assertion of RESET_N (R20, R86). -/
def Chip.resetAsserted (c : Chip) : Chip :=
  if c.pins.resetAsserted then c
  else
    let dropped := { c with pins.resetAsserted := true, bus.gate.reset := true }.dropCycle
    ({ dropped with bus.port := dropped.bus.port.afterReset }.unpark).endCause .reset

/-- The release of RESET_N (R20). -/
def Chip.resetReleased (c : Chip) : Chip :=
  if c.pins.resetAsserted then { c with pins.resetAsserted := false, bus.gate.reset := false }.gateChanged else c

/-! ## Second ticks (R70, R82, R166) -/

/-- The timers after a second tick, before anything they bring about (R70, R82, R166). -/
def Chip.tickTimers (c : Chip) : Chip :=
  let record := if c.grant.state.inForce then c.grant.record.secondPassed else c.grant.record
  let decay := if c.supply.power = .active ∧ 0 < c.grant.strikes then c.grant.decay + 1 else c.grant.decay
  let timer := if c.timerRuns then c.scanner.timer + 1 else c.scanner.timer
  { c with grant.record := record, grant.decay := decay, scanner.timer := timer }

/-- What a tick brings about in the Grant Controller: a grant's end and a strike decay (R71, R82). At most one of them
makes an append request, since a grant is in force only below the lockout threshold (R83). -/
def Chip.grantTick (c : Chip) : Chip := c.applyExpiry.applyDecay

/-- Whether one tick brings something about in the Grant Controller and in the Integrity Scanner too. -/
def Chip.bothDue (c : Chip) : Bool := (c.grant.dueEnd.isSome || c.decayDue) && c.scanDue

/-- A second tick (R70, R71, R82, R166). What it brings about in the Grant Controller and in the Integrity Scanner is made
together (R136, log entry 6). -/
def Chip.secondTick (c : Chip) : Chip :=
  if c.supply.power = .dormant then c
  else
    let c' := c.tickTimers
    if c'.bothDue then Chip.together 1 [Chip.grantTick] [Chip.periodicExpiry] c' else c'.grantTick.periodicExpiry

end Sys2Proof.Machine
end

