-- ==== Sys2Proof/Machine/Ops.lean ====
section
/-! DEFINITION. The operations that every command's meaning is made of: what happens at the end of each command, a
completed memory transfer, and the fall and rise of the supply. -/

namespace Sys2Proof.Machine

/-- What a command answers. -/
abbrev Answer := Host.Outcome State Fault Refusal

/-- The end of every command: the arbiter grants a FREE port to a request that the command has left pending (R15), and
the part enters DORMANT if every condition of R185 holds. -/
def Chip.finish (c : Chip) : Chip := c.arbitrate.checkDormancy

/-- The state after an event that only a supplied part takes. -/
def State.onChip (f : Chip → Chip) (s : State) : State :=
  if s.supplied then { s with chip := (f s.chip).finish } else s

/-- The state after a change of an input pin: a supplied part takes it whole; without supply only the pin changes. -/
def State.onPin (pin : Pins → Pins) (f : Chip → Chip) (s : State) : State :=
  if s.supplied then { s with chip := (f s.chip).finish }
  else { s with chip := { s.chip with pins := pin s.chip.pins } }

/-! ## A completed transfer (R14) -/

/-- A pass transfer has completed: its cycle completes, with a served-write report for a WRITE; a withdrawn or abandoned
cycle ends without either (R5, R8, R13, R20). -/
def Chip.passDone (data : Word) (c : Chip) : Chip :=
  match c.bus.port with
  | .transfer _ true => { c with bus.port := .idle }
  | .transfer y false =>
    match y.direction, y.decision with
    | .write, some d => (c.completeCycle y data).reportServed d.resolution.owner
    | .write, none => c.completeCycle y data
    | .read, _ => c.completeCycle y data
  | .idle => c
  | .gated _ => c
  | .held _ _ => c
  | .done _ _ => c

/-- What the completion of a requester's transfer brings about in the requester (R14); the data of an operation given up
is discarded. -/
def Chip.requesterDone (who : Requester) (live : Bool) (data : Word) (c : Chip) : Chip :=
  match who, live with
  | .P, _ => c.passDone data
  | .R, true => c.engineDone data
  | .L, true => c.loaderRead data
  | .S, true => c.sumRead data
  | _, false => c

/-- The memory port after a transfer has completed: P's parks it or frees it, an internal requester's continues its burst
or frees it (R16, R18). -/
def Chip.endTransfer (who : Requester) (c : Chip) : Chip :=
  match who with
  | .P => c.endPass
  | .R | .L | .S => c.endInternal who

/-- The completion of the transfer in flight (R14). -/
def Chip.transferDone (who : Requester) (live : Bool) (data : Word) (c : Chip) : Chip :=
  (c.requesterDone who live data).endTransfer who

/-- The memory's ready for the transfer in flight (R14): the memory devices complete it, and its requester takes the
data. -/
def State.transferComplete (returned : Option Word) (s : State) : State :=
  match s.supplied, s.chip.bus.memPort with
  | true, .busy who t live =>
    { s with
      memory := (s.memory.complete t returned).1
      chip := (s.chip.transferDone who live (s.memory.complete t returned).2).finish }
  | _, _ => s

/-! ## The supply (R21, R190) -/

/-- The loss of the supply: all operation ends, and a write in flight leaves whatever the memory devices kept (R21, R138,
R190). -/
def State.loseSupply (s : State) : State :=
  match s.supplied, s.chip.bus.memPort with
  | true, .busy who t _ =>
    { s with
      supplied := false
      chip := .powerOn s.chip.pins (s.chip.draws + 2)
      memory := s.memory.cutOff t (s.chip.keptWord who) }
  | _, _ => { s with supplied := false, chip := .powerOn s.chip.pins s.chip.draws }

/-- The rise of the supply: every block at its power-on values, and the fuse read (R178, R190). -/
def State.raiseSupply (s : State) : State :=
  { s with supplied := true, chip := ((Chip.powerOn s.chip.pins s.chip.draws).fuseRead s.fuse).finish }

end Sys2Proof.Machine
end

