-- ==== Sys2Proof/Machine/BusCommands.lean ====
section
/-! DEFINITION. The commands at the processor port, the memory port and RESET_N (chapter 1). -/

namespace Sys2Proof.Machine

/-- PROCESSOR_CYCLE_ARRIVAL (R1): with the port IDLE and a strobe asserted, the cycle is captured, and gated or
decided. -/
def execProcessorCycleArrival (cycle : BusCycle) (s : State) : Answer := .next (s.onChip (Chip.cycleArrives cycle))

/-- STROBE_RELEASE (R8): DONE becomes IDLE. Before ready, the release withdraws the cycle (R13). -/
def execStrobeRelease (s : State) : Answer := .next (s.onChip Chip.strobeReleased)

/-- CYCLE_WITHDRAWN (R13). -/
def execCycleWithdrawn (cause : WithdrawCause) (s : State) : Answer :=
  match cause with
  | .strobe => .next (s.onChip (Chip.cycleWithdrawn .strobe))
  | .chipSelect => .next (s.onPin (fun p => { p with chipSelect := false }) (Chip.cycleWithdrawn .chipSelect))

/-- CHIP_SELECT_RELEASE (R16): parking ends. Before ready, the release withdraws the cycle (R13). -/
def execChipSelectRelease (s : State) : Answer :=
  .next (s.onPin (fun p => { p with chipSelect := false }) Chip.chipSelectReleased)

/-- MEMORY_TRANSFER_COMPLETE (R14). -/
def execMemoryTransferComplete (returned : Option Word) (s : State) : Answer := .next (s.transferComplete returned)

/-- RESET_N_ASSERT (R20, R86, R189). -/
def execResetNAssert (s : State) : Answer :=
  .next (s.onPin (fun p => { p with resetAsserted := true }) Chip.resetAsserted)

/-- RESET_N_RELEASE (R20). -/
def execResetNRelease (s : State) : Answer :=
  .next (s.onPin (fun p => { p with resetAsserted := false }) Chip.resetReleased)

end Sys2Proof.Machine
end

