-- ==== Sys2Proof/Machine/Link.lean ====
section
/-! DEFINITION. Chapter 10: transactions of the gateway link, request frames, and the requests' replies. -/

namespace Sys2Proof.Machine

/-! ## Transactions (R191, R196) -/

/-- The transaction that a fall of SEL_N opens now (R191). -/
def Chip.opening (c : Chip) : Transaction :=
  ⟨if c.link.receiving then some ⟨c.link.reply, c.link.overrun⟩ else none⟩

/-- The transaction in progress, or the one whose fall is taken with this rise. -/
def Chip.current (c : Chip) : Transaction := c.link.transaction.getD c.opening

/-- The fall of SEL_N (R191). -/
def Chip.transactionStart (c : Chip) : Chip := { c with link.transaction := some c.current }

/-- The bytes of SDO when `clocked` bytes are clocked: the snapshot's, then FFh; FFh throughout without a snapshot
(R191). -/
def Transaction.sent (t : Transaction) (clocked : Nat) : List Byte :=
  let bytes := match t.snapshot with
    | some s => s.bytes
    | none => []
  bytes.take clocked ++ List.replicate (clocked - bytes.length) 0xFF#8

/-- Whether a transaction has clocked out the link-flags byte of a snapshot that carried the overrun flag (R196). -/
def Transaction.clearsOverrun (t : Transaction) (clocked : Nat) : Bool :=
  decide (3 ≤ clocked) && (match t.snapshot with | some s => s.overrun | none => false)

/-- The rise of SEL_N after `clocked` bytes, before any request is taken (R191, R196). -/
def Chip.rise (t : Transaction) (clocked : Nat) (c : Chip) : Chip :=
  { c with
    link.transaction := none
    link.sdo := t.sent clocked
    link.overrun := c.link.overrun && !t.clearsOverrun clocked }

/-! ## Replies (R195) -/

/-- The reply buffer takes a reply. -/
def Chip.answer (echo : Byte) (code : ResultCode) (payload : List Byte) (c : Chip) : Chip :=
  { c with link.reply := ⟨code, echo, payload⟩ }

/-- The reply buffer takes an owner's reply without payload. -/
def answerWith (echo : Byte) (r : Chip × ResultCode) : Chip := r.1.answer echo r.2 []

/-! ## The owners (R194) -/

/-- GRANT (R65, R66): PENDING at admission. -/
def Chip.ownGrant (f : GrantFields) (c : Chip) : Chip :=
  match c.grantRefusal f with
  | some code => c.answer 0x02#8 code []
  | none => (c.admitGrant f).answer 0x02#8 .pending []

/-- KEEP (R73). -/
def Chip.ownKeep (c : Chip) : Chip := answerWith 0x03#8 c.keepGrant

/-- REVOKE (R74). -/
def Chip.ownRevoke (c : Chip) : Chip := answerWith 0x04#8 c.revokeGrant

/-- COMMIT (R147). -/
def Chip.ownCommit (pages : PageSet) (c : Chip) : Chip := answerWith 0x05#8 (c.takeCommit pages)

/-- DISCARD (R119). -/
def Chip.ownDiscard (pages : PageSet) (c : Chip) : Chip := answerWith 0x06#8 (c.takeDiscard pages)

/-- RESCAN (R167). -/
def Chip.ownRescan (c : Chip) : Chip := answerWith 0x07#8 c.rescan

/-- REBASE (R172). -/
def Chip.ownRebase (c : Chip) : Chip := answerWith 0x08#8 c.takeRebase

/-- REFUSALS (R106): the list is handed over and emptied, and the notice cleared. -/
def Chip.ownRefusals (c : Chip) : Chip :=
  { c with adu.refusals := [], link.notices := noticeClear c.link.notices .refusals }.answer 0x09#8 .ok
    (refusalsPayload c.adu.refusals)

/-- ARCHIVED (R144). -/
def Chip.ownArchived (upTo : DWord) (c : Chip) : Chip := answerWith 0x0A#8 (c.requestArchived upTo.toNat)

/-- STATUS (R197): the payload is assembled and every notice flag it reports is cleared. -/
def Chip.ownStatus (c : Chip) : Chip := { c with link.notices := 0#16 }.answer 0x01#8 .ok c.statusPayload

/-- DESCRIBE (R198). -/
def Chip.ownDescribe (kind index : Byte) (c : Chip) : Chip :=
  match c.describePayload kind index with
  | some payload => c.answer 0x0B#8 .ok payload
  | none => c.answer 0x0B#8 .badArg []

/-- A request of the code's required length is forwarded to its owner (R193 row 6, R194). -/
def Chip.forward (code : Byte) (payload : List Byte) (c : Chip) : Chip :=
  match code.toNat with
  | 0x01 => c.ownStatus
  | 0x02 => c.ownGrant (grantFieldsOf payload)
  | 0x03 => c.ownKeep
  | 0x04 => c.ownRevoke
  | 0x05 => c.ownCommit (payload.getD 0 0#8)
  | 0x06 => c.ownDiscard (payload.getD 0 0#8)
  | 0x07 => c.ownRescan
  | 0x08 => c.ownRebase
  | 0x09 => c.ownRefusals
  | 0x0A => c.ownArchived (payload32 payload 0)
  | 0x0B => c.ownDescribe (payload.getD 0 0#8) (payload.getD 1 0#8)
  | _ => c

/-! ## Taking a frame (R193) -/

/-- Rows 2 and 6 of R193 for a well-formed request of its required length. -/
def Chip.takeRequest (owner : Chip → Chip) (c : Chip) : Chip :=
  if c.link.reply.code = .pending then { c with link.overrun := true } else owner c

/-- The number of bytes of a frame with a payload of `length` bytes and `filler` bytes after it (R192). -/
def frameBytes (length filler : Nat) : Nat := length + 3 + filler

/-- The rise of SEL_N after a well-formed request frame (R192, R193): a transaction whose receiver was STOPPED at the fall
takes nothing (R191). -/
def Chip.request (length filler : Nat) (owner : Chip → Chip) (c : Chip) : Chip :=
  let t := c.current
  let c' := c.rise t (frameBytes length filler)
  if t.snapshot.isSome then c'.takeRequest owner else c'

/-- The rise of SEL_N after a well-formed NOP frame (R193 row 1). -/
def Chip.requestNop (filler : Nat) (c : Chip) : Chip := c.rise c.current (frameBytes 0 filler)

/-- The judgement of a frame by R193's rows. -/
def Chip.takeFrame (bytes : List Byte) (c : Chip) : Chip :=
  match judgeFrame bytes with
  | .empty => c
  | .bad echo =>
    if c.link.reply.code = .pending then { c with link.overrun := true } else c.answer echo .badFrame []
  | .wellFormed code payload =>
    if code = 0#8 then c
    else if c.link.reply.code = .pending then { c with link.overrun := true }
    else
      match requestLength code with
      | none => c.answer code .unknown []
      | some n => if payload.length = n then c.forward code payload else c.answer code .badArg []

/-- The rise of SEL_N after any bytes (R192, R193). -/
def Chip.requestBytes (bytes : List Byte) (c : Chip) : Chip :=
  let t := c.current
  let c' := c.rise t bytes.length
  if t.snapshot.isSome then c'.takeFrame bytes else c'

/-- The rise of SEL_N of a transaction with no request to take (R191, R192). -/
def Chip.transactionEnd (clocked : Nat) (c : Chip) : Chip :=
  match c.link.transaction with
  | none => c
  | some t => c.rise t (if t.snapshot.isSome then 0 else clocked)

end Sys2Proof.Machine
end

