-- ==== Sys2Proof/Machine/GrantCommands.lean ====
section
/-! DEFINITION. The commands of the Grant Controller (chapter 4). -/

namespace Sys2Proof.Machine

/-- GRANT (R65). -/
def execGrant (fields : GrantFields) (filler : Nat) (s : State) : Answer :=
  .next (s.onChip (Chip.request 16 filler (Chip.ownGrant fields)))

/-- SECOND_TICK (R70, with R71, R82 and R166 for what the tick brings to its end). -/
def execSecondTick (s : State) : Answer := .next (s.onChip Chip.secondTick)

/-- GRANT_TIMER_EXPIRY (R71). -/
def execGrantTimerExpiry (s : State) : Answer := .next (s.onChip Chip.applyExpiry)

/-- KEEP (R73). -/
def execKeep (filler : Nat) (s : State) : Answer := .next (s.onChip (Chip.request 0 filler Chip.ownKeep))

/-- REVOKE (R74). -/
def execRevoke (filler : Nat) (s : State) : Answer := .next (s.onChip (Chip.request 0 filler Chip.ownRevoke))

/-- CLOSING_SUM_REQUEST (R78). -/
def execClosingSumRequest (s : State) : Answer := .next (s.onChip Chip.askClosingSum)

/-- STRIKE_DECAY (R82, R84). -/
def execStrikeDecay (s : State) : Answer := .next (s.onChip Chip.applyDecay)

end Sys2Proof.Machine
end

