-- ==== Sys2Proof/Machine/LinkCommands.lean ====
section
/-! DEFINITION. The commands of the Gateway Link itself (chapter 10). -/

namespace Sys2Proof.Machine

/-- TRANSACTION_START (R191). -/
def execTransactionStart (s : State) : Answer := .next (s.onChip Chip.transactionStart)

/-- NOP (R193). -/
def execNop (filler : Nat) (s : State) : Answer := .next (s.onChip (Chip.requestNop filler))

/-- STATUS (R197). -/
def execStatus (filler : Nat) (s : State) : Answer := .next (s.onChip (Chip.request 0 filler Chip.ownStatus))

/-- DESCRIBE (R198). -/
def execDescribe (kind index : Byte) (filler : Nat) (s : State) : Answer :=
  .next (s.onChip (Chip.request 2 filler (Chip.ownDescribe kind index)))

/-- UNKNOWN (R193): any frame, judged by its bytes. -/
def execUnknown (bytes : List Byte) (s : State) : Answer := .next (s.onChip (Chip.requestBytes bytes))

/-- TRANSACTION_END (R191, R192). -/
def execTransactionEnd (clocked : Nat) (s : State) : Answer := .next (s.onChip (Chip.transactionEnd clocked))

end Sys2Proof.Machine
end

