-- ==== Sys2Proof/Machine/MonitorCommands.lean ====
section
/-! DEFINITION. The commands of the Standstill Monitor (chapter 3). -/

namespace Sys2Proof.Machine

/-- CHANNEL_TICK (R43). -/
def execChannelTick (channel : Channel) (sample : PinLevel) (s : State) : Answer :=
  .next (s.onChip (Chip.channelTick channel sample))

/-- SILENCE (R48). -/
def execSilence (channel : Channel) (s : State) : Answer := .next (s.onChip (Chip.silence channel))

/-- PARK_INPUT_CHANGE (R55). -/
def execParkInputChange (level : PinLevel) (s : State) : Answer :=
  .next (s.onPin (fun p => { p with park := level }) (Chip.parkInput level))

/-- PARK_DEBOUNCE_COMPLETE (R55). -/
def execParkDebounceComplete (s : State) : Answer := .next (s.onChip Chip.parkDebounced)

end Sys2Proof.Machine
end

