-- ==== Sys2Proof/Machine/RecordCommands.lean ====
section
/-! DEFINITION. The commands of the ADU's list, the Trim Overlay Unit and the Record Engine (chapters 5 to 7). -/

namespace Sys2Proof.Machine

/-- REFUSALS (R106). -/
def execRefusals (filler : Nat) (s : State) : Answer := .next (s.onChip (Chip.request 0 filler Chip.ownRefusals))

/-- DISCARD (R119, R120). -/
def execDiscard (pages : PageSet) (filler : Nat) (s : State) : Answer :=
  .next (s.onChip (Chip.request 1 filler (Chip.ownDiscard pages)))

/-- APPEND_BEGIN (R137). -/
def execAppendBegin (s : State) : Answer := .next (s.onChip Chip.beginAppend)

/-- COMMIT (R147, R148). -/
def execCommit (pages : PageSet) (filler : Nat) (s : State) : Answer :=
  .next (s.onChip (Chip.request 1 filler (Chip.ownCommit pages)))

/-- ARCHIVED (R144). -/
def execArchived (upTo : DWord) (filler : Nat) (s : State) : Answer :=
  .next (s.onChip (Chip.request 4 filler (Chip.ownArchived upTo)))

end Sys2Proof.Machine
end

