-- ==== Sys2Proof/Machine/ScannerCommands.lean ====
section
/-! DEFINITION. The commands of the Integrity Scanner (chapter 8). -/

namespace Sys2Proof.Machine

/-- PERIODIC_SCAN_EXPIRY (R166). -/
def execPeriodicScanExpiry (s : State) : Answer := .next (s.onChip Chip.periodicExpiry)

/-- PASS_RESUME (R162). -/
def execPassResume (s : State) : Answer := .next (s.onChip Chip.resumePass)

/-- RESCAN (R167). -/
def execRescan (filler : Nat) (s : State) : Answer := .next (s.onChip (Chip.request 0 filler Chip.ownRescan))

/-- SUM_REQUEST_SERVICE (R170). -/
def execSumRequestService (s : State) : Answer := .next (s.onChip Chip.serveSum)

/-- REBASE (R172). -/
def execRebase (filler : Nat) (s : State) : Answer := .next (s.onChip (Chip.request 0 filler Chip.ownRebase))

end Sys2Proof.Machine
end

