-- ==== Sys2Proof/Machine/SupplyCommands.lean ====
section
/-! DEFINITION. The commands of the Supply and Ignition Controller (chapter 9). -/

namespace Sys2Proof.Machine

/-- POWER_ON_RESET (R190, R178): the rise of the supply, after the loss of whatever was supplied before. -/
def execPowerOnReset (s : State) : Answer := .next s.loseSupply.raiseSupply

/-- START_END (R182). -/
def execStartEnd (s : State) : Answer := .next (s.onChip Chip.endStart)

/-- IGNITION_INPUT_CHANGE (R176). -/
def execIgnitionInputChange (level : PinLevel) (s : State) : Answer :=
  .next (s.onPin (fun p => { p with ignition := level }) (Chip.ignitionInput level))

/-- IGNITION_FILTER_COMPLETE (R176). -/
def execIgnitionFilterComplete (s : State) : Answer := .next (s.onChip Chip.ignitionFiltered)

/-- DORMANCY_DELAY_EXPIRY (R185). -/
def execDormancyDelayExpiry (s : State) : Answer := .next (s.onChip Chip.delayExpired)

/-- SETTLE_TIME_END (R188). -/
def execSettleTimeEnd (s : State) : Answer := .next (s.onChip Chip.settleEnds)

/-- SUPPLY_LOSS (R190, R21). -/
def execSupplyLoss (s : State) : Answer := .next s.loseSupply

end Sys2Proof.Machine
end

