-- ==== Sys2Proof/Machine/Dispatch.lean ====
section
/-! DEFINITION. One arm per command. -/

namespace Sys2Proof.Machine

/-- The effect of a command on everything but the queue. -/
def exec (i : Instr) (s : State) : Host.Outcome State Fault Refusal :=
  match i with
  | .powerOnReset => Sys2Proof.Machine.execPowerOnReset s
  | .startEnd => Sys2Proof.Machine.execStartEnd s
  | .processorCycleArrival cycle => Sys2Proof.Machine.execProcessorCycleArrival cycle s
  | .strobeRelease => Sys2Proof.Machine.execStrobeRelease s
  | .cycleWithdrawn cause => Sys2Proof.Machine.execCycleWithdrawn cause s
  | .chipSelectRelease => Sys2Proof.Machine.execChipSelectRelease s
  | .memoryTransferComplete returned => Sys2Proof.Machine.execMemoryTransferComplete returned s
  | .resetNAssert => Sys2Proof.Machine.execResetNAssert s
  | .resetNRelease => Sys2Proof.Machine.execResetNRelease s
  | .channelTick channel sample => Sys2Proof.Machine.execChannelTick channel sample s
  | .silence channel => Sys2Proof.Machine.execSilence channel s
  | .parkInputChange level => Sys2Proof.Machine.execParkInputChange level s
  | .parkDebounceComplete => Sys2Proof.Machine.execParkDebounceComplete s
  | .grant fields filler => Sys2Proof.Machine.execGrant fields filler s
  | .secondTick => Sys2Proof.Machine.execSecondTick s
  | .grantTimerExpiry => Sys2Proof.Machine.execGrantTimerExpiry s
  | .keep filler => Sys2Proof.Machine.execKeep filler s
  | .revoke filler => Sys2Proof.Machine.execRevoke filler s
  | .closingSumRequest => Sys2Proof.Machine.execClosingSumRequest s
  | .strikeDecay => Sys2Proof.Machine.execStrikeDecay s
  | .refusals filler => Sys2Proof.Machine.execRefusals filler s
  | .discard pages filler => Sys2Proof.Machine.execDiscard pages filler s
  | .appendBegin => Sys2Proof.Machine.execAppendBegin s
  | .commit pages filler => Sys2Proof.Machine.execCommit pages filler s
  | .archived upTo filler => Sys2Proof.Machine.execArchived upTo filler s
  | .periodicScanExpiry => Sys2Proof.Machine.execPeriodicScanExpiry s
  | .passResume => Sys2Proof.Machine.execPassResume s
  | .rescan filler => Sys2Proof.Machine.execRescan filler s
  | .sumRequestService => Sys2Proof.Machine.execSumRequestService s
  | .rebase filler => Sys2Proof.Machine.execRebase filler s
  | .ignitionInputChange level => Sys2Proof.Machine.execIgnitionInputChange level s
  | .ignitionFilterComplete => Sys2Proof.Machine.execIgnitionFilterComplete s
  | .dormancyDelayExpiry => Sys2Proof.Machine.execDormancyDelayExpiry s
  | .settleTimeEnd => Sys2Proof.Machine.execSettleTimeEnd s
  | .transactionStart => Sys2Proof.Machine.execTransactionStart s
  | .nop filler => Sys2Proof.Machine.execNop filler s
  | .status filler => Sys2Proof.Machine.execStatus filler s
  | .describe kind index filler => Sys2Proof.Machine.execDescribe kind index filler s
  | .unknown bytes => Sys2Proof.Machine.execUnknown bytes s
  | .supplyLoss => Sys2Proof.Machine.execSupplyLoss s
  | .transactionEnd clocked => Sys2Proof.Machine.execTransactionEnd clocked s

end Sys2Proof.Machine
end

