-- ==== Sys2Proof/Safety.lean ====
section
/-! DEFINITION. The terms in which claims about the part are stated: what a safe answer is, frames, the states between
two commands, the invariants, and the tables of the manual that several claims use. -/

namespace Sys2Proof.Machine

/-! ## Safe answers -/

/-- The canonical form that every state of a run has. -/
def State.memoryWf (s : State) : Prop := Memory.wf s.memory = true

/-- An answer is safe when it is a next state in canonical form. -/
def safeAnswer : Answer → Prop
  | .next t => t.memoryWf
  | .fault _ => False
  | .refused _ => False

/-! ## Frames -/

/-- The blocks of the part, and the model's own count of free values drawn. -/
inductive Block where
  | pins
  | bus
  | map
  | params
  | monitor
  | grant
  | adu
  | overlay
  | engine
  | scanner
  | supply
  | link
  | draws
deriving DecidableEq, Repr

/-- Two chips agree on a block. -/
def Chip.same (c d : Chip) : Block → Prop
  | .pins => d.pins = c.pins
  | .bus => d.bus = c.bus
  | .map => d.map = c.map
  | .params => d.params = c.params
  | .monitor => d.monitor = c.monitor
  | .grant => d.grant = c.grant
  | .adu => d.adu = c.adu
  | .overlay => d.overlay = c.overlay
  | .engine => d.engine = c.engine
  | .scanner => d.scanner = c.scanner
  | .supply => d.supply = c.supply
  | .link => d.link = c.link
  | .draws => d.draws = c.draws

/-- Outside these blocks the two chips agree. -/
def Chip.changesOnly (blocks : List Block) (c d : Chip) : Prop := ∀ b, b ∉ blocks → c.same d b

/-- From `s` to `t` nothing has changed but these blocks of the part: the queue, the supply, the fuse block, every byte of
memory and every other block are as they were. -/
def State.changesOnly (blocks : List Block) (s t : State) : Prop :=
  t.pending = s.pending ∧ t.supplied = s.supplied ∧ t.fuse = s.fuse
    ∧ (∀ a, t.memory.readByte a = s.memory.readByte a) ∧ s.chip.changesOnly blocks t.chip

/-! ## Between two commands -/

/-- A FREE memory port has no request pending: R15 has granted it. -/
def Chip.settled (c : Chip) : Prop :=
  c.bus.memPort = .free →
    c.bus.requestP = none ∧ c.bus.requestR = none ∧ c.bus.requestL = none ∧ c.bus.requestS = none

/-- The dormancy delay has not run out, so no command's end can take the part into DORMANT (R185). -/
def Chip.staysUp (c : Chip) : Prop :=
  c.supply.power = .afterRun → ∀ d, c.supply.dormancy = some d → d < Config.dormancyMs

/-- The supply is up, the memory port is settled, and the dormancy delay has not run out. -/
def State.calm (s : State) : Prop := s.supplied = true ∧ s.chip.settled ∧ s.chip.staysUp

/-- What every command leaves behind (R15, R185): with the supply up, no FREE port with a request pending, and no
dormancy that is due. -/
def State.boundary (s : State) : Prop := s.supplied = true → s.chip.settled ∧ s.chip.mayGoDormant = false

/-- The Bus Path `b` of chip `c`, after the arbitration that ends the command (R15). -/
def Chip.busAfter (c : Chip) (b : BusPath) : BusPath := ({ c with bus := b }).arbitrate.bus

/-- The memory port once parking has ended (R16). -/
def MemPort.unparked : MemPort → MemPort
  | .parked => .free
  | .free => .free
  | .busy who t live => .busy who t live

/-- The Bus Path once the processor gives up a cycle before ready: the table of R13, which is also that of R20. -/
def BusPath.dropped (b : BusPath) : BusPath :=
  match b.port with
  | .gated _ => { b with port := .idle }
  | .held _ .pageLoading => { b with port := .idle }
  | .held _ .windowOpening => { b with port := .idle }
  | .held _ .memoryPort => { b with port := .idle, requestP := none }
  | .transfer y _ => { b with port := .transfer y true }
  | .idle => b
  | .done _ _ => b

/-- The supply controller after an arrival in a power state other than DORMANT: in AFTER_RUN the delay restarts (R185). -/
def Supply.afterArrival (u : Supply) : Supply :=
  if u.power = .afterRun then { u with dormancy := some 0 } else u

/-- A command that may open the gate takes `s` to the chip `c`, and then, with the gate open, a GATED cycle is decided and
carried out as it would be if it arrived at `c` (R9, R4); without one, or with the gate still closed, the arbitration that
ends the command is all that follows (R15). The cycle's request and one that `c` holds stand under one arbitration: the model's
choice (log entry 21). -/
def State.opensTo (s : State) (i : Instr) (c : Chip) : Prop :=
  ((∀ y, s.chip.bus.port ≠ .gated y) ∨ c.bus.gate.isOpen = false →
    exec i s = .next { s with chip := { c with bus := c.arbitrate.bus } })
  ∧ ∀ b : BusCycle, s.chip.bus.port = .gated (captureCycle b) → (b.readStrobe || b.writeStrobe) = true →
    c.bus.gate.isOpen = true →
    ∃ t u, exec i s = .next t
      ∧ exec (.processorCycleArrival b) { s with chip := { c with bus := { c.bus with port := .idle } } } = .next u
      ∧ t = { u with chip := { u.chip with pins := s.chip.pins, supply := c.supply } }
      ∧ ∀ y, t.chip.bus.port ≠ .gated y

/-- The Integrity Scanner at the start of a pass over a scan group that is empty, when the pass completes at once, or whose
first window `w` it begins to sum at owned word `i` (R160, R162, R165). -/
def Scanner.passStarted (x : Scanner) (active : Bool) (group : List Win) (i : Nat) : Scanner :=
  match group with
  | [] => { x with
      timer := 0, pass := none, passCount := x.passCount + 1, cycleChecked := x.cycleChecked || active }
  | w :: ws => { x with timer := 0, pass := some ⟨ws, .summing w⟩, sum := some ⟨w, i, 1#16, 0#16, .pass⟩ }

/-! ## Continuations -/

/-- The Bus Path after a completed transfer of internal requester `who`, in the chip `c`, with its next transfer or none: the
next one goes on in the burst while P does not wait and the burst count is below 8, else the port is arbitrated (R18). -/
def Chip.busGoesOn (c : Chip) (who : Requester) : Option Transfer → BusPath
  | some x =>
    if c.bus.requestP = none ∧ c.bus.burst < 8 then
      { c.bus with memPort := .busy who x true, starvation := 0, burst := c.bus.burst + 1 }
    else c.busAfter ({ c.bus with memPort := .free }.setRequest who (some x))
  | none => c.busAfter { c.bus with memPort := .free }

/-- The Record Engine asked for an append: it joins the queue, or waits for a place behind those that wait (R136). -/
def RecordEngine.asked (e : RecordEngine) (x : AppendRequest) : RecordEngine :=
  if e.queue.length < 8 then { e with queue := e.queue ++ [x] } else { e with waiting := e.waiting ++ [.append x] }

/-- The next request of the commit sequencer with these words left and this many written (R149, R151). -/
def nextOfCommit (todo : List (PageNo × Nat)) (written : Nat) : AppendRequest :=
  match todo with
  | (p, n) :: _ => ⟨.trimChange p n, .commit, true, 0⟩
  | [] => ⟨.commitEnd .done written, .commit, true, 0⟩

/-- The Trim Overlay Unit after a grant in force in `c` has entered ENDING: as it was while a commit is in flight, and else with
every page in use CLOSED and the load queue empty (R77, R114, R121). -/
def Chip.overlayEnded (c : Chip) (after : Overlay) : Prop :=
  (c.engine.commit ≠ none → after = c.overlay)
  ∧ (c.engine.commit = none →
      after = { c.overlay with pages := after.pages, queue := [] }
      ∧ ∀ p : PageNo, after.pages[p] =
          if c.overlay.pages[p].state = .unbound ∨ c.overlay.pages[p].state = .closed then c.overlay.pages[p]
          else ⟨.closed, []⟩)

/-- The Grant Controller after a grant in force in `c` has entered ENDING, its ending at a commit in flight, at its GRANT_END,
or at the first of its rewritten windows (R76–R79). -/
def Chip.grantEnded (c : Chip) (reason : EndReason) : GrantController :=
  { c.grant with
    state := .ending
    step :=
      if c.engine.commit ≠ none then .commit
      else if c.grant.record.rewritten = 0#24 then .grantEnd
      else .closing (winsOf c.grant.record.rewritten) false
    record := { c.grant.record with endReason := some reason, suspendRemaining := none } }

/-- `t` is the part `c` once its grant in force has entered ENDING: with no commit in flight the loader stops, a write held for
PAGE LOADING completes as a DROP, and with no rewritten window GRANT_END is asked for (R10, R76–R79, R114). -/
def Chip.endedBy (reason : EndReason) (c t : Chip) : Prop :=
  let g : GrantRecord := c.grant.record
  t.grant = c.grantEnded reason ∧ c.overlayEnded t.overlay
  ∧ t.engine =
      (if c.engine.commit = none ∧ g.rewritten = 0#24 then
        c.engine.asked
          ⟨.grantEnd reason g.workshop g.elapsed g.commitCount 0#24 g.clamped g.beginSeq g.timeStamp, .grant, false, 0⟩
      else c.engine)
  ∧ (c.engine.commit ≠ none → t.bus = c.bus)
  ∧ (c.engine.commit = none →
      t.bus = { c.bus with
        requestL := none
        memPort := (match c.bus.memPort with
          | .busy .L tr _ => .busy .L tr false
          | m => m)
        port := t.bus.port }
      ∧ ((∀ y, c.bus.port ≠ .held y .pageLoading) → t.bus.port = c.bus.port)
      ∧ ∀ y, c.bus.port = .held y .pageLoading → y.direction = .write → t.bus.port = .done y none)

/-- A sum request for window `w` joins the sum request queue: it merges with one that waits for that window, which keeps its
place, and else stands at the end (R169). -/
def sumJoins (w : Win) (client : SumClient) (queue after : List SumRequest) : Prop :=
  ((∀ x ∈ queue, x.window ≠ w) → after = queue ++ [⟨w, [client]⟩])
  ∧ ∀ (early late : List SumRequest) (clients : List SumClient), queue = early ++ ⟨w, clients⟩ :: late →
      (∀ x ∈ early, x.window ≠ w) → after = early ++ ⟨w, clients ++ [client]⟩ :: late

/-! ## Invariants -/

/-- The processor port and the arbiter tell the same story (R3, R12, R14): a cycle held for MEMORY PORT is exactly P's
pending request, and a cycle in TRANSFER is exactly P's transfer in flight. -/
def Chip.portsAgree (c : Chip) : Prop :=
  match c.bus.port with
  | .held y .memoryPort => c.bus.requestP = some y.transfer ∧ ∀ t live, c.bus.memPort ≠ .busy .P t live
  | .transfer y _ => c.bus.requestP = none ∧ ∃ live, c.bus.memPort = .busy .P y.transfer live
  | _ => c.bus.requestP = none ∧ ∀ t live, c.bus.memPort ≠ .busy .P t live

/-- No two consecutive entries agree in owner, access kind and reason (R104). -/
def noRepeats : List Refused → Bool
  | a :: b :: rest => !a.sameRun b && noRepeats (b :: rest)
  | [_] => true
  | [] => true

/-- The refusal list as R104 bounds it. -/
def Chip.refusalsOk (c : Chip) : Prop :=
  c.adu.refusals.length ≤ Config.refusalPlaces ∧ noRepeats c.adu.refusals = true

/-- R83's last sentence but one — the strike count stays within 0–15, and a grant is in force only below the lockout
threshold — with what it takes to keep it: a grant in OPENING under lockout has a pending end reason (R67), the
parameters are settled in START (R179), where no grant exists (R65 check 2), and only a wake settles (R187). -/
def Chip.lockoutSound (c : Chip) : Prop :=
  c.grant.strikes ≤ 15 ∧ c.params.lockoutThreshold ≤ 15
    ∧ (c.grant.state = .active ∨ c.grant.state = .suspended → c.grant.strikes < c.params.lockoutThreshold)
    ∧ (c.grant.state = .opening → c.params.lockoutThreshold ≤ c.grant.strikes → c.grant.record.pendingEnd ≠ none)
    ∧ (c.supply.startUp.phase ≠ .ended → c.supply.power = .start)
    ∧ (c.supply.power = .start → c.scanner.cycleChecked = false ∧ c.grant.state = .idle)
    ∧ (c.supply.settling = true → c.supply.power = .waking)

/-- The ranges the manual gives speeds and counts: R51, R43, R18 and R17 (with the limit of R180). -/
def Chip.inRanges (c : Chip) : Prop :=
  c.monitor.engine.speed ≤ 16383 ∧ c.monitor.road.speed ≤ 2550
    ∧ c.monitor.engine.wraps ≤ 3 ∧ c.monitor.road.wraps ≤ 3
    ∧ c.bus.burst ≤ Config.burstLimit ∧ c.bus.starvation ≤ 255 ∧ c.params.starvationLimit ≤ 255

/-! ## Memory transfers -/

/-- The byte that the completion of a transfer leaves at an address, where it writes one: a write's selected lanes (R5),
or the word that the memory devices return when they hold another than the part knew. -/
def Transfer.leaves (t : Transfer) (returned : Option Word) (a : Addr) : Option Byte :=
  match t.action, returned with
  | .write lowLane highLane w, _ =>
    if lowLane = true ∧ a = wordAddress t.address then some (lowByte w)
    else if highLane = true ∧ a = oddByte t.address then some (highByte w)
    else none
  | .read, some w =>
    if a = wordAddress t.address then some (lowByte w)
    else if a = oddByte t.address then some (highByte w)
    else none
  | .read, none => none

/-- Whether a transfer is a write that selects the lane of an address. -/
def Transfer.writesTo (t : Transfer) (a : Addr) : Prop :=
  match t.action with
  | .write lowLane highLane _ =>
    (lowLane = true ∧ a = wordAddress t.address) ∨ (highLane = true ∧ a = oddByte t.address)
  | .read => False

/-! ## Motion -/

/-- Whether the motion condition of a grant's level holds in a motion view (the table of R63). -/
def MotionView.meets (v : MotionView) : Option Level → Bool
  | none => false
  | some .adjust => decide (v.road = .stationary)
  | some .reflash | some .factory => decide (v.road = .stationary ∧ v.engine = .stopped ∧ v.park = .applied)

/-- The Grant Controller after a motion event, other than ROAD entering MOVING, that brings its view to `v`: an ACTIVE grant
whose condition fails is SUSPENDED with the suspend timer set, and a SUSPENDED one whose condition holds is ACTIVE (R63,
R68, R69). -/
def Chip.judgedWith (c : Chip) (v : MotionView) : GrantController :=
  if c.grant.state = .active ∧ v.meets c.grant.record.level = false then
    { c.grant with
      view := v
      state := .suspended
      record := { c.grant.record with suspendRemaining := some c.params.suspendLimit } }
  else if c.grant.state = .suspended ∧ v.meets c.grant.record.level = true then
    { c.grant with view := v, state := .active, record := { c.grant.record with suspendRemaining := none } }
  else { c.grant with view := v }

/-- The chip with the monitor started, or restarted at the end of a wake, while the grant is IDLE (R58, R59): every item at
its power-on value, the channels RUNNING, the park filter started or PARK APPLIED; and the Grant Controller's view has
taken the state of each machine that has changed by it (R57). -/
def Chip.monitorRestarted (c : Chip) : Chip :=
  let parked : ParkState := if c.params.parkInUse then .unknown else .applied
  { c with
    monitor := { Monitor.powerOn with
      engine := { CaptureChannel.powerOn with running := true }
      road := { CaptureChannel.powerOn with running := true }
      park := parked
      debounce := c.params.parkInUse }
    grant := { c.grant with view := {
      engine := if c.monitor.engineState = .stopped then c.grant.view.engine else .stopped
      road := if c.monitor.roadState = .stationary then c.grant.view.road else .stationary
      park := if c.monitor.park = parked then c.grant.view.park else parked } } }

/-! ## Page sets -/

/-- A list of pages that names exactly the pages of a set, in ascending page number. -/
def listsPages (list : List PageNo) (pages : PageSet) : Prop :=
  (∀ p : PageNo, p ∈ list ↔ hasPage pages p = true) ∧ list.Pairwise (fun p q => p < q)

/-! ## The gateway link -/

/-- A transaction with snapshot `snap` is in progress, and no reply is pending: a request would be taken. -/
def Chip.listening (c : Chip) (snap : Snapshot) : Prop :=
  c.link.transaction = some ⟨some snap⟩ ∧ c.link.reply.code ≠ .pending

/-- The link after the rise of SEL_N that ends a transaction with snapshot `snap`, `clocked` bytes after its fall (R191,
R196): the reply as sent, then FFh; the overrun flag cleared if it has been sent. -/
def Link.risen (l : Link) (snap : Snapshot) (clocked : Nat) : Link :=
  { l with
    transaction := none
    sdo := snap.bytes.take clocked ++ List.replicate (clocked - snap.bytes.length) 0xFF#8
    overrun := l.overrun && !(decide (3 ≤ clocked) && snap.overrun) }

/-- The same, with a reply taken into the buffer (R195). -/
def Link.answered (l : Link) (snap : Snapshot) (clocked : Nat) (r : Reply) : Link :=
  { l.risen snap clocked with reply := r }

/-- The request frames, check byte included (R192; 11_formats.md section 11.4): code, length, payload, and the byte that
makes the sum of all 0. -/
def frameOf (code : Byte) (payload : List Byte) : List Byte :=
  let body := [code, BitVec.ofNat 8 payload.length] ++ payload
  body ++ [0#8 - byteSum body]

/-- A 16-bit field, low byte first (R201). -/
def bytes16 (w : Word) : List Byte := [lowByte w, highByte w]

/-- A 32-bit field, low byte first (R201). -/
def bytes32 (d : DWord) : List Byte :=
  [d.extractLsb' 0 8, d.extractLsb' 8 8, d.extractLsb' 16 8, d.extractLsb' 24 8]

/-- The frame of a link request and the whole bytes clocked after it; none for a command that is no request of the
link's table (11_formats.md section 11.4). -/
def requestFrame : Instr → Option (List Byte × Nat)
  | .nop k => some (frameOf 0x00#8 [], k)
  | .status k => some (frameOf 0x01#8 [], k)
  | .grant f k =>
    some (frameOf 0x02#8
      ([f.level] ++ bytes32 f.scope ++ bytes32 f.workshop ++ bytes32 f.timeStamp ++ bytes16 f.duration
        ++ [f.idleChoice]), k)
  | .keep k => some (frameOf 0x03#8 [], k)
  | .revoke k => some (frameOf 0x04#8 [], k)
  | .commit pages k => some (frameOf 0x05#8 [pages], k)
  | .discard pages k => some (frameOf 0x06#8 [pages], k)
  | .rescan k => some (frameOf 0x07#8 [], k)
  | .rebase k => some (frameOf 0x08#8 [], k)
  | .refusals k => some (frameOf 0x09#8 [], k)
  | .archived n k => some (frameOf 0x0A#8 (bytes32 n), k)
  | .describe kind index k => some (frameOf 0x0B#8 [kind, index], k)
  | .powerOnReset | .startEnd | .processorCycleArrival _ | .strobeRelease | .cycleWithdrawn _ | .chipSelectRelease
  | .memoryTransferComplete _ | .resetNAssert | .resetNRelease | .channelTick _ _ | .silence _ | .parkInputChange _
  | .parkDebounceComplete | .secondTick | .grantTimerExpiry | .closingSumRequest | .strikeDecay | .appendBegin
  | .periodicScanExpiry | .passResume | .sumRequestService | .ignitionInputChange _ | .ignitionFilterComplete
  | .dormancyDelayExpiry | .settleTimeEnd | .transactionStart | .unknown _ | .supplyLoss | .transactionEnd _ => none

end Sys2Proof.Machine
end

