-- ==== Sys2Proof/Certificates/Slice0/Obligations.lean ====
section
/-! DEFINITION. The statements for the provers. `s.calm` is the state between two commands with the supply up (the
invariant `NothingGrantableIsLeftWaiting` keeps it); `s.changesOnly blocks t` is the frame; `s.chip.busAfter b` is the Bus
Path `b` after the arbitration that ends every command (R15; `ArbiterGrantsByRank`). -/

open Sys2Proof Sys2Proof.Machine

/-! ## The machine -/

/-- A step takes the command at the front of the queue and carries it out with the queue's rest. -/
def Obligations.StepRunsFrontCommand : Prop :=
  ∀ (c : Instr) (rest : List Instr) (s : State), s.pending = c :: rest → step s = exec c { s with pending := rest }

/-- Every command, in every state, answers a next state, and leaves the queue and the fuse block as they were. Memory
changes only at the completion of a memory-port transfer and at the loss of the supply (R14, R21). That a command
whose condition does not hold answers a next state too is the model's choice (log entry 8). -/
def Obligations.EveryCommandAnswersNext : Prop :=
  ∀ (i : Instr) (s : State), ∃ t, exec i s = .next t ∧ t.pending = s.pending ∧ t.fuse = s.fuse
    ∧ ((∀ returned, i ≠ .memoryTransferComplete returned) → i ≠ .powerOnReset → i ≠ .supplyLoss →
        ∀ a, t.memory.readByte a = s.memory.readByte a)

/-- Every step keeps the memory's canonical form. The form is the model's (log entry 3). -/
def Obligations.StepKeepsMemoryForm : Prop := ∀ s t : State, s.memoryWf → step s = .next t → t.memoryWf

/-- After every step no FREE memory port has a request pending and no dormancy is due (R15, R185). That the
arbitration stands at the end of each command is the model's choice (log entry 21). -/
def Obligations.NothingGrantableIsLeftWaiting : Prop := ∀ s t : State, s.boundary → step s = .next t → t.boundary

/-- Every step keeps the processor port and the arbiter in agreement: one cycle, one request or one transfer (R3, R12–R14,
R20). -/
def Obligations.StepKeepsPortsInAgreement : Prop :=
  ∀ s t : State, s.chip.portsAgree → step s = .next t → t.chip.portsAgree

/-- Every step keeps the refusal list within 8 entries, no two consecutive alike (R104), and the speeds and counts in their
ranges (R51, R43, R17, R18). -/
def Obligations.StepKeepsListAndCountBounds : Prop :=
  (∀ s t : State, s.chip.refusalsOk → step s = .next t → t.chip.refusalsOk)
  ∧ ∀ s t : State, s.chip.inRanges → step s = .next t → t.chip.inRanges

/-- Every step keeps R83's rule that a grant is in force only while the strike count is below the lockout threshold, with
the strike count within 0–15. -/
def Obligations.StepKeepsGrantsBelowLockout : Prop :=
  ∀ s t : State, s.chip.lockoutSound → step s = .next t → t.chip.lockoutSound

/-- The state after reset meets every invariant above. -/
def Obligations.ResetMeetsTheInvariants : Prop :=
  State.reset.memoryWf ∧ State.reset.boundary ∧ State.reset.chip.portsAgree ∧ State.reset.chip.refusalsOk
    ∧ State.reset.chip.lockoutSound ∧ State.reset.chip.inRanges

/-- Once the survey has ended, no command but the loss and the rise of the supply lowers the archive mark (R137). The
hypothesis on a waiting ARCHIVED is what R144 says of it. -/
def Obligations.ArchiveMarkNeverFalls : Prop :=
  ∀ (i : Instr) (s t : State), s.chip.supply.startUp.phase = .ended →
    (∀ n, Waiter.archived n ∈ s.chip.engine.waiting → s.chip.engine.mark ≤ n) →
    i ≠ .powerOnReset → i ≠ .supplyLoss → exec i s = .next t → s.chip.engine.mark ≤ t.chip.engine.mark

/-! ## The Bus Path -/

/-- A FREE port goes to one pending request: P below the starvation limit, else R, then L, then S, else P (R15); the
starvation and burst counts follow R15 and R17; and the cycle that won enters TRANSFER (R12). -/
def Obligations.ArbiterGrantsByRank : Prop :=
  ∀ c : Chip, c.bus.memPort = .free →
    (∀ y t, c.bus.port = .held y .memoryPort → c.bus.requestP = some t →
      (c.bus.starvation < c.params.starvationLimit
        ∨ c.bus.requestR = none ∧ c.bus.requestL = none ∧ c.bus.requestS = none) →
      c.arbitrate = { c with bus := { c.bus with
        port := .transfer y false
        memPort := .busy .P t true
        requestP := none
        starvation :=
          if c.bus.requestR = none ∧ c.bus.requestL = none ∧ c.bus.requestS = none then c.bus.starvation
          else c.bus.starvation + 1
        burst := 0 } })
    ∧ ((c.bus.requestP = none ∨ c.params.starvationLimit ≤ c.bus.starvation) →
      (∀ t, c.bus.requestR = some t →
        c.arbitrate = { c with bus := { c.bus with
          memPort := .busy .R t true, requestR := none, starvation := 0, burst := 1 } })
      ∧ (∀ t, c.bus.requestR = none → c.bus.requestL = some t →
        c.arbitrate = { c with bus := { c.bus with
          memPort := .busy .L t true, requestL := none, starvation := 0, burst := 1 } })
      ∧ (∀ t, c.bus.requestR = none → c.bus.requestL = none → c.bus.requestS = some t →
        c.arbitrate = { c with bus := { c.bus with
          memPort := .busy .S t true, requestS := none, starvation := 0, burst := 1 } }))

/-- MEMORY_TRANSFER_COMPLETE leaves in memory, byte by byte, what the transfer in flight writes, and nothing else (R5,
R14). The returned word of a read stands for an alteration of the devices from outside (log entry 4). -/
def Obligations.TransferStoresItsLanesOnly : Prop :=
  ∀ (s : State) (who : Requester) (tr : Transfer) (live : Bool) (returned : Option Word),
    s.memoryWf → s.supplied = true → s.chip.bus.memPort = .busy who tr live →
    ∃ t, exec (.memoryTransferComplete returned) s = .next t
      ∧ t.pending = s.pending ∧ t.supplied = true ∧ t.fuse = s.fuse
      ∧ ∀ a, t.memory.readByte a = (tr.leaves returned a).getD (s.memory.readByte a)

/-- The completion of P's transfer completes its cycle (R8): a READ with the word read; a WRITE with a served-write report,
which restarts the idle timer for a window in the scope of a grant in force (R72); and a withdrawn or abandoned one without
either (R13, R20). The port parks while the chip select is asserted (R16), at the level that the state holds (log entry 32).
-/
def Obligations.PassTransferEndsItsCycle : Prop :=
  ∀ (s : State) (y : CycleRecord) (orphan live : Bool) (d : Decision),
    s.supplied = true → s.chip.staysUp → s.chip.bus.port = .transfer y orphan → y.decision = some d →
    s.chip.bus.memPort = .busy .P y.transfer live →
    ∃ t, exec (.memoryTransferComplete none) s = .next t
      ∧ s.chip.changesOnly [.bus, .grant] t.chip
      ∧ t.chip.bus = s.chip.busAfter { s.chip.bus with
          memPort := if s.chip.pins.chipSelect then .parked else .free
          port :=
            if orphan then .idle
            else .done y (if y.direction = .read then some (s.memory.readWord y.address) else none) }
      ∧ (orphan = true ∨ y.direction = .read ∨ (∀ w, d.resolution.owner ≠ .window w) → t.chip.grant = s.chip.grant)
      ∧ ∀ w, orphan = false → y.direction = .write → d.resolution.owner = .window w →
        t.chip.grant =
          if (s.chip.grant.state = .active ∨ s.chip.grant.state = .suspended) ∧ hasWin s.chip.grant.record.scope w = true
          then { s.chip.grant with record := { s.chip.grant.record with
            idleRemaining := 15 * 2 ^ s.chip.grant.record.idleChoice } }
          else s.chip.grant

/-- The completion of a loader's read loads its page word (R112). With a served word left the loader presents its read, which
goes on in the burst while P does not wait and the burst count is below 8 (R18). After the last one the page enters OPEN and
leaves the queue: a write held on it for PAGE LOADING is served in the same change against the page as loaded, and its
served-write report restarts the idle timer of a grant in force whose scope holds the window (R113, R10, R116, R117, R8,
R72); and the loader turns to the next page of the queue (R111). -/
def Obligations.LoaderReadLoadsItsWord : Prop :=
  ∀ (s : State) (tr : Transfer) (p : PageNo) (rest : List PageNo),
    s.supplied = true → s.chip.staysUp → tr.action = .read → s.chip.bus.memPort = .busy .L tr true →
    s.chip.bus.requestL = none → s.chip.overlay.queue = p :: rest →
    let n : Nat := s.chip.overlay.loadWord
    let loaded : PageWord := ⟨s.memory.readWord tr.address, s.memory.readWord tr.address, true, false, false⟩
    let goesOn (a : Addr) : BusPath :=
      if s.chip.bus.requestP = none ∧ s.chip.bus.burst < 8 then
        { s.chip.bus with memPort := .busy .L ⟨a, .read⟩ true, starvation := 0, burst := s.chip.bus.burst + 1 }
      else s.chip.busAfter { s.chip.bus with memPort := .free, requestL := some ⟨a, .read⟩ }
    (∀ i a, s.chip.servedAt p (n + 1) = some (i, a) →
      ∃ t, exec (.memoryTransferComplete none) s = .next t ∧ s.changesOnly [.bus, .overlay] t
        ∧ t.chip.overlay.pages[p].word n = loaded
        ∧ (∀ (q : PageNo) (m : Nat), (q, m) ≠ (p, n) →
            t.chip.overlay.pages[q].word m = s.chip.overlay.pages[q].word m)
        ∧ (∀ q : PageNo, t.chip.overlay.pages[q].state = s.chip.overlay.pages[q].state)
        ∧ t.chip.overlay.queue = p :: rest ∧ t.chip.overlay.loadWord = i
        ∧ t.chip.overlay.limits = s.chip.overlay.limits ∧ t.chip.bus = goesOn a)
    ∧ (s.chip.servedAt p (n + 1) = none → (∀ y, s.chip.bus.port ≠ .held y .pageLoading) →
        (∀ q more, rest = q :: more → q ≠ p ∧ (s.chip.servedAt q 0).isSome = true) →
      ∃ t, exec (.memoryTransferComplete none) s = .next t ∧ s.changesOnly [.bus, .overlay] t
        ∧ t.chip.overlay.pages[p].word n = loaded
        ∧ (∀ (q : PageNo) (m : Nat), (q, m) ≠ (p, n) →
            t.chip.overlay.pages[q].word m = s.chip.overlay.pages[q].word m)
        ∧ (∀ q : PageNo, t.chip.overlay.pages[q].state = if q = p then .opened else s.chip.overlay.pages[q].state)
        ∧ t.chip.overlay.queue = rest ∧ t.chip.overlay.limits = s.chip.overlay.limits
        ∧ (rest = [] → t.chip.bus = s.chip.busAfter { s.chip.bus with memPort := .free })
        ∧ ∀ q more i a, rest = q :: more → s.chip.servedAt q 0 = some (i, a) →
            t.chip.overlay.loadWord = i ∧ t.chip.bus = goesOn a)
    ∧ (∀ (y : CycleRecord) (limit : Option LimitNo) (r : Resolution), s.chip.servedAt p (n + 1) = none → rest = [] →
        s.chip.bus.port = .held y .pageLoading → y.direction = .write →
        y.decision = some ⟨.overlayWrite limit, none, some .pageLoading, false, r⟩ → r.page = some p →
      let old : PageWord := if r.pageWord = n then loaded else s.chip.overlay.pages[p].word r.pageWord
      let x : Word := (if y.highLane then highByte y.data else highByte old.value)
        ++ (if y.lowLane then lowByte y.data else lowByte old.value)
      let stored : Word := match limit with
        | none => x
        | some j => s.chip.overlay.limits[j].apply x old.baseline
      ∃ t, exec (.memoryTransferComplete none) s = .next t ∧ s.changesOnly [.bus, .overlay, .grant] t
        ∧ t.chip.overlay.pages[p].word r.pageWord = ⟨stored, old.baseline, old.loaded, true, stored != x⟩
        ∧ t.chip.overlay.pages[p].state = .opened ∧ t.chip.overlay.queue = []
        ∧ t.chip.grant = { s.chip.grant with record := { s.chip.grant.record with
            clamped :=
              if stored ≠ x ∧ s.chip.grant.record.clamped < 65535 then s.chip.grant.record.clamped + 1
              else s.chip.grant.record.clamped
            idleRemaining := match r.owner with
              | .window w =>
                if (s.chip.grant.state = .active ∨ s.chip.grant.state = .suspended)
                    ∧ hasWin s.chip.grant.record.scope w = true then 15 * 2 ^ s.chip.grant.record.idleChoice
                else s.chip.grant.record.idleRemaining
              | .image | .record | .background => s.chip.grant.record.idleRemaining } }
        ∧ t.chip.bus = s.chip.busAfter { s.chip.bus with memPort := .free, port := .done y none })

/-- A word of a sum (R160): the accumulators take it, and with an owned word left its read is presented, in the burst while
P does not wait (R18). The last word of a window of a pass (R163): the window is judged. SKIPPED where R163 says so; ADOPTED
with an interrupted-reflash mark, its WINDOW_SUM queued and the pass waiting for it (R164); else MATCHED, MISMATCH or
UNKNOWN_REF against the reference. The last two are tamper on a window not in the tamper set: the set, TAMPER_FOUND and the
TAMPER append (R171); with a full append queue the pass waits for it to join. A judgement that has ended lets the pass go
on: it completes after its last window (IDLE, the pass count up by 1, the cycle-checked flag set in ACTIVE, SCAN_DONE;
R165), waits for a sum request, or starts the next window's sum (R162). Tamper ends an ADJUST or REFLASH grant in force with
reason TAMPER and becomes the pending end reason of one in OPENING; a FACTORY grant goes on (R75, R76). Of the TAMPER append
and the ending's own either may join first (R136): a free value, whose count is the model's own (log entry 6). That the
freed port is arbitrated after all of this, the withdrawal of the loader's request among it, is the model's choice (log
entry 21). -/
def Obligations.LastSumJudgesItsWindow : Prop :=
  (∀ (s : State) (tr : Transfer) (r : SumRun) (i : Nat), s.supplied = true → s.chip.staysUp → tr.action = .read →
      s.chip.bus.memPort = .busy .S tr true → s.chip.bus.requestS = none → s.chip.scanner.sum = some r →
      s.chip.map.ownedAt r.window (r.word + 1) = some i →
      let data : Word := s.memory.readWord tr.address
      ∃ t, exec (.memoryTransferComplete none) s = .next t ∧ s.changesOnly [.bus, .scanner] t
        ∧ t.chip.scanner = { s.chip.scanner with
            sum := some ⟨r.window, i, r.a + data, r.b + (r.a + data), r.purpose⟩ }
        ∧ t.chip.bus = s.chip.busGoesOn .S (some ⟨s.chip.map.wordOf r.window i, .read⟩))
  ∧ ∀ (s : State) (tr : Transfer) (r : SumRun) (w : Win) (left : List Win) (sum : DWord),
      s.supplied = true → s.chip.staysUp → tr.action = .read → s.chip.bus.memPort = .busy .S tr true →
      s.chip.bus.requestS = none → s.chip.scanner.sum = some r → r.purpose = .pass → r.window = w →
      s.chip.map.ownedAt w (r.word + 1) = none → s.chip.scanner.pass = some ⟨left, .summing w⟩ →
      sum = (r.b + (r.a + s.memory.readWord tr.address)) ++ (r.a + s.memory.readWord tr.address) →
      (∀ v vs, left = v :: vs → s.chip.scanner.queue = [] →
        s.chip.skips v = false ∧ (s.chip.map.ownedAt v 0).isSome = true) →
      let c : Chip := s.chip
      let first (v : Win) : Nat := (c.map.ownedAt v 0).getD 0
      let goesOn (result : ScanResult) (found : Option DWord) (x : Scanner) : Scanner :=
        let judged : Scanner := { x with sum := none, results := x.results.set w ⟨result, found⟩ }
        match left with
        | [] => { judged with
            pass := none
            passCount := c.scanner.passCount + 1
            cycleChecked := c.scanner.cycleChecked || decide (c.supply.power = .active) }
        | v :: vs =>
          if c.scanner.queue = [] then
            { judged with pass := some ⟨vs, .summing v⟩, sum := some ⟨v, first v, 1#16, 0#16, .pass⟩ }
          else { judged with pass := some ⟨v :: vs, .between⟩ }
      let next (b : BusPath) : BusPath :=
        match left with
        | [] => c.busAfter { b with memPort := .free }
        | v :: _ =>
          let read : Transfer := ⟨c.map.wordOf v (first v), .read⟩
          if c.scanner.queue ≠ [] then c.busAfter { b with memPort := .free }
          else if b.requestP = none ∧ b.burst < 8 then
            { b with memPort := .busy .S read true, starvation := 0, burst := b.burst + 1 }
          else c.busAfter { b with memPort := .free, requestS := some read }
      let scanDone (notices : Word) : Word := if left = [] then notices ||| 0x0004#16 else notices
      let ends (result : ScanResult) (found : Option DWord) : Prop :=
        ∃ t, exec (.memoryTransferComplete none) s = .next t ∧ s.changesOnly [.bus, .scanner, .link] t
          ∧ t.chip.scanner = goesOn result found c.scanner ∧ t.chip.bus = next c.bus
          ∧ t.chip.link = { c.link with notices := scanDone c.link.notices }
      let asked (x : AppendRequest) : RecordEngine :=
        if c.engine.queue.length < 8 then { c.engine with queue := c.engine.queue ++ [x] }
        else { c.engine with waiting := c.engine.waiting ++ [.append x] }
      (c.skips w = true → ends .skipped none)
      ∧ (c.skips w = false → hasWin c.scanner.marks w = true →
        ∃ t, exec (.memoryTransferComplete none) s = .next t ∧ s.changesOnly [.bus, .scanner, .engine] t
          ∧ t.chip.scanner = { c.scanner with
              sum := none
              results := c.scanner.results.set w ⟨.adopted, some sum⟩
              tickets := c.scanner.tickets + 1
              pass := some ⟨left, .adopting c.scanner.tickets⟩ }
          ∧ t.chip.engine = asked ⟨.windowSum w .interruptedReflash sum, .scanner, false, c.scanner.tickets⟩
          ∧ t.chip.bus = c.busAfter { c.bus with memPort := .free })
      ∧ (c.skips w = false → hasWin c.scanner.marks w = false → c.scanner.references[w] = some sum →
        ends .matched (some sum))
      ∧ (c.skips w = false → hasWin c.scanner.marks w = false → c.scanner.references[w] ≠ some sum →
        let result : ScanResult := if c.scanner.references[w] = none then .unknownRef else .mismatch
        (hasWin c.scanner.tamper w = true → ends result (some sum))
        ∧ (hasWin c.scanner.tamper w = false →
          let tampered : Scanner := { c.scanner with
            tamper := c.scanner.tamper ||| (1#24 <<< w.val), tickets := c.scanner.tickets + 1 }
          let found : AppendRequest := ⟨.tamper w c.scanner.references[w] sum, .scanner, false, c.scanner.tickets⟩
          let inForce : Prop := c.grant.state = .active ∨ c.grant.state = .suspended
          let below : Prop := c.grant.record.level ≠ some .factory
          let g : GrantRecord := c.grant.record
          let notices : Word := c.link.notices ||| 0x0008#16
          (¬ (inForce ∧ below) →
            ∃ t, exec (.memoryTransferComplete none) s = .next t
              ∧ s.changesOnly [.bus, .engine, .scanner, .link, .grant, .draws] t
              ∧ t.chip.engine = asked found
              ∧ t.chip.grant =
                  (if c.grant.state = .opening ∧ below ∧ g.pendingEnd = none then
                    { c.grant with record := { g with pendingEnd := some .tamper } }
                  else c.grant)
              ∧ (c.engine.queue.length < 8 → t.chip.scanner = goesOn result (some sum) tampered
                  ∧ t.chip.link = { c.link with notices := scanDone notices } ∧ t.chip.bus = next c.bus)
              ∧ (8 ≤ c.engine.queue.length → t.chip.scanner = { tampered with
                    sum := none
                    results := c.scanner.results.set w ⟨result, some sum⟩
                    pass := some ⟨left, .joining c.scanner.tickets⟩ }
                  ∧ t.chip.link = { c.link with notices := notices }
                  ∧ t.chip.bus = c.busAfter { c.bus with memPort := .free }))
          ∧ (inForce → below → c.engine.queue.length < 7 →
            (∀ y, c.bus.port = .held y .pageLoading → y.direction = .write) →
            let closing : AppendRequest :=
              ⟨.grantEnd .tamper g.workshop g.elapsed g.commitCount 0#24 g.clamped g.beginSeq g.timeStamp, .grant, false, 0⟩
            ∃ t, exec (.memoryTransferComplete none) s = .next t
              ∧ s.changesOnly [.bus, .engine, .scanner, .link, .grant, .overlay, .draws] t
              ∧ t.chip.scanner = goesOn result (some sum) tampered
              ∧ t.chip.grant = c.grantEnded .tamper ∧ c.overlayEnded t.chip.overlay
              ∧ (c.engine.commit = none → g.rewritten = 0#24 →
                  t.chip.engine = { c.engine with queue := c.engine.queue ++ [found, closing] }
                  ∨ t.chip.engine = { c.engine with queue := c.engine.queue ++ [closing, found] })
              ∧ (c.engine.commit ≠ none ∨ g.rewritten ≠ 0#24 →
                  t.chip.engine = { c.engine with queue := c.engine.queue ++ [found] })
              ∧ t.chip.link = { c.link with notices := scanDone notices }
              ∧ t.chip.bus = next (if c.engine.commit = none then
                  { c.bus with
                    requestL := none
                    port := match c.bus.port with
                      | .held y .pageLoading => .done y none
                      | port => port }
                else c.bus))))

/-- The completion of a written GRANT_BEGIN ends the opening (R67): the head rises, the sequence number is kept, and the
pending GRANT reply is OK. With a pending end reason, or with ROAD MOVING, the grant enters ENDING at once, with that reason
or MOTION, and without a rewritten window or a commit in flight its GRANT_END is queued (R76–R79). Otherwise it takes force:
ACTIVE when the motion condition of its level holds (R63), else SUSPENDED; the timers are set; and the closed pages bound to
windows in the scope begin loading, in ascending page number (R111). That the freed port is arbitrated after all of this,
with the loader's request among those pending, is the model's choice (log entry 21). -/
def Obligations.WrittenGrantBeginTakesForce : Prop :=
  ∀ (s : State) (tr : Transfer) (q : AppendRequest) (x : Addr × Word) (l : Level) (workshop time : DWord)
    (scope : WindowSet) (duration idle : Nat),
    s.supplied = true → s.chip.staysUp → s.chip.bus.memPort = .busy .R tr true →
    s.chip.engine.progress = some ⟨q, none, .slot [x]⟩ → q.source = .grant → q.claimed = false →
    q.kind = .grantBegin l workshop time scope duration idle →
    s.chip.grant.state = .opening → s.chip.grant.record.level = some l →
    s.chip.link.reply.code = .pending → s.chip.link.reply.echo = 0x02#8 →
    s.chip.bus.requestR = none → s.chip.bus.requestL = none → s.chip.overlay.queue = [] →
    let g : GrantRecord := s.chip.grant.record
    let holds : Bool := decide (s.chip.grant.view.road = .stationary ∧
      (l = .adjust ∨ (s.chip.grant.view.engine = .stopped ∧ s.chip.grant.view.park = .applied)))
    let loads (p : PageNo) : Prop := s.chip.overlay.pages[p].state = .closed
      ∧ ∃ w, s.chip.map.bindings[p] = some w ∧ hasWin g.scope w = true
    let engine : RecordEngine := { s.chip.engine with head := s.chip.engine.head + 1, progress := none }
    let linked (t : State) : Link := { s.chip.link with
      notices :=
        if 64 ≤ s.chip.freeSlots ∧ t.chip.freeSlots < 64 then s.chip.link.notices ||| 0x0040#16
        else s.chip.link.notices
      reply := ⟨.ok, 0x02#8, []⟩ }
    (g.pendingEnd = none → s.chip.grant.view.road ≠ .moving → (∀ p, loads p → (s.chip.servedAt p 0).isSome = true) →
      ∃ t, exec (.memoryTransferComplete none) s = .next t
        ∧ s.chip.changesOnly [.bus, .grant, .overlay, .engine, .link] t.chip
        ∧ t.chip.engine = engine
        ∧ t.chip.grant = { s.chip.grant with
            state := if holds then .active else .suspended
            record := { g with
              suspendRemaining := if holds then none else some s.chip.params.suspendLimit
              remaining := g.duration * 60
              idleRemaining := 15 * 2 ^ g.idleChoice
              elapsed := 0
              beginSeq := s.chip.engine.head } }
        ∧ t.chip.link = linked t
        ∧ (∀ p, (loads p → t.chip.overlay.pages[p] = s.chip.overlay.pages[p].enterLoading)
            ∧ (¬ loads p → t.chip.overlay.pages[p] = s.chip.overlay.pages[p]))
        ∧ (∀ p, p ∈ t.chip.overlay.queue ↔ loads p) ∧ t.chip.overlay.queue.Pairwise (fun p q => p < q)
        ∧ t.chip.overlay.limits = s.chip.overlay.limits
        ∧ (t.chip.overlay.queue = [] → t.chip.bus = s.chip.busAfter { s.chip.bus with memPort := .free })
        ∧ ∀ p rest i a, t.chip.overlay.queue = p :: rest → s.chip.servedAt p 0 = some (i, a) →
            t.chip.overlay.loadWord = i
            ∧ t.chip.bus = s.chip.busAfter { s.chip.bus with memPort := .free, requestL := some ⟨a, .read⟩ })
    ∧ ∀ reason, g.pendingEnd = some reason
          ∨ (g.pendingEnd = none ∧ s.chip.grant.view.road = .moving ∧ reason = .motion) →
        s.chip.engine.queue.length < 8 →
        ∃ t, exec (.memoryTransferComplete none) s = .next t
          ∧ s.chip.changesOnly [.bus, .grant, .overlay, .engine, .link] t.chip
          ∧ t.chip.engine =
              (if s.chip.engine.commit = none ∧ g.rewritten = 0#24 then
                { engine with queue := s.chip.engine.queue ++
                  [⟨.grantEnd reason g.workshop g.elapsed g.commitCount 0#24 g.clamped s.chip.engine.head g.timeStamp,
                    .grant, false, 0⟩] }
              else engine)
          ∧ t.chip.grant = { s.chip.grant with
              state := .ending
              step :=
                if s.chip.engine.commit ≠ none then .commit
                else if g.rewritten = 0#24 then .grantEnd
                else .closing (winsOf g.rewritten) false
              record := { g with
                beginSeq := s.chip.engine.head, endReason := some reason, suspendRemaining := none } }
          ∧ t.chip.link = linked t
          ∧ (∀ p : PageNo, t.chip.overlay.pages[p]
              = if s.chip.engine.commit ≠ none ∨ s.chip.overlay.pages[p].state = .unbound
                    ∨ s.chip.overlay.pages[p].state = .closed then
                  s.chip.overlay.pages[p]
                else ⟨.closed, []⟩)
          ∧ t.chip.overlay = { s.chip.overlay with pages := t.chip.overlay.pages }
          ∧ ((∀ y, s.chip.bus.port ≠ .held y .pageLoading) →
              t.chip.bus = s.chip.busAfter { s.chip.bus with memPort := .free })

/-- What the last write of a written record does, beside the head's rise (R138): a WINDOW_OPENED announces its window and
lets the held write ask for the memory port (R99, R11); a WINDOW_SUM gives the window its reference, takes its mark away,
and from the tamper set a rebased window, and goes on to its entry's four writes (R146, R161, R173); GRANT_END empties the
grant (R80); a TRIM_CHANGE is counted and its word written (R149); COMMIT_END finishes the commit, its pages OPEN or, in an
ending, CLOSED (R151, R77). The WINDOW_SUM of an adoption ends the judgement too, and the pass that waits for it goes on: it
completes, waits for a sum request, or starts the next window's sum (R164, R162, R165). That a freed port is arbitrated
after all of this, with P's request of the held write, or R's and the pass's, among those pending, is the model's choice
(log entry 21). -/
def Obligations.WrittenRecordsReachTheirRequesters : Prop :=
  ∀ (s : State) (tr : Transfer) (q : AppendRequest) (taken : Option Taken) (x : Addr × Word),
    s.supplied = true → s.chip.staysUp → s.chip.bus.memPort = .busy .R tr true → s.chip.bus.requestR = none →
    s.chip.engine.progress = some ⟨q, taken, .slot [x]⟩ →
    let risen : RecordEngine := { s.chip.engine with
      head := s.chip.engine.head + 1
      claimed := if q.claimed then s.chip.engine.claimed - 1 else s.chip.engine.claimed
      progress := none }
    let notices (t : State) (w : Word) : Word :=
      if 64 ≤ s.chip.freeSlots ∧ t.chip.freeSlots < 64 then s.chip.link.notices ||| 0x0040#16 ||| w
      else s.chip.link.notices ||| w
    let goesOn (b : BusPath) (next : Transfer) : BusPath :=
      if b.requestP = none ∧ b.burst < 8 then
        { b with memPort := .busy .R next true, starvation := 0, burst := b.burst + 1 }
      else s.chip.busAfter { b with memPort := .free, requestR := some next }
    (∀ w workshop ref, q.kind = .windowOpened w workshop ref → q.source = .adu →
      hasWin s.chip.grant.record.rewritten w = true →
      ∃ t, exec (.memoryTransferComplete none) s = .next t ∧ s.chip.changesOnly [.bus, .adu, .engine, .link] t.chip
        ∧ t.chip.engine = risen
        ∧ t.chip.adu = { s.chip.adu with announcements := s.chip.adu.announcements.set w (some .announced) }
        ∧ t.chip.link = { s.chip.link with notices := notices t 0#16 }
        ∧ ((∀ y d, s.chip.bus.port = .held y .windowOpening → y.decision = some d →
              d.resolution.owner ≠ .window w) →
            t.chip.bus = s.chip.busAfter { s.chip.bus with memPort := .free })
        ∧ ∀ y d, s.chip.bus.port = .held y .windowOpening → y.decision = some d → d.resolution.owner = .window w →
            t.chip.bus = s.chip.busAfter { s.chip.bus with
              memPort := .free, port := .held y .memoryPort, requestP := some y.transfer })
    ∧ (∀ w cause sum b, q.kind = .windowSum w cause sum → s.chip.map.imageBase = some b →
      let entry : Addr := b + BitVec.ofNat 24 (0x280 + 8 * w.val)
      let high : Word := sum.extractLsb' 16 16
      let low : Word := sum.extractLsb' 0 16
      let first : Transfer := ⟨entry, .write true true high⟩
      let engine : RecordEngine := { risen with progress := some ⟨q, taken,
        .followOn [(entry, high), (entry + 4#24, low), (entry + 2#24, ~~~high), (entry + 6#24, ~~~low)]⟩ }
      let scanner : Scanner := { s.chip.scanner with
        references := s.chip.scanner.references.set w (some sum)
        marks := s.chip.scanner.marks &&& ~~~(1#24 <<< w.val)
        tamper := if cause = .rebase then s.chip.scanner.tamper &&& ~~~(1#24 <<< w.val) else s.chip.scanner.tamper }
      let waits (left : List Win) : Prop :=
        cause = .interruptedReflash ∧ s.chip.scanner.pass = some ⟨left, .adopting q.ticket⟩
      ((∀ left, ¬ waits left) →
        ∃ t, exec (.memoryTransferComplete none) s = .next t
          ∧ s.chip.changesOnly [.bus, .engine, .scanner, .link] t.chip
          ∧ t.chip.engine = engine ∧ t.chip.scanner = scanner
          ∧ t.chip.link = { s.chip.link with notices := notices t 0#16 }
          ∧ t.chip.bus = goesOn s.chip.bus first)
      ∧ (waits [] →
        ∃ t, exec (.memoryTransferComplete none) s = .next t
          ∧ s.chip.changesOnly [.bus, .engine, .scanner, .link] t.chip
          ∧ t.chip.engine = engine
          ∧ t.chip.scanner = { scanner with
              pass := none
              passCount := s.chip.scanner.passCount + 1
              cycleChecked := s.chip.scanner.cycleChecked || decide (s.chip.supply.power = .active) }
          ∧ t.chip.link = { s.chip.link with notices := notices t 0x0004#16 }
          ∧ t.chip.bus = goesOn s.chip.bus first)
      ∧ ∀ v vs, waits (v :: vs) →
          (s.chip.scanner.queue ≠ [] ∨ s.chip.scanner.sum ≠ none →
            ∃ t, exec (.memoryTransferComplete none) s = .next t
              ∧ s.chip.changesOnly [.bus, .engine, .scanner, .link] t.chip
              ∧ t.chip.engine = engine ∧ t.chip.scanner = { scanner with pass := some ⟨v :: vs, .between⟩ }
              ∧ t.chip.link = { s.chip.link with notices := notices t 0#16 }
              ∧ t.chip.bus = goesOn s.chip.bus first)
          ∧ ∀ i, s.chip.scanner.queue = [] → s.chip.scanner.sum = none → s.chip.skips v = false →
              s.chip.map.ownedAt v 0 = some i →
              ∃ t, exec (.memoryTransferComplete none) s = .next t
                ∧ s.chip.changesOnly [.bus, .engine, .scanner, .link] t.chip
                ∧ t.chip.engine = engine
                ∧ t.chip.scanner = { scanner with
                    pass := some ⟨vs, .summing v⟩, sum := some ⟨v, i, 1#16, 0#16, .pass⟩ }
                ∧ t.chip.link = { s.chip.link with notices := notices t 0#16 }
                ∧ t.chip.bus =
                    goesOn { s.chip.bus with requestS := some ⟨s.chip.map.wordOf v i, .read⟩ } first)
    ∧ (∀ reason reason' workshop elapsed count rewritten clamped seq time,
        q.kind = .grantEnd reason workshop elapsed count rewritten clamped seq time → q.source = .grant →
        s.chip.grant.record.endReason = some reason' →
      ∃ t, exec (.memoryTransferComplete none) s = .next t
        ∧ s.chip.changesOnly [.bus, .engine, .grant, .adu, .link] t.chip
        ∧ t.chip.engine = risen
        ∧ t.chip.grant = { s.chip.grant with state := .idle, record := .empty, step := .none, lastEnd := reason' }
        ∧ t.chip.adu.refusals = s.chip.adu.refusals ∧ (∀ w : Win, t.chip.adu.announcements[w] = none)
        ∧ t.chip.link = { s.chip.link with notices := notices t 0x0001#16 }
        ∧ t.chip.bus = s.chip.busAfter { s.chip.bus with memPort := .free })
    ∧ (∀ p n k, q.kind = .trimChange p n → taken = some k →
      ∃ t, exec (.memoryTransferComplete none) s = .next t
        ∧ s.chip.changesOnly [.bus, .engine, .grant, .link] t.chip
        ∧ t.chip.engine = { risen with progress := some ⟨q, taken, .followOn [(k.address, k.value)]⟩ }
        ∧ t.chip.grant = { s.chip.grant with record := { s.chip.grant.record with commitCount :=
            if s.chip.grant.record.commitCount < 65535 then s.chip.grant.record.commitCount + 1
            else s.chip.grant.record.commitCount } }
        ∧ t.chip.link = { s.chip.link with notices := notices t 0#16 }
        ∧ t.chip.bus = goesOn s.chip.bus ⟨k.address, .write true true k.value⟩)
    ∧ ∀ outcome n run, q.kind = .commitEnd outcome n → q.source = .commit → s.chip.engine.commit = some run →
        let finished : RecordEngine := { risen with commit := none, lastOutcome := .done, lastWords := run.written }
        (s.chip.grant.state ≠ .ending →
          ∃ t, exec (.memoryTransferComplete none) s = .next t
            ∧ s.chip.changesOnly [.bus, .engine, .overlay, .link] t.chip
            ∧ t.chip.engine = finished
            ∧ (∀ p : PageNo, t.chip.overlay.pages[p] =
                if hasPage run.pages p = true ∧ s.chip.overlay.pages[p].state = .committing then
                  { s.chip.overlay.pages[p] with state := .opened }
                else s.chip.overlay.pages[p])
            ∧ t.chip.overlay.queue = s.chip.overlay.queue ∧ t.chip.overlay.loadWord = s.chip.overlay.loadWord
            ∧ t.chip.overlay.limits = s.chip.overlay.limits
            ∧ t.chip.link = { s.chip.link with notices := notices t 0x0002#16 }
            ∧ t.chip.bus = s.chip.busAfter { s.chip.bus with memPort := .free })
        ∧ (s.chip.grant.state = .ending → s.chip.grant.record.rewritten = 0#24 → s.chip.engine.queue.length < 8 →
          s.chip.bus.requestL = none → (∀ y, s.chip.bus.port ≠ .held y .pageLoading) →
          ∃ t, exec (.memoryTransferComplete none) s = .next t
            ∧ s.chip.changesOnly [.bus, .engine, .overlay, .grant, .link] t.chip
            ∧ t.chip.engine = { finished with queue := s.chip.engine.queue ++
                [⟨.grantEnd (s.chip.grant.record.endReason.getD .none) s.chip.grant.record.workshop
                    s.chip.grant.record.elapsed s.chip.grant.record.commitCount 0#24 s.chip.grant.record.clamped
                    s.chip.grant.record.beginSeq s.chip.grant.record.timeStamp, .grant, false, 0⟩] }
            ∧ t.chip.grant = { s.chip.grant with step := .grantEnd }
            ∧ (∀ p : PageNo, t.chip.overlay.pages[p]
                = if s.chip.overlay.pages[p].state = .unbound ∨ s.chip.overlay.pages[p].state = .closed then
                    s.chip.overlay.pages[p]
                  else ⟨.closed, []⟩)
            ∧ t.chip.overlay.queue = []
            ∧ t.chip.link = { s.chip.link with notices := notices t 0x0002#16 }
            ∧ t.chip.bus = s.chip.busAfter { s.chip.bus with memPort := .free })

/-- What goes on when a write of the engine has completed. Within a slot or a follow-on step the next write of the list
follows, in the burst while P does not wait (R138, R146, R18). After the last write of a follow-on step the request is
finished (R136): after a commit's WINDOW_SUM the sequencer asks for its next take, or for COMMIT_END (R150, R151); after a
TRIM_CHANGE's word it counts the word as written and asks for the page's next take, or, with the page's last, for the sum of
its window (R149, R150); after a REBASE's WINDOW_SUM the next window's sum is asked for, or REBASE is IDLE with REBASE_DONE
(R173); after an ending's or an adoption's nothing else waits. A record without a follow-on step is finished with its last
write: after COMMIT_BEGIN the sequencer asks for its first take (R148, R149), and nothing waits for the records of tamper,
lockout and the archive mark; the head, the claim and RECORDS_LOW follow R138 and R140. The other records' ends are in
`WrittenRecordsReachTheirRequesters` and `WrittenGrantBeginTakesForce`, and the survey's own in `SurveyReadsTheArea`. -/
def Obligations.FinishedRequestsGoOn : Prop :=
  ∀ (s : State) (tr : Transfer) (q : AppendRequest) (taken : Option Taken),
    s.supplied = true → s.chip.staysUp → s.chip.bus.memPort = .busy .R tr true → s.chip.bus.requestR = none →
    let at_ (stage : AppendStage) : Prop := s.chip.engine.progress = some ⟨q, taken, stage⟩
    let done : RecordEngine := { s.chip.engine with progress := none }
    (∀ (x : Addr × Word) (a : Addr) (w : Word) (more : List (Addr × Word)) (stage : List (Addr × Word) → AppendStage),
      stage = .slot ∨ stage = .followOn → at_ (stage (x :: (a, w) :: more)) →
      ∃ t, exec (.memoryTransferComplete none) s = .next t ∧ s.chip.changesOnly [.bus, .engine] t.chip
        ∧ t.chip.engine = { s.chip.engine with progress := some ⟨q, taken, stage ((a, w) :: more)⟩ }
        ∧ t.chip.bus = s.chip.busGoesOn .R (some ⟨a, .write true true w⟩))
    ∧ (∀ x : Addr × Word, at_ (.followOn [x]) →
      (∀ w sum run, q.kind = .windowSum w .commit sum → q.source = .commit → s.chip.engine.commit = some run →
        ∃ t, exec (.memoryTransferComplete none) s = .next t ∧ s.chip.changesOnly [.bus, .engine] t.chip
          ∧ t.chip.engine = done.asked (nextOfCommit run.todo run.written)
          ∧ t.chip.bus = s.chip.busGoesOn .R none)
      ∧ (∀ p n w run more, q.kind = .trimChange p n → q.source = .commit → s.chip.engine.commit = some run →
          run.todo = (p, n) :: more → s.chip.map.bindings[p] = some w →
        let counted : RecordEngine := { done with commit := some { run with todo := more, written := run.written + 1 } }
        ∃ t, exec (.memoryTransferComplete none) s = .next t ∧ s.chip.changesOnly [.bus, .engine, .scanner] t.chip
          ∧ t.chip.bus = s.chip.busGoesOn .R none
          ∧ (∀ m others, more = (p, m) :: others → t.chip.scanner = s.chip.scanner
              ∧ t.chip.engine = counted.asked (nextOfCommit more (run.written + 1)))
          ∧ ((∀ m others, more ≠ (p, m) :: others) → t.chip.engine = counted
              ∧ t.chip.scanner = { s.chip.scanner with queue := t.chip.scanner.queue }
              ∧ sumJoins w .commit s.chip.scanner.queue t.chip.scanner.queue))
      ∧ (∀ w sum left, q.kind = .windowSum w .rebase sum → q.source = .scanner →
          s.chip.scanner.rebase = some (w :: left) →
        ∃ t, exec (.memoryTransferComplete none) s = .next t ∧ s.chip.changesOnly [.bus, .engine, .scanner, .link] t.chip
          ∧ t.chip.engine = done ∧ t.chip.bus = s.chip.busGoesOn .R none
          ∧ (left = [] → t.chip.scanner = { s.chip.scanner with rebase := none }
              ∧ t.chip.link = { s.chip.link with notices := s.chip.link.notices ||| 0x0010#16 })
          ∧ ∀ v more, left = v :: more → t.chip.link = s.chip.link
              ∧ t.chip.scanner = { s.chip.scanner with rebase := some (v :: more), queue := t.chip.scanner.queue }
              ∧ sumJoins v .rebase s.chip.scanner.queue t.chip.scanner.queue)
      ∧ ∀ w cause sum, q.kind = .windowSum w cause sum →
          (cause = .reflash ∧ q.source = .grant) ∨ (cause = .interruptedReflash ∧ q.source = .scanner) →
        ∃ t, exec (.memoryTransferComplete none) s = .next t ∧ s.chip.changesOnly [.bus, .engine] t.chip
          ∧ t.chip.engine = done ∧ t.chip.bus = s.chip.busGoesOn .R none)
    ∧ ∀ x : Addr × Word, at_ (.slot [x]) →
      let risen : RecordEngine := { done with
        head := s.chip.engine.head + 1
        claimed := if q.claimed then s.chip.engine.claimed - 1 else s.chip.engine.claimed }
      let low (t : State) : Prop := t.chip.link = { s.chip.link with notices :=
        if 64 ≤ s.chip.freeSlots ∧ t.chip.freeSlots < 64 then s.chip.link.notices ||| 0x0040#16
        else s.chip.link.notices }
      (∀ pages n run, q.kind = .commitBegin pages n → q.source = .commit → s.chip.engine.commit = some run →
        ∃ t, exec (.memoryTransferComplete none) s = .next t ∧ s.chip.changesOnly [.bus, .engine, .link] t.chip
          ∧ t.chip.engine = risen.asked (nextOfCommit run.todo run.written)
          ∧ low t ∧ t.chip.bus = s.chip.busGoesOn .R none)
      ∧ ((∃ w expected sum, q.kind = .tamper w expected sum) ∨ (∃ n m, q.kind = .lockoutBegin n m)
          ∨ (∃ n m, q.kind = .lockoutEnd n m) ∨ (∃ n, q.kind = .archiveMark n) → q.source ≠ .survey →
        ∃ t, exec (.memoryTransferComplete none) s = .next t ∧ s.chip.changesOnly [.bus, .engine, .link] t.chip
          ∧ t.chip.engine = risen ∧ low t ∧ t.chip.bus = s.chip.busGoesOn .R none)

/-! ## The Window Map, the image and the limit table -/

/-- The owner of a word is the highest-ranked of IMAGE, RECORD and the enabled windows whose range contains its address,
else the background (R24, R25, R28): anchors 3 to 0 rank above sites 23 to 4. The answer carries the owner's class, the
bound page and page word of a TRIM owner, and the reference table mark of the IMAGE window. A window owns a word of its
range exactly when it is the word's owner (R29). -/
def Obligations.AddressResolvesByRank : Prop :=
  ∀ (m : WindowMap) (a : Addr),
    let holds (w : Win) : Prop := m.descriptors[w].standing = .enabled ∧ m.descriptors[w].base.toNat ≤ a.toNat
      ∧ a.toNat < m.descriptors[w].base.toNat + 2 ^ m.descriptors[w].exponent
    let above (v w : Win) : Prop := (v.val < 4 ∧ 4 ≤ w.val) ∨ ((v.val < 4 ↔ w.val < 4) ∧ w.val < v.val)
    let inImage : Prop := ∃ b : Addr, m.imageBase = some b ∧ b.toNat ≤ a.toNat ∧ a.toNat < b.toNat + 4096
    let inRecord : Prop :=
      ∃ p : Placement, m.record = some p ∧ p.base.toNat ≤ a.toNat ∧ a.toNat < p.base.toNat + 2 ^ p.exponent
    (∀ b : Addr, m.imageBase = some b → inImage →
      m.resolve a
        = ⟨.image, .image, none, 0, decide (b.toNat + 0x280 ≤ a.toNat ∧ a.toNat < b.toNat + 0x340)⟩)
    ∧ (¬ inImage → inRecord → m.resolve a = ⟨.record, .record, none, 0, false⟩)
    ∧ (∀ (w : Win) (cls : SiteClass), ¬ inImage → ¬ inRecord → holds w → (∀ v, holds v → ¬ above v w) →
      m.descriptors[w].siteClass = some cls →
      m.resolve a = ⟨.window w, .site cls,
        if cls = .trim then m.descriptors[w].pageRead else none,
        if cls = .trim then (a.toNat - m.descriptors[w].base.toNat) / 2 else 0, false⟩)
    ∧ (¬ inImage → ¬ inRecord → (∀ w, ¬ holds w) →
      m.resolve a = ⟨.background, .site m.background, none, 0, false⟩)
    ∧ ∀ (w : Win) (i : Nat), m.owns w i = true ↔
        (m.resolve (m.descriptors[w].base + BitVec.ofNat 24 (2 * i))).owner = .window w

/-- The map's load. Each descriptor gets its standing and fault kind from the first check that applies (R32, R33). The fuse
read gives the anchors and the image base; a valid image gives the sites, the RECORD placement and the background class,
each with its default where it is out of range (R26, R27, R31), and an invalid one the degraded map (R37). Then the highest
index keeps a page that several TRIM windows name (R34), and the bindings, the page states and the scan group follow (R36,
R38). In both steps every fault adds its entry to the load-fault
set, and the first one sets LOAD_FAULT (R35). That the anchors and the image base stand in the map from the fuse read on is
the model's choice between R31's step 1 and its last paragraph (log entry 28). The rise of the supply applies the first step
(SupplyLossAndRise), the last image word's completion the second (ImageSettlesTheParameters). -/
def Obligations.MapIsCheckedAndBound : Prop :=
  (∀ raw : BitVec 64,
    let code : Nat := (raw.extractLsb' 8 8).toNat
    let k : Nat := (raw.extractLsb' 16 8).toNat
    checkDescriptor raw =
      if raw.getLsbD 0 = false then ⟨raw, .switchedOff, none⟩
      else if code < 1 ∨ 5 < code then ⟨raw, .faulted, some .classCode⟩
      else if k < 10 ∨ 24 < k then ⟨raw, .faulted, some .size⟩
      else if (raw.extractLsb' 32 24).toNat % 2 ^ k ≠ 0 then ⟨raw, .faulted, some .align⟩
      else if code = 3 ∧ 11 < k then ⟨raw, .faulted, some .trimSize⟩
      else if code = 3 ∧ raw.getLsbD 31 = false then ⟨raw, .faulted, some .noPage⟩
      else if code ≠ 3 ∧ raw.getLsbD 31 = true then ⟨raw, .enabled, some .pageIgnored⟩
      else ⟨raw, .enabled, none⟩)
  ∧ (∀ (c : Chip) (f : FuseBlock), c.changesOnly [.map, .link] (c.loadAnchors f)
    ∧ (c.loadAnchors f).map.imageBase = some (f.imageBase.extractLsb' 0 12 ++ 0#12)
    ∧ (∀ i : Fin 4, (c.loadAnchors f).map.descriptors[i.val] = checkDescriptor f.anchors[i])
    ∧ (∀ w : Win, 4 ≤ w.val → (c.loadAnchors f).map.descriptors[w] = c.map.descriptors[w])
    ∧ (c.loadAnchors f).map.record = c.map.record ∧ (c.loadAnchors f).map.background = c.map.background
    ∧ (c.loadAnchors f).map.bindings = c.map.bindings ∧ (c.loadAnchors f).map.scanGroup = c.map.scanGroup
    ∧ (∀ (item : LoadItem) (k : FaultKind), (item, k) ∈ (c.loadAnchors f).map.loadFaults ↔ (item, k) ∈ c.map.loadFaults
        ∨ ∃ w : Win, w.val < 4 ∧ item = .descriptor w ∧ (c.loadAnchors f).map.descriptors[w].fault = some k)
    ∧ (c.loadAnchors f).link = { c.link with notices :=
        if c.map.loadFaults = [] ∧ (c.loadAnchors f).map.loadFaults ≠ [] then c.link.notices ||| 0x0100#16
        else c.link.notices })
  ∧ ∀ (c : Chip) (img : List Word) (b : Addr), c.map.imageBase = some b →
    let t : Chip := c.loadMap img
    let byte (off : Nat) : Nat := (img.getD (off / 2) 0#16).toNat / (if off % 2 = 0 then 1 else 256) % 256
    let base : Nat := byte 2 + 256 * byte 3 + 65536 * byte 4
    let placed : Prop := 12 ≤ byte 5 ∧ byte 5 ≤ 20 ∧ base % 2 ^ byte 5 = 0
      ∧ ¬ (base ≤ b.toNat ∧ b.toNat < base + 2 ^ byte 5)
    let checked (w : Win) : Descriptor :=
      if w.val < 4 then c.map.descriptors[w]
      else if c.params.image = .valid then checkDescriptor (imgDescriptor img w.val)
      else ⟨0#64, .notLoaded, none⟩
    let trim (w : Win) : Prop := (checked w).standing = .enabled ∧ (checked w).classCode = 3
    let loses (w : Win) : Prop := trim w ∧ ∃ v : Win, w < v ∧ trim v ∧ (checked v).pageRead = (checked w).pageRead
    c.changesOnly [.map, .overlay, .link] t
    ∧ (∀ w : Win, (loses w → t.map.descriptors[w] = ⟨(checked w).raw, .faulted, some .pageTaken⟩)
        ∧ (¬ loses w → t.map.descriptors[w] = checked w))
    ∧ (∀ (p : PageNo) (w : Win), t.map.bindings[p] = some w ↔
        trim w ∧ ¬ loses w ∧ (checked w).pageRead = some p)
    ∧ (∀ p : PageNo, t.overlay.pages[p] = ⟨if t.map.bindings[p] = none then .unbound else .closed, c.overlay.pages[p].words⟩)
    ∧ t.overlay.queue = c.overlay.queue ∧ t.overlay.limits = c.overlay.limits
    ∧ (∀ w : Win, w ∈ t.map.scanGroup ↔
        t.map.descriptors[w].standing = .enabled ∧ t.map.descriptors[w].classCode ≠ 1)
    ∧ t.map.scanGroup.Pairwise (fun v w => v < w)
    ∧ t.map.imageBase = some b
    ∧ (c.params.image = .valid ∧ placed → t.map.record = some ⟨BitVec.ofNat 24 base, byte 5⟩)
    ∧ (¬ (c.params.image = .valid ∧ placed) → t.map.record = some ⟨b + 4096#24, 12⟩)
    ∧ t.map.background =
        (if c.params.image = .valid then (if byte 6 = 2 then .calibration else .openWindow) else .calibration)
    ∧ (∀ (item : LoadItem) (k : FaultKind), (item, k) ∈ t.map.loadFaults ↔ (item, k) ∈ c.map.loadFaults
        ∨ (∃ w : Win, item = .descriptor w ∧ t.map.descriptors[w].fault = some k ∧ (4 ≤ w.val ∨ k = .pageTaken))
        ∨ (c.params.image = .valid ∧ ¬ placed ∧ item = .record ∧ k = .recordPlace)
        ∨ (c.params.image = .valid ∧ byte 6 ≠ 1 ∧ byte 6 ≠ 2 ∧ item = .backgroundClass ∧ k = .range))
    ∧ t.link = { c.link with notices :=
        if c.map.loadFaults = [] ∧ t.map.loadFaults ≠ [] then c.link.notices ||| 0x0100#16 else c.link.notices }

/-- The image check (R179) and the parameters (R180): an image whose words do not sum to 0, or whose format number is not 1,
is invalid with the entry CHECK or FORMAT and every parameter at its default; of a valid one each parameter is the value
read if that is in range, else its default with a RANGE entry (R42, R56, R64, R159), the thresholds with the order check
after the range check (R52). The first entry sets LOAD_FAULT (R35). The image read takes word after word of the checked part
and of the reference table (R179); the completion of its last word applies this check, with the map's load
(MapIsCheckedAndBound) and the limit table's (LimitTableIsCheckedAndSettled), starts the monitor, and presents the survey's
first read, at the base of the record area (R58, R181; which slot is read first is the model's choice, log entry 33). -/
def Obligations.ImageSettlesTheParameters : Prop :=
  (∀ (c : Chip) (img : List Word),
    let t : Chip := c.settleParams img
    let sum : Nat := (img.map BitVec.toNat).sum % 65536
    let word (off : Nat) : Nat := (img.getD (off / 2) 0#16).toNat
    let byte (off : Nat) : Nat := word off / (if off % 2 = 0 then 1 else 256) % 256
    let pick (lo hi default v : Nat) : Nat := if lo ≤ v ∧ v ≤ hi then v else default
    let rate (default : TickRate) (code : Nat) : TickRate :=
      if code = 0 then .mhz1 else if code = 1 then .khz250 else if code = 2 then .khz62_5
      else if code = 3 then .khz15_625 else default
    let edge (code : Nat) : EdgeChoice := if code = 1 then .falling else if code = 2 then .both else .rising
    let divider (code : Nat) : Nat := if code ≤ 3 then 2 ^ code else 1
    let stopLow : Nat := pick 10 200 40 (word 0x1C)
    let stopHigh : Nat := pick 20 400 80 (word 0x1E)
    let movingLow : Nat := pick 5 190 30 (word 0x20)
    let movingHigh : Nat := pick 10 200 50 (word 0x22)
    let outOfRange (item : LoadItem) : Prop := match item with
      | .starvationLimit => byte 0x12 < 16
      | .engineTick => 3 < byte 0x13
      | .engineEdge => 2 < byte 0x14
      | .engineDivider => 3 < byte 0x15
      | .engineTeeth => byte 0x16 < 1 ∨ 240 < byte 0x16
      | .roadTick => 3 < byte 0x17
      | .roadEdge => 2 < byte 0x18
      | .roadDivider => 3 < byte 0x19
      | .roadPulses => word 0x1A < 500 ∨ 25000 < word 0x1A
      | .stopLow => word 0x1C < 10 ∨ 200 < word 0x1C
      | .stopHigh => word 0x1E < 20 ∨ 400 < word 0x1E
      | .movingLow => word 0x20 < 5 ∨ 190 < word 0x20
      | .movingHigh => word 0x22 < 10 ∨ 200 < word 0x22
      | .parkUse => 1 < byte 0x24
      | .lockoutThreshold => byte 0x25 < 1 ∨ 15 < byte 0x25
      | .suspendLimit => word 0x26 < 10 ∨ 600 < word 0x26
      | .strikeDecay => byte 0x28 < 1 ∨ 60 < byte 0x28
      | .scanPeriod => 240 < byte 0x29
      | _ => False
    let outOfOrder (item : LoadItem) : Prop := match item with
      | .stopThresholds => stopHigh ≤ stopLow
      | .movingThresholds => movingHigh ≤ movingLow
      | _ => False
    c.changesOnly [.params, .map, .link] t
    ∧ t.map = { c.map with loadFaults := t.map.loadFaults }
    ∧ t.link = { c.link with notices :=
        if c.map.loadFaults = [] ∧ t.map.loadFaults ≠ [] then c.link.notices ||| 0x0100#16 else c.link.notices }
    ∧ (sum ≠ 0 → t.params = { Params.default with image := .invalid }
        ∧ t.map.loadFaults = c.map.loadFaults ++ [(.image, .check)])
    ∧ (sum = 0 → word 0 ≠ 1 → t.params = { Params.default with image := .invalid }
        ∧ t.map.loadFaults = c.map.loadFaults ++ [(.image, .format)])
    ∧ (sum = 0 → word 0 = 1 →
        t.params = {
          image := .valid
          fillValue := BitVec.ofNat 16 (word 0x10)
          starvationLimit := pick 16 255 64 (byte 0x12)
          engine := ⟨rate .mhz1 (byte 0x13), edge (byte 0x14), divider (byte 0x15), pick 1 240 60 (byte 0x16)⟩
          road := ⟨rate .khz62_5 (byte 0x17), edge (byte 0x18), divider (byte 0x19), pick 500 25000 8000 (word 0x1A)⟩
          stopLow := if stopLow < stopHigh then stopLow else 40
          stopHigh := if stopLow < stopHigh then stopHigh else 80
          movingLow := if movingLow < movingHigh then movingLow else 30
          movingHigh := if movingLow < movingHigh then movingHigh else 50
          parkInUse := decide (byte 0x24 ≠ 1)
          suspendLimit := pick 10 600 120 (word 0x26)
          lockoutThreshold := pick 1 15 6 (byte 0x25)
          strikeDecay := pick 1 60 10 (byte 0x28)
          scanPeriod := pick 0 240 30 (byte 0x29) }
        ∧ ∀ (item : LoadItem) (k : FaultKind), (item, k) ∈ t.map.loadFaults ↔ (item, k) ∈ c.map.loadFaults
            ∨ (k = .range ∧ outOfRange item) ∨ (k = .thresholdOrder ∧ outOfOrder item)))
  ∧ ∀ (s : State) (tr : Transfer) (got : List Word) (b : Addr), s.supplied = true → s.chip.staysUp → tr.action = .read →
      s.chip.bus.memPort = .busy .R tr true → s.chip.bus.requestR = none → s.chip.engine.progress = none →
      s.chip.supply.startUp.phase = .image got → s.chip.map.imageBase = some b → got.length < 304 + 96 →
      let words : List Word := s.memory.readWord tr.address :: got
      let offset (i : Nat) : Nat := if i < 304 then 2 * i else 0x280 + 2 * (i - 304)
      let goesOn (c : Chip) (next : Transfer) : BusPath :=
        if s.chip.bus.requestP = none ∧ s.chip.bus.burst < 8 then
          { s.chip.bus with memPort := .busy .R next true, starvation := 0, burst := s.chip.bus.burst + 1 }
        else c.busAfter { s.chip.bus with memPort := .free, requestR := some next }
      (words.length < 304 + 96 →
        ∃ t, exec (.memoryTransferComplete none) s = .next t ∧ s.changesOnly [.bus, .supply] t
          ∧ t.chip.supply = { s.chip.supply with startUp := { s.chip.supply.startUp with phase := .image words } }
          ∧ t.chip.bus = goesOn s.chip ⟨b + BitVec.ofNat 24 (offset words.length), .read⟩)
      ∧ (words.length = 304 + 96 → s.chip.grant.state = .idle →
        let img : List Word := words.reverse.take 304
        let read : Chip := ((s.chip.settleParams img).loadMap img).loadLimits img
        ∃ t place, exec (.memoryTransferComplete none) s = .next t
          ∧ s.changesOnly [.bus, .map, .params, .monitor, .grant, .overlay, .supply, .link] t
          ∧ t.chip.params = read.params ∧ t.chip.map = read.map ∧ t.chip.overlay = read.overlay
          ∧ t.chip.link = read.link
          ∧ t.chip.monitor = read.monitorRestarted.monitor ∧ t.chip.grant = read.monitorRestarted.grant
          ∧ t.chip.supply = { s.chip.supply with startUp := { s.chip.supply.startUp with
              phase := .slots 0 [], refWords := words.reverse.drop 304 } }
          ∧ t.chip.map.record = some place ∧ t.chip.bus = goesOn t.chip ⟨place.base, .read⟩)

/-- The limit table. Each record of a valid image gets its standing and fault kind from the first check of R123 that holds;
then, of the ENABLED records that name one word, the lowest index keeps it and each other is a DUPLICATE (R124). Every
FAULTED record adds its entry, those of R123 before those of R124 (log entry 15), and the first entry sets LOAD_FAULT. An
invalid image leaves the table as it was. The last image word's completion applies it (ImageSettlesTheParameters). -/
def Obligations.LimitTableIsCheckedAndSettled : Prop :=
  (∀ (m : WindowMap) (raw : BitVec 96),
    let l : LimitRecord := ⟨raw, .enabled, none⟩
    let verdict : LimitRecord := checkLimit m raw
    let coded : Prop := l.interpretation ≤ 1 ∧ (l.required = 1 ∨ l.required = 2)
    let trim (w : Win) : Prop :=
      w.val = l.window ∧ m.descriptors[w].standing = .enabled ∧ m.descriptors[w].classCode = 3
    verdict.raw = raw
    ∧ (raw.getLsbD 0 = false → verdict = ⟨raw, .switchedOff, none⟩)
    ∧ (raw.getLsbD 0 = true → ¬ coded → verdict = ⟨raw, .faulted, some .code⟩)
    ∧ (raw.getLsbD 0 = true → coded → (∀ w, ¬ trim w) → verdict = ⟨raw, .faulted, some .window⟩)
    ∧ ∀ w, raw.getLsbD 0 = true → coded → trim w →
        verdict =
          if 2 ^ (m.descriptors[w].exponent - 1) ≤ l.offset then ⟨raw, .faulted, some .offset⟩
          else if (m.resolve (m.descriptors[w].base + BitVec.ofNat 24 (2 * l.offset))).owner ≠ .window w then
            ⟨raw, .faulted, some .notOwned⟩
          else if 32767 < l.step then ⟨raw, .faulted, some .step⟩
          else ⟨raw, .enabled, none⟩)
  ∧ ∀ (c : Chip) (img : List Word),
    let t : Chip := c.loadLimits img
    let checked (j : LimitNo) : LimitRecord := checkLimit c.map (imgLimit img j.val)
    let repeats (j : LimitNo) : Prop := (checked j).standing = .enabled ∧
      ∃ i : LimitNo, i < j ∧ (checked i).standing = .enabled ∧ (checked i).window = (checked j).window
        ∧ (checked i).offset = (checked j).offset
    (c.params.image ≠ .valid → t = c)
    ∧ (c.params.image = .valid → c.changesOnly [.overlay, .map, .link] t
      ∧ (∀ (j : LimitNo) (i : Nat), i < 6 →
          (imgLimit img j.val).extractLsb' (16 * i) 16 = img.getD ((0xE0 + 12 * j.val + 2 * i) / 2) 0#16)
      ∧ (∀ j : LimitNo, (repeats j → t.overlay.limits[j] = ⟨(checked j).raw, .faulted, some .duplicate⟩)
          ∧ (¬ repeats j → t.overlay.limits[j] = checked j))
      ∧ t.overlay = { c.overlay with limits := t.overlay.limits }
      ∧ (∃ earlier later : List (LoadItem × FaultKind),
          t.map = { c.map with loadFaults := c.map.loadFaults ++ earlier ++ later }
          ∧ (∀ f, f ∈ earlier ↔ ∃ (j : LimitNo) (k : FaultKind),
              f = (.limit j, k) ∧ t.overlay.limits[j].fault = some k ∧ k ≠ .duplicate)
          ∧ (∀ f, f ∈ later ↔ ∃ j : LimitNo,
              f = (.limit j, .duplicate) ∧ t.overlay.limits[j].fault = some .duplicate))
      ∧ t.link = { c.link with notices :=
          if c.map.loadFaults = [] ∧ t.map.loadFaults ≠ [] then c.link.notices ||| 0x0100#16 else c.link.notices })

/-! ## The start-up survey -/

/-- What the survey finds in the records as read. The run counts down from the highest number to the first gap; the head, the
archive mark (R153), the cut-off grant and its GRANT_END, queued before everything else (R154), the records of a cut-off
commit (R155), the references and the interrupted-reflash marks (R156), the tamper set and the unfinished lockout (R157)
follow from it; kinds and codes without a meaning take part as R203 says. `low` is F − 1. The count of committed changes
counts those between a COMMIT_BEGIN and the COMMIT_END that follows it: log entry 25. -/
def Obligations.SurveySettlesItsFindings : Prop :=
  ∀ (c : Chip) (high low : Nat),
    let found : List SlotRecord := c.supply.startUp.found
    let refWords : List Word := c.supply.startUp.refWords
    let run : List SlotRecord := runOf found
    let t : Chip := c.settleFindings
    let latest (kind : Byte) (r : SlotRecord) : Prop :=
      r ∈ run ∧ r.kind = kind ∧ ∀ x ∈ run, x.kind = kind → x.seq ≤ r.seq
    let about (kind : Byte) (w : Win) (r : SlotRecord) : Prop := r ∈ run ∧ r.kind = kind ∧ r.aux.toNat = w.val
    let sums (w : Win) (r : SlotRecord) : Prop :=
      about 0x04#8 w r ∧ 1 ≤ (r.word 0).toNat ∧ (r.word 0).toNat ≤ 5
    let trimWin (w : Win) : Prop := c.map.descriptors[w].standing = .enabled ∧ c.map.descriptors[w].classCode = 3
    (∀ r ∈ found, 1 ≤ r.seq ∧ r.seq ≤ high) → (high = 0 ∨ ∃ r ∈ found, r.seq = high) →
    found.Pairwise (fun a b => a.seq ≠ b.seq) →
    low ≤ high → (∀ n, low < n → n ≤ high → ∃ r ∈ found, r.seq = n) → (∀ r ∈ found, r.seq ≠ low) →
    c.changesOnly [.engine, .scanner, .grant, .supply] t
    ∧ (∀ r, r ∈ run ↔ r ∈ found ∧ low < r.seq) ∧ run.Pairwise (fun a b => b.seq < a.seq)
    ∧ t.engine = { c.engine with head := high + 1, mark := t.engine.mark }
    ∧ low ≤ t.engine.mark ∧ (∀ r ∈ run, r.kind = 0x0B#8 → min (r.dword 0).toNat high ≤ t.engine.mark)
    ∧ (t.engine.mark = low ∨ ∃ r ∈ run, r.kind = 0x0B#8 ∧ t.engine.mark = min (r.dword 0).toNat high)
    ∧ t.scanner = { c.scanner with
        references := t.scanner.references, marks := t.scanner.marks, tamper := t.scanner.tamper }
    ∧ (∀ (w : Win) (r : SlotRecord), sums w r → (∀ x, sums w x → x.seq ≤ r.seq) →
        t.scanner.references[w] = some (r.dword 4))
    ∧ (∀ w : Win, (∀ r, ¬ sums w r) →
        let entry (i : Nat) : Word := refWords.getD (4 * w.val + i) 0#16
        t.scanner.references[w] =
          if entry 1 = ~~~entry 0 ∧ entry 3 = ~~~entry 2 then some (entry 0 ++ entry 2) else none)
    ∧ (∀ w : Win, hasWin t.scanner.marks w = true ↔ ∃ g o, latest 0x01#8 g ∧ about 0x03#8 w o ∧ g.seq < o.seq
        ∧ ∀ x, about 0x04#8 w x → x.seq < o.seq)
    ∧ (∀ w : Win, hasWin t.scanner.tamper w = true ↔ ∃ r, about 0x08#8 w r
        ∧ ∀ x, about 0x04#8 w x → x.word 0 = 3#16 → x.seq < r.seq)
    ∧ t.grant = { c.grant with strikes := t.grant.strikes, decay := t.grant.decay, lastEnd := t.grant.lastEnd }
    ∧ ((∃ r ∈ run, r.kind = 0x09#8 ∧ ∀ x ∈ run, x.kind = 0x0A#8 → x.seq < r.seq) →
        t.grant.strikes = c.params.lockoutThreshold ∧ t.grant.decay = 0)
    ∧ ((∀ r ∈ run, r.kind = 0x09#8 → ∃ x ∈ run, x.kind = 0x0A#8 ∧ r.seq < x.seq) →
        t.grant.strikes = c.grant.strikes ∧ t.grant.decay = c.grant.decay)
    ∧ t.supply = { c.supply with startUp := { c.supply.startUp with
        closure := t.supply.startUp.closure, rollback := t.supply.startUp.rollback } }
    ∧ ((∀ g, latest 0x01#8 g → ∃ x ∈ run, x.kind = 0x02#8 ∧ g.seq < x.seq) →
        t.supply.startUp.closure = none ∧ t.grant.lastEnd = c.grant.lastEnd)
    ∧ (∀ g, latest 0x01#8 g → (∀ x ∈ run, x.kind = 0x02#8 → x.seq < g.seq) →
        let committed : Nat := run.countP fun r =>
          r.kind == 0x06#8 && run.any fun b => run.any fun e =>
            b.kind == 0x05#8 && e.kind == 0x07#8 && e.word 0 == 1#16
              && decide (g.seq < b.seq) && decide (b.seq < r.seq) && decide (r.seq < e.seq)
              && run.all fun x =>
                !(x.kind == 0x05#8 || x.kind == 0x07#8) || decide (x.seq ≤ b.seq) || decide (e.seq ≤ x.seq)
        t.grant.lastEnd = .powerLoss
        ∧ ∃ (elapsed : Nat) (rewritten : WindowSet),
            t.supply.startUp.closure
              = some (.grantEnd .powerLoss (g.dword 0) elapsed committed rewritten 0 g.seq (g.dword 2))
            ∧ (∀ x ∈ run, x.kind = 0x06#8 → g.seq < x.seq → (x.word 4).toNat ≤ elapsed)
            ∧ (elapsed = 0 ∨ ∃ x ∈ run, x.kind = 0x06#8 ∧ g.seq < x.seq ∧ (x.word 4).toNat = elapsed)
            ∧ (∀ w : Win, hasWin rewritten w = true ↔ ∃ o, about 0x03#8 w o ∧ g.seq < o.seq)
            ∧ (c.engine.queue.length < 8 →
                c.surveySettle.engine = { t.engine with queue := c.engine.queue ++
                  [⟨.grantEnd .powerLoss (g.dword 0) elapsed committed rewritten 0 g.seq (g.dword 2),
                    .survey, false, 0⟩] }
                ∧ c.surveySettle.supply.startUp.phase = .closeGrant))
    ∧ ((∀ b, latest 0x05#8 b → ∃ x ∈ run, x.kind = 0x07#8 ∧ b.seq < x.seq) → t.supply.startUp.rollback = none)
    ∧ (∀ b, latest 0x05#8 b → (∀ x ∈ run, x.kind = 0x07#8 → x.seq < b.seq) →
        ∃ trims : List SlotRecord, t.supply.startUp.rollback = some trims
          ∧ (∀ r, r ∈ trims ↔ r ∈ run ∧ r.kind = 0x06#8 ∧ b.seq < r.seq ∧ ∃ w : Win, r.aux.toNat = w.val ∧ trimWin w)
          ∧ trims.Pairwise (fun x y => x.seq < y.seq))

/-- The survey reads every slot, word by word; a slot that is complete by R133 joins the records found (R153). With the last
word of the last slot the findings are settled (`SurveySettlesItsFindings`) and carried out: the GRANT_END of a cut-off
grant first (R154), then, with that finished, the comparisons of a cut-off commit, or at once the COMMIT_END of one without
words (R155; words passed over do not count, and their windows are not summed, log entry 20), then, with every append
finished, the reference entries (R156), and the end, with RECORDS_LOW judged (R157, R140). An append of the survey's own
ends with its record, with its entry's last write, or unwritten, when RECORDS_FULL is set (R136–R138, R157). The entries
rewritten are those of windows whose reference is the sum of the run's latest WINDOW_SUM with a cause assigned, where the
entry as read is another or not consistent, each by the four writes of R146 (R156, R203). The model's choices: the order of
the reads (log entry 33) and of the windows (34), the time of the rewriting, which leaves an entry that the rollback has
written since (12), and that appends begin only between the survey's own transfers (14). -/
def Obligations.SurveyReadsTheArea : Prop :=
  let wrapsUp (c t : Chip) (bus : Option Transfer → BusPath) : Prop :=
    let u : StartUp := c.supply.startUp
    let at_ (phase : StartPhase) : Prop := t.supply = { c.supply with startUp := { u with phase := phase } }
    if u.owed = 0 then
      match surveyEntryWrites (runOf u.found) u.refWords c.scanner.references (c.map.imageBase.getD 0#24) with
      | [] => at_ .ended ∧ t.bus = bus none ∧ t.link = { c.link with notices :=
          if c.freeSlots < 64 then c.link.notices ||| 0x0040#16 else c.link.notices }
      | (a, x) :: rest => at_ (.entries ((a, x) :: rest)) ∧ t.bus = bus (some ⟨a, .write true true x⟩) ∧ t.link = c.link
    else at_ .drain ∧ t.bus = bus none ∧ t.link = c.link
  let rollsBack (c t : Chip) (bus : Option Transfer → BusPath) : Prop :=
    let u : StartUp := c.supply.startUp
    match u.rollback with
    | none => t.engine = c.engine ∧ wrapsUp c t bus
    | some [] =>
      t.engine = ({ c.engine with lastOutcome := .rolledBack, lastWords := u.restored }).asked
        ⟨.commitEnd .rolledBack u.restored, .survey, false, 0⟩
      ∧ t.supply = { c.supply with startUp := { u with phase := .drain, owed := u.owed + 1 } }
      ∧ t.bus = bus none ∧ t.link = c.link
    | some (r :: rest) =>
      ∀ w : Win, r.aux.toNat = w.val → c.map.descriptors[w].standing = .enabled → c.map.descriptors[w].classCode = 3 →
        t.engine = c.engine ∧ t.link = c.link
        ∧ t.supply = { c.supply with startUp := { u with phase := .compare (r :: rest) } }
        ∧ t.bus = bus (some ⟨c.map.descriptors[w].base + BitVec.ofNat 24 (2 * (r.word 0).toNat), .read⟩)
  let finished (c t : Chip) (bus : Option Transfer → BusPath) : Prop :=
    match c.supply.startUp.phase with
    | .closeGrant => rollsBack c t bus
    | .drain => t.engine = c.engine ∧ wrapsUp c t bus
    | _ => t.engine = c.engine ∧ t.supply = c.supply ∧ t.link = c.link ∧ t.bus = bus none
  (∀ (s : State) (tr : Transfer) (slot : Nat) (got : List Word) (place : Placement),
    s.supplied = true → s.chip.staysUp → tr.action = .read → s.chip.bus.memPort = .busy .R tr true →
    s.chip.bus.requestR = none → s.chip.engine.progress = none → s.chip.supply.startUp.phase = .slots slot got →
    s.chip.map.record = some place →
    let u : StartUp := s.chip.supply.startUp
    let words : List Word := s.memory.readWord tr.address :: got
    let read (offset : Nat) : Option Transfer := some ⟨place.base + BitVec.ofNat 24 offset, .read⟩
    (got.length < 15 →
      ∃ t, exec (.memoryTransferComplete none) s = .next t ∧ s.changesOnly [.bus, .supply] t
        ∧ t.chip.supply = { s.chip.supply with startUp := { u with phase := .slots slot words } }
        ∧ t.chip.bus = s.chip.busGoesOn .R (read (32 * slot + 2 * words.length)))
    ∧ ∀ (kind low high : Word) (fields : List Word), words.reverse = [kind] ++ fields ++ [low, high] → fields.length = 13 →
      let seq : Nat := low.toNat + 65536 * high.toNat
      let complete : Prop :=
        lowByte kind ≠ 0#8 ∧ 1 ≤ seq ∧ seq ≤ 4294967294 ∧ (seq - 1) % s.chip.capacity = slot
      let found : List SlotRecord := if complete then ⟨seq, lowByte kind, highByte kind, fields⟩ :: u.found else u.found
      (slot + 1 < s.chip.capacity →
        ∃ t, exec (.memoryTransferComplete none) s = .next t ∧ s.changesOnly [.bus, .supply] t
          ∧ t.chip.supply = { s.chip.supply with startUp := { u with phase := .slots (slot + 1) [], found := found } }
          ∧ t.chip.bus = s.chip.busGoesOn .R (read (32 * (slot + 1))))
      ∧ (slot + 1 = s.chip.capacity →
        let c : Chip := ({ s.chip with supply := { s.chip.supply with startUp := { u with found := found } } }).settleFindings
        ∃ t, exec (.memoryTransferComplete none) s = .next t
          ∧ s.changesOnly [.bus, .engine, .scanner, .grant, .supply, .link] t
          ∧ t.chip.scanner = c.scanner ∧ t.chip.grant = c.grant
          ∧ (∀ kind, c.supply.startUp.closure = some kind → t.chip.engine = c.engine.asked ⟨kind, .survey, false, 0⟩
              ∧ t.chip.supply = { c.supply with startUp := { c.supply.startUp with
                  phase := .closeGrant, owed := u.owed + 1 } }
              ∧ t.chip.link = s.chip.link ∧ t.chip.bus = s.chip.busGoesOn .R none)
          ∧ (c.supply.startUp.closure = none → rollsBack c t.chip (s.chip.busGoesOn .R))))
  ∧ (∀ (s : State) (tr : Transfer) (q : AppendRequest) (taken : Option Taken) (x : Addr × Word),
    s.supplied = true → s.chip.staysUp → s.chip.bus.memPort = .busy .R tr true → s.chip.bus.requestR = none →
    q.source = .survey →
    let ended (engine : RecordEngine) (link : Link) : Chip := { s.chip with
      engine := engine
      link := link
      supply := { s.chip.supply with startUp := { s.chip.supply.startUp with owed := s.chip.supply.startUp.owed - 1 } } }
    ((∃ w sum, q.kind = .windowSum w .rollback sum) → s.chip.engine.progress = some ⟨q, taken, .followOn [x]⟩ →
      ∃ t, exec (.memoryTransferComplete none) s = .next t
        ∧ s.chip.changesOnly [.bus, .engine, .supply, .link] t.chip
        ∧ finished (ended { s.chip.engine with progress := none } s.chip.link) t.chip (s.chip.busGoesOn .R))
    ∧ ((∃ reason workshop elapsed count rewritten clamped seq time,
          q.kind = .grantEnd reason workshop elapsed count rewritten clamped seq time)
        ∨ (∃ w expected sum, q.kind = .tamper w expected sum) ∨ (∃ outcome n, q.kind = .commitEnd outcome n) →
      s.chip.engine.progress = some ⟨q, taken, .slot [x]⟩ →
      let risen : RecordEngine := { s.chip.engine with
        head := s.chip.engine.head + 1
        claimed := if q.claimed then s.chip.engine.claimed - 1 else s.chip.engine.claimed
        progress := none }
      let link : Link := { s.chip.link with notices :=
        if 64 ≤ s.chip.freeSlots ∧ ({ s.chip with engine := risen }).freeSlots < 64 then
          s.chip.link.notices ||| 0x0040#16
        else s.chip.link.notices }
      ∃ t, exec (.memoryTransferComplete none) s = .next t
        ∧ s.chip.changesOnly [.bus, .engine, .supply, .link] t.chip
        ∧ finished (ended risen link) t.chip (s.chip.busGoesOn .R)))
  ∧ (∀ (s : State) (q : AppendRequest) (rest : List AppendRequest), s.calm → s.chip.engine.progress = none →
    s.chip.supply.startUp.phase.usesR = false → s.chip.engine.waiting = [] → s.chip.engine.queue = q :: rest →
    s.chip.grant.state = .idle → q.source = .survey → q.claimed = false →
    s.chip.freeSlots = 0 ∨ 0xFFFFFFFF ≤ s.chip.engine.head →
    (∃ reason workshop elapsed count rewritten clamped seq time,
        q.kind = .grantEnd reason workshop elapsed count rewritten clamped seq time)
      ∨ (∃ w expected sum, q.kind = .tamper w expected sum) ∨ (∃ outcome n, q.kind = .commitEnd outcome n)
      ∨ (∃ w sum, q.kind = .windowSum w .rollback sum) →
    let c : Chip := { s.chip with
      engine := { s.chip.engine with queue := rest }
      link := { s.chip.link with notices := s.chip.link.notices ||| 0x0080#16 }
      supply := { s.chip.supply with startUp := { s.chip.supply.startUp with owed := s.chip.supply.startUp.owed - 1 } } }
    ∃ t, exec .appendBegin s = .next t ∧ s.changesOnly [.bus, .engine, .supply, .link] t
      ∧ finished c t.chip fun next => match next with
        | none => s.chip.bus
        | some x => s.chip.busAfter { s.chip.bus with requestR := some x })
  ∧ (∀ (s : State) (tr : Transfer) (x : Addr × Word) (left : List (Addr × Word)), s.supplied = true → s.chip.staysUp →
    s.chip.bus.memPort = .busy .R tr true → s.chip.bus.requestR = none → s.chip.engine.progress = none →
    s.chip.supply.startUp.phase = .entries (x :: left) →
    let u : StartUp := s.chip.supply.startUp
    ∃ t, exec (.memoryTransferComplete none) s = .next t ∧ s.chip.changesOnly [.bus, .supply, .link] t.chip
      ∧ (∀ a w more, left = (a, w) :: more → t.chip.link = s.chip.link
          ∧ t.chip.supply = { s.chip.supply with startUp := { u with phase := .entries ((a, w) :: more) } }
          ∧ t.chip.bus = s.chip.busGoesOn .R (some ⟨a, .write true true w⟩))
      ∧ (left = [] → t.chip.supply = { s.chip.supply with startUp := { u with phase := .ended } }
          ∧ t.chip.link = { s.chip.link with notices :=
              if s.chip.freeSlots < 64 then s.chip.link.notices ||| 0x0040#16 else s.chip.link.notices }
          ∧ t.chip.bus = s.chip.busGoesOn .R none))
  ∧ ∀ (run : List SlotRecord) (refWords : List Word) (references : Vector (Option DWord) 24) (base : Addr),
    run.Pairwise (fun a b => b.seq < a.seq) →
    let sums (w : Win) (r : SlotRecord) : Prop :=
      r ∈ run ∧ r.kind = 0x04#8 ∧ r.aux.toNat = w.val ∧ 1 ≤ (r.word 0).toNat ∧ (r.word 0).toNat ≤ 5
    let entry (w : Win) (i : Nat) : Word := refWords.getD (4 * w.val + i) 0#16
    let holds (w : Win) (d : DWord) : Prop :=
      entry w 1 = ~~~entry w 0 ∧ entry w 3 = ~~~entry w 2 ∧ entry w 0 ++ entry w 2 = d
    let at_ (w : Win) (offset : Nat) : Addr := base + BitVec.ofNat 24 (0x280 + 8 * w.val + offset)
    ∃ rewritten : List (Win × DWord), rewritten.Pairwise (fun x y => x.1 < y.1)
      ∧ (∀ w d, (w, d) ∈ rewritten ↔ references[w] = some d ∧ ¬ holds w d
          ∧ ∃ r, sums w r ∧ (∀ x, sums w x → x.seq ≤ r.seq) ∧ r.dword 4 = d)
      ∧ surveyEntryWrites run refWords references base = rewritten.flatMap fun x =>
          let high : Word := x.2.extractLsb' 16 16
          let low : Word := x.2.extractLsb' 0 16
          [(at_ x.1 0, high), (at_ x.1 4, low), (at_ x.1 2, ~~~high), (at_ x.1 6, ~~~low)]

/-- The survey on an area without a complete record, as `SurveyReadsTheArea` reads it (log entry 33): with the last word of
the last slot the head is 1, the mark 0 and the references those of the entries, no window is marked or in the tamper set,
and the survey ends, with RECORDS_LOW judged (R153, R156, R157, R140). The rollback of a cut-off commit (R155): a word that
holds the new value gets the old one back, with both lanes; one that holds the old value is left; on one that holds neither
the window joins the tamper set, with TAMPER_FOUND if it was not in it; a window that the set holds already is not added
anew, so it gets no notice and no TAMPER record, which is the model's reading (log entry 20). After the last comparison, or
the last word written back, the sums of the named windows are asked for in ascending index, those of the records not passed
over, which is the model's reading too (log entry 20); each delivered sum queues a TAMPER record for a window found altered
and its WINDOW_SUM; and after the last one the COMMIT_END follows. That the rollback goes on while one of them waits for a
place is the model's choice (log entry 31). -/
def Obligations.SurveyEndsOrRollsBack : Prop :=
  (∀ (s : State) (tr : Transfer) (slot : Nat) (got : List Word) (kind : Word),
    s.supplied = true → s.chip.staysUp → tr.action = .read → s.chip.bus.memPort = .busy .R tr true →
    s.chip.bus.requestR = none → s.chip.engine.progress = none → s.chip.supply.startUp.owed = 0 →
    s.chip.supply.startUp.found = [] → s.chip.supply.startUp.phase = .slots slot (got ++ [kind]) → got.length = 14 →
    kind.extractLsb' 0 8 = 0#8 → slot + 1 = s.chip.capacity →
    ∃ t, exec (.memoryTransferComplete none) s = .next t ∧ s.changesOnly [.bus, .engine, .scanner, .supply, .link] t
      ∧ t.chip.engine = { s.chip.engine with head := 1, mark := 0 }
      ∧ t.chip.scanner = { s.chip.scanner with
          references := t.chip.scanner.references, marks := 0#24, tamper := 0#24 }
      ∧ (∀ w : Win,
          let entry (i : Nat) : Word := s.chip.supply.startUp.refWords.getD (4 * w.val + i) 0#16
          t.chip.scanner.references[w] =
            if entry 1 = ~~~entry 0 ∧ entry 3 = ~~~entry 2 then some (entry 0 ++ entry 2) else none)
      ∧ t.chip.supply = { s.chip.supply with startUp := { s.chip.supply.startUp with
          phase := .ended, closure := none, rollback := none } }
      ∧ t.chip.link = { s.chip.link with notices :=
          if t.chip.freeSlots < 64 then s.chip.link.notices ||| 0x0040#16 else s.chip.link.notices }
      ∧ t.chip.bus = s.chip.busAfter { s.chip.bus with memPort := .free })
  ∧ (∀ (s : State) (tr : Transfer) (r : SlotRecord) (rest : List SlotRecord) (w : Win),
    s.supplied = true → s.chip.staysUp → s.chip.bus.memPort = .busy .R tr true → s.chip.bus.requestR = none →
    s.chip.engine.progress = none → r.aux.toNat = w.val → s.chip.map.descriptors[w].standing = .enabled →
    s.chip.map.descriptors[w].classCode = 3 →
    let u : StartUp := s.chip.supply.startUp
    let data : Word := s.memory.readWord tr.address
    let address (v : Win) (x : SlotRecord) : Addr :=
      s.chip.map.descriptors[v].base + BitVec.ofNat 24 (2 * (x.word 0).toNat)
    let left : Prop := tr.action = .read ∧ u.phase = .compare (r :: rest) ∧ data = r.word 1 ∧ data ≠ r.word 2
    let altered : Prop := tr.action = .read ∧ u.phase = .compare (r :: rest) ∧ data ≠ r.word 1 ∧ data ≠ r.word 2
    let restored : Prop := tr.action ≠ .read ∧ u.phase = .restore (r :: rest)
    let joins : Prop := altered ∧ hasWin s.chip.scanner.tamper w = false
    let after (phase : StartPhase) (t : Chip) : Prop :=
      (restored → t.supply = { s.chip.supply with startUp := { u with phase := phase, restored := u.restored + 1 } })
      ∧ (joins → t.supply = { s.chip.supply with startUp := { u with
          phase := phase, altered := u.altered ||| (1#24 <<< w.val) } })
      ∧ (¬ restored → ¬ joins → t.supply = { s.chip.supply with startUp := { u with phase := phase } })
      ∧ (joins → t.scanner.tamper = s.chip.scanner.tamper ||| (1#24 <<< w.val)
          ∧ t.link = { s.chip.link with notices := s.chip.link.notices ||| 0x0008#16 })
      ∧ (¬ joins → t.scanner.tamper = s.chip.scanner.tamper ∧ t.link = s.chip.link)
    (tr.action = .read → u.phase = .compare (r :: rest) → data = r.word 2 →
      ∃ t, exec (.memoryTransferComplete none) s = .next t ∧ s.changesOnly [.bus, .supply] t
        ∧ t.chip.supply = { s.chip.supply with startUp := { u with phase := .restore (r :: rest) } }
        ∧ t.chip.bus = s.chip.busGoesOn .R (some ⟨address w r, .write true true (r.word 1)⟩))
    ∧ (∀ (x : SlotRecord) (more : List SlotRecord) (v : Win), rest = x :: more → x.aux.toNat = v.val →
        s.chip.map.descriptors[v].standing = .enabled → s.chip.map.descriptors[v].classCode = 3 →
        left ∨ altered ∨ restored →
      ∃ t, exec (.memoryTransferComplete none) s = .next t
        ∧ s.chip.changesOnly [.bus, .supply, .scanner, .link] t.chip
        ∧ (tr.action = .read → s.changesOnly [.bus, .supply, .scanner, .link] t)
        ∧ after (.compare (x :: more)) t.chip
        ∧ t.chip.scanner = { s.chip.scanner with tamper := t.chip.scanner.tamper }
        ∧ t.chip.bus = s.chip.busGoesOn .R (some ⟨address v x, .read⟩))
    ∧ (∀ trims : List SlotRecord, rest = [] → left ∨ altered ∨ restored → u.rollback = some trims → r ∈ trims →
        s.chip.scanner.queue = [] →
      ∃ t v vs, exec (.memoryTransferComplete none) s = .next t
        ∧ s.chip.changesOnly [.bus, .supply, .scanner, .link] t.chip
        ∧ (tr.action = .read → s.changesOnly [.bus, .supply, .scanner, .link] t)
        ∧ (∀ y : Win, y ∈ v :: vs ↔ ∃ x ∈ trims, x.aux.toNat = y.val) ∧ (v :: vs).Pairwise (fun y z => y < z)
        ∧ after (.sums (v :: vs)) t.chip
        ∧ t.chip.scanner = { s.chip.scanner with tamper := t.chip.scanner.tamper, queue := [⟨v, [.survey]⟩] }
        ∧ t.chip.bus = s.chip.busGoesOn .R none))
  ∧ ∀ (s : State) (tr : Transfer) (r : SumRun) (w : Win) (sum : DWord),
    s.supplied = true → s.chip.staysUp → tr.action = .read → s.chip.bus.memPort = .busy .S tr true →
    s.chip.bus.requestS = none → s.chip.scanner.sum = some r → r.purpose = .request [.survey] → r.window = w →
    s.chip.map.ownedAt w (r.word + 1) = none →
    sum = (r.b + (r.a + s.memory.readWord tr.address)) ++ (r.a + s.memory.readWord tr.address) →
    let u : StartUp := s.chip.supply.startUp
    let records : List AppendRequest :=
      (if hasWin u.altered w then [⟨.tamper w s.chip.scanner.references[w] sum, .survey, false, 0⟩] else [])
        ++ [⟨.windowSum w .rollback sum, .survey, false, 0⟩]
    (∀ v vs, u.phase = .sums (w :: v :: vs) → s.chip.scanner.queue = [] →
      ∃ t, exec (.memoryTransferComplete none) s = .next t ∧ s.changesOnly [.bus, .engine, .scanner, .supply] t
        ∧ t.chip.engine = records.foldl RecordEngine.asked s.chip.engine
        ∧ t.chip.scanner = { s.chip.scanner with sum := none, queue := [⟨v, [.survey]⟩] }
        ∧ t.chip.supply = { s.chip.supply with startUp := { u with
            phase := .sums (v :: vs), owed := u.owed + records.length } }
        ∧ t.chip.bus = s.chip.busAfter { s.chip.bus with memPort := .free })
    ∧ (u.phase = .sums [w] →
      ∃ t, exec (.memoryTransferComplete none) s = .next t ∧ s.changesOnly [.bus, .engine, .scanner, .supply] t
        ∧ t.chip.engine = (records.foldl RecordEngine.asked
            { s.chip.engine with lastOutcome := .rolledBack, lastWords := u.restored }).asked
              ⟨.commitEnd .rolledBack u.restored, .survey, false, 0⟩
        ∧ t.chip.scanner = { s.chip.scanner with sum := none }
        ∧ t.chip.supply = { s.chip.supply with startUp := { u with
            phase := .drain, owed := u.owed + records.length + 1 } }
        ∧ t.chip.bus = s.chip.busAfter { s.chip.bus with memPort := .free })

/-! ## Processor cycles -/

/-- Arrivals that are not decided. While the gate is closed every arrival is GATED, in every power state and whatever its
lanes; parking ends; in AFTER_RUN the dormancy delay restarts, and in DORMANT a wake starts (R1–R3, R9, R16, R185, R187).
With the gate open, a cycle with an empty lane set completes without a memory transfer: a READ returns the fill value, a
WRITE stores nothing, and parking does not end (R2, R16). -/
def Obligations.UndecidedArrivals : Prop :=
  ∀ (s : State) (b : BusCycle), s.supplied = true → s.chip.settled → s.chip.bus.port = .idle →
    (b.readStrobe || b.writeStrobe) = true →
    (s.chip.supply.power = .dormant ∨ s.chip.bus.gate.isOpen = false →
      ∃ t, exec (.processorCycleArrival b) s = .next t ∧ s.changesOnly [.pins, .bus, .supply] t
        ∧ t.chip.pins = { s.chip.pins with chipSelect := true }
        ∧ t.chip.bus = s.chip.busAfter { s.chip.bus with
            port := .gated ⟨b.address &&& 0xFFFFFE#24, b.lowLane, b.highLane,
              if b.writeStrobe then .write else .read,
              (if b.writeStrobe && b.highLane then highByte b.data else 0#8)
                ++ (if b.writeStrobe && b.lowLane then lowByte b.data else 0#8), none⟩
            gate := if s.chip.supply.power = .dormant then { s.chip.bus.gate with waking := true } else s.chip.bus.gate
            memPort := s.chip.bus.memPort.unparked }
        ∧ t.chip.supply =
            if s.chip.supply.power = .dormant then { s.chip.supply with power := .waking, settling := true }
            else s.chip.supply.afterArrival)
    ∧ (s.chip.supply.power ≠ .dormant → s.chip.bus.gate.isOpen = true → b.lowLane = false → b.highLane = false →
      ∃ t, exec (.processorCycleArrival b) s = .next t ∧ s.changesOnly [.pins, .bus, .supply] t
        ∧ t.chip.pins = { s.chip.pins with chipSelect := true }
        ∧ t.chip.supply = s.chip.supply.afterArrival
        ∧ t.chip.bus = { s.chip.bus with
            port := .done (captureCycle b) (if b.writeStrobe then none else some s.chip.params.fillValue) })

/-- The decision on a READ is the table of R89 and, for a word of a TRIM window with its page, that of R90. -/
def Obligations.ReadsFollowTheClassTable : Prop :=
  ∀ (c : Chip) (y : CycleRecord), y.direction = .read →
    (c.decision y).resolution = c.map.resolve y.address ∧ (c.decision y).hold = none ∧ (c.decision y).opens = false
    ∧ (let r := c.map.resolve y.address
       let factory := (c.grant.state = .active ∨ c.grant.state = .suspended) ∧ c.grant.record.level = some .factory
       (r.cls = .site .openWindow ∨ r.cls = .site .calibration ∨ r.cls = .site .identity ∨ r.cls = .record →
          (c.decision y).service = .pass ∧ (c.decision y).refusal = none)
       ∧ (r.cls = .site .keys ∨ (r.cls = .image ∧ r.refTable = false) →
          (factory → (c.decision y).service = .pass ∧ (c.decision y).refusal = none)
          ∧ (¬ factory → (c.decision y).service = .fill ∧ (c.decision y).refusal = some .hidden))
       ∧ (r.cls = .image → r.refTable = true →
          (c.decision y).service = .fill ∧ (c.decision y).refusal = some .hidden)
       ∧ ∀ p, r.cls = .site .trim → r.page = some p → (c.decision y).refusal = none
          ∧ (c.overlay.pages[p].state = .opened ∨ c.overlay.pages[p].state = .committing
              ∨ (c.overlay.pages[p].state = .loading ∧ (c.overlay.pages[p].word r.pageWord).loaded = true) →
              (c.decision y).service = .overlayRead)
          ∧ (c.overlay.pages[p].state = .closed
              ∨ (c.overlay.pages[p].state = .loading ∧ (c.overlay.pages[p].word r.pageWord).loaded = false) →
              (c.decision y).service = .pass))

/-- The decision on a WRITE. Content of class OPEN is passed, whatever the grant (R92). Any other write is refused with the
reason of the first check of R93 that holds, with the limit checks of R94 and the announcement of R97, where a grant that is
not in force leaves only the first two; one that none refuses is served by its class, held for PAGE LOADING or WINDOW OPENING
where R98, R99 and R101 say so. -/
def Obligations.WritesFollowTheCheckOrder : Prop :=
  (∀ (c : Chip) (y : CycleRecord), y.direction = .write →
    let r : Resolution := c.map.resolve y.address
    (r.cls = .site .openWindow → c.decision y = ⟨.pass, none, none, false, r⟩)
    ∧ (r.cls ≠ .site .openWindow → c.grant.state = .idle ∨ c.grant.state = .opening ∨ c.grant.state = .ending →
        c.decision y = ⟨.drop, some (if r.cls = .record ∨ (r.cls = .image ∧ r.refTable = true) then .cls else .noGrant),
          none, false, r⟩))
  ∧ ∀ (c : Chip) (y : CycleRecord) (level : Level) (governing : Option LimitNo), y.direction = .write →
    c.grant.record.level = some level →
    let r : Resolution := c.map.resolve y.address
    let governs (j : LimitNo) : Prop := r.cls = .site .trim
      ∧ (∃ w : Win, r.owner = .window w ∧ c.overlay.limits[j].window = w.val)
      ∧ c.overlay.limits[j].standing = .enabled ∧ c.overlay.limits[j].offset = r.pageWord
    let frozen (j : LimitNo) : Bool := decide (c.overlay.limits[j].read c.overlay.limits[j].upper
      < c.overlay.limits[j].read c.overlay.limits[j].lower)
    let announced : Bool := decide (r.cls = .site .calibration ∨ r.cls = .site .identity ∨ r.cls = .site .keys)
    let reason : Option Reason :=
      if r.cls = .record ∨ (r.cls = .image ∧ r.refTable = true) then some .cls
      else if c.grant.state = .idle ∨ c.grant.state = .opening ∨ c.grant.state = .ending then some .noGrant
      else if c.scanner.tamper ≠ 0#24 ∧ (r.cls = .site .calibration ∨ r.cls = .site .trim)
          ∧ (level = .adjust ∨ level = .reflash) then some .tampered
      else if r.owner = .background ∨ ∃ w, r.owner = .window w ∧ hasWin c.grant.record.scope w = false then some .scope
      else if (r.cls = .site .calibration ∧ level = .adjust)
          ∨ ((r.cls = .site .identity ∨ r.cls = .site .keys ∨ r.cls = .image) ∧ (level = .adjust ∨ level = .reflash))
          ∨ (∃ j, governing = some j ∧ level = .adjust ∧ c.overlay.limits[j].required = 2) then some .level
      else if ∃ j, governing = some j ∧ frozen j = true ∧ (level = .adjust ∨ level = .reflash) then some .frozen
      else if c.grant.state = .suspended then some .motion
      else if announced = true ∧ ∃ w, r.owner = .window w ∧
          ((hasWin c.grant.record.rewritten w = false ∧ c.freeSlots ≤ 8)
            ∨ (hasWin c.grant.record.rewritten w = true ∧ c.adu.announcements[w] = some .failed)) then some .space
      else none
    (∀ j, governing = some j → governs j ∧ ∀ i, i < j → ¬ governs i) → (governing = none → ∀ j, ¬ governs j) →
    (r.cls = .site .openWindow → c.decision y = ⟨.pass, none, none, false, r⟩)
    ∧ (r.cls ≠ .site .openWindow →
      (∀ e, reason = some e → c.decision y = ⟨.drop, some e, none, false, r⟩)
      ∧ (reason = none →
        (r.cls = .site .trim →
          (c.decision y).refusal = none ∧ (c.decision y).opens = false ∧ (c.decision y).resolution = r
          ∧ (∀ j, governing = some j → frozen j = false → level = .adjust ∨ level = .reflash →
              (c.decision y).service = .overlayWrite (some j))
          ∧ (governing = none ∨ level = .factory → (c.decision y).service = .overlayWrite none)
          ∧ ∀ p, r.page = some p → (c.decision y).hold =
              if c.overlay.pages[p].state = .loading then some .pageLoading else none)
        ∧ (r.cls = .image → c.decision y = ⟨.pass, none, none, false, r⟩)
        ∧ ∀ w, announced = true → r.owner = .window w →
            (hasWin c.grant.record.rewritten w = false →
              c.decision y = ⟨.pass, none, some .windowOpening, true, r⟩)
            ∧ (hasWin c.grant.record.rewritten w = true → c.adu.announcements[w] = some .announcing →
              c.decision y = ⟨.pass, none, some .windowOpening, false, r⟩)
            ∧ (hasWin c.grant.record.rewritten w = true → c.adu.announcements[w] = some .announced →
              c.decision y = ⟨.pass, none, none, false, r⟩)))

/-- A decided READ is served as its decision says: a PASS asks for the memory port, an OVERLAY READ completes with the
page word, and a FILL completes with the fill value and is recorded as refused HIDDEN, which never strikes (R5–R7, R102,
R104, R105, R115). -/
def Obligations.ReadIsServedAsDecided : Prop :=
  ∀ (s : State) (b : BusCycle), s.supplied = true → s.chip.settled → s.chip.bus.port = .idle →
    b.readStrobe = true → b.writeStrobe = false → (b.lowLane || b.highLane) = true →
    s.chip.supply.power ≠ .dormant → s.chip.bus.gate.isOpen = true →
    let y : CycleRecord := captureCycle b
    let d : Decision := s.chip.decision y
    let y' : CycleRecord := { y with decision := some d }
    ∃ t, exec (.processorCycleArrival b) s = .next t ∧ s.changesOnly [.pins, .bus, .supply, .adu, .link] t
      ∧ t.chip.pins = { s.chip.pins with chipSelect := true } ∧ t.chip.supply = s.chip.supply.afterArrival
      ∧ (d.service = .pass → t.chip.adu = s.chip.adu ∧ t.chip.link = s.chip.link
          ∧ t.chip.bus = s.chip.busAfter { s.chip.bus with
              port := .held y' .memoryPort
              requestP := some ⟨y.address, .read⟩
              memPort := s.chip.bus.memPort.unparked })
      ∧ (∀ p, d.service = .overlayRead → d.resolution.page = some p → t.chip.adu = s.chip.adu ∧ t.chip.link = s.chip.link
          ∧ t.chip.bus = s.chip.busAfter { s.chip.bus with
              port := .done y' (some (s.chip.overlay.pages[p].word d.resolution.pageWord).value)
              memPort := s.chip.bus.memPort.unparked })
      ∧ (d.service = .fill →
          t.chip.adu = { s.chip.adu with refusals := (recordRefusal s.chip.adu.refusals
            ⟨d.resolution.owner, .read, .hidden, y.address, 1,
              if s.chip.grant.state = .idle then none else s.chip.grant.record.level⟩).1 }
          ∧ t.chip.link = { s.chip.link with notices :=
              if s.chip.adu.refusals = [] then s.chip.link.notices ||| 0x0020#16 else s.chip.link.notices }
          ∧ t.chip.bus = s.chip.busAfter { s.chip.bus with
              port := .done y' (some s.chip.params.fillValue)
              memPort := s.chip.bus.memPort.unparked })

/-- A decided WRITE is served as its decision says (`WritesFollowTheCheckOrder` gives the decision). A PASS without a hold
asks for the memory port with the write's lanes (R5, R12, R92, R99); an OVERLAY WRITE is stored, as written where no limit
applies, marked dirty, and restarts the idle timer (R6, R8, R72, R101, R116, R117); a write to a page that is LOADING is held
for PAGE LOADING (R10), and one to an ANNOUNCING window for WINDOW OPENING (R99); and a DROP completes with nothing stored,
recorded as refused, one strike where its entry is new and its reason strikes (R96, R102–R105, R81), here without beginning
lockout (`StrikeAtTheThresholdLocksOut`). A first reflash write is held for WINDOW OPENING; its window joins the
rewritten-window set as ANNOUNCING, and its WINDOW_OPENED append is queued with the reference as it stands (R97, R98). -/
def Obligations.WriteIsServedAsDecided : Prop :=
  ∀ (s : State) (b : BusCycle), s.supplied = true → s.chip.settled → s.chip.bus.port = .idle →
    b.writeStrobe = true → (b.lowLane || b.highLane) = true →
    s.chip.supply.power ≠ .dormant → s.chip.bus.gate.isOpen = true →
    let y : CycleRecord := captureCycle b
    let r : Resolution := s.chip.map.resolve y.address
    let d : Decision := s.chip.decision y
    let y' : CycleRecord := { y with decision := some d }
    let g : GrantRecord := s.chip.grant.record
    let arrived (t : State) : Prop :=
      t.chip.pins = { s.chip.pins with chipSelect := true } ∧ t.chip.supply = s.chip.supply.afterArrival
    let portTo (p : Port) : BusPath :=
      s.chip.busAfter { s.chip.bus with port := p, memPort := s.chip.bus.memPort.unparked }
    (d.service = .pass → d.hold = none →
      ∃ t, exec (.processorCycleArrival b) s = .next t ∧ s.changesOnly [.pins, .bus, .supply] t ∧ arrived t
        ∧ t.chip.bus = s.chip.busAfter { s.chip.bus with
            port := .held y' .memoryPort
            requestP := some ⟨wordAddress b.address, .write b.lowLane b.highLane
              ((if b.highLane then highByte b.data else 0#8) ++ (if b.lowLane then lowByte b.data else 0#8))⟩
            memPort := s.chip.bus.memPort.unparked })
    ∧ (∀ limit p, d.service = .overlayWrite limit → d.hold = none → r.page = some p →
      let old : PageWord := s.chip.overlay.pages[p].word r.pageWord
      let x : Word := (if b.highLane then highByte b.data else highByte old.value)
        ++ (if b.lowLane then lowByte b.data else lowByte old.value)
      let stored : Word := match limit with
        | none => x
        | some j => s.chip.overlay.limits[j].apply x old.baseline
      ∃ t, exec (.processorCycleArrival b) s = .next t ∧ s.changesOnly [.pins, .bus, .supply, .overlay, .grant] t
        ∧ arrived t ∧ t.chip.bus = portTo (.done y' none)
        ∧ t.chip.overlay.pages[p].word r.pageWord = ⟨stored, old.baseline, old.loaded, true, stored != x⟩
        ∧ (∀ (q : PageNo) (n : Nat), (q, n) ≠ (p, r.pageWord) →
            t.chip.overlay.pages[q].word n = s.chip.overlay.pages[q].word n)
        ∧ (∀ q : PageNo, t.chip.overlay.pages[q].state = s.chip.overlay.pages[q].state)
        ∧ t.chip.overlay = { s.chip.overlay with pages := t.chip.overlay.pages }
        ∧ t.chip.grant = { s.chip.grant with record := { g with
            idleRemaining := 15 * 2 ^ g.idleChoice
            clamped := if stored ≠ x ∧ g.clamped < 65535 then g.clamped + 1 else g.clamped } })
    ∧ (∀ limit, d.service = .overlayWrite limit → d.hold = some .pageLoading →
      ∃ t, exec (.processorCycleArrival b) s = .next t ∧ s.changesOnly [.pins, .bus, .supply] t ∧ arrived t
        ∧ t.chip.bus = portTo (.held y' .pageLoading))
    ∧ (d.service = .pass → d.hold = some .windowOpening → d.opens = false →
      ∃ t, exec (.processorCycleArrival b) s = .next t ∧ s.changesOnly [.pins, .bus, .supply] t ∧ arrived t
        ∧ t.chip.bus = portTo (.held y' .windowOpening))
    ∧ (∀ e, d = ⟨.drop, some e, none, false, r⟩ →
      let recorded := recordRefusal s.chip.adu.refusals
        ⟨r.owner, .write, e, y.address, 1, if s.chip.grant.state = .idle then none else g.level⟩
      let strikes : Prop := recorded.2 = true ∧ e ∈ [Reason.noGrant, .scope, .level, .cls, .frozen]
      (strikes → s.chip.grant.strikes + 1 ≠ s.chip.params.lockoutThreshold) →
      ∃ t, exec (.processorCycleArrival b) s = .next t ∧ s.changesOnly [.pins, .bus, .supply, .adu, .link, .grant] t
        ∧ arrived t ∧ t.chip.bus = portTo (.done y' none)
        ∧ t.chip.adu = { s.chip.adu with refusals := recorded.1 }
        ∧ t.chip.link = { s.chip.link with notices :=
            if s.chip.adu.refusals = [] then s.chip.link.notices ||| 0x0020#16 else s.chip.link.notices }
        ∧ t.chip.grant =
            if strikes then { s.chip.grant with strikes := min (s.chip.grant.strikes + 1) 15, decay := 0 }
            else s.chip.grant)
    ∧ ∀ w, r.cls = .site .calibration ∨ r.cls = .site .identity ∨ r.cls = .site .keys → r.owner = .window w →
      s.chip.writeRefusal r = none → hasWin g.rewritten w = false →
      ∃ t, exec (.processorCycleArrival b) s = .next t ∧ s.changesOnly [.pins, .bus, .supply, .grant, .adu, .engine] t
        ∧ arrived t
        ∧ t.chip.bus = portTo
            (.held { y with decision := some ⟨.pass, none, some .windowOpening, true, r⟩ } .windowOpening)
        ∧ t.chip.grant = { s.chip.grant with record := { g with rewritten := g.rewritten ||| (1#24 <<< w.val) } }
        ∧ t.chip.adu = { s.chip.adu with announcements := s.chip.adu.announcements.set w (some .announcing) }
        ∧ t.chip.engine = s.chip.engine.asked
            ⟨.windowOpened w g.workshop s.chip.scanner.references[w], .adu, false, 0⟩

/-- The refusal list after a refusal (R104): a repeat of the newest entry raises its count, up to 255; anything else
becomes the newest entry, and a list of 8 loses its oldest first. Either way the list holds at most 8 entries and no two
consecutive ones agree in owner, access kind and reason; and the refusal creates an entry, and is then one strike if its
reason strikes (R102, R81), exactly when it does not merge. -/
def Obligations.RefusalsMergeOrAppend : Prop :=
  ∀ (list : List Refused) (e : Refused),
    (∀ (c : Chip) (y : CycleRecord) (reason : Reason) (r : Resolution), c.adu.refusals = list →
      e = ⟨r.owner, y.direction, reason, y.address, 1,
        if c.grant.state = .idle then none else c.grant.record.level⟩ →
      (c.refuse y reason r).adu.refusals = (recordRefusal list e).1
      ∧ ((recordRefusal list e).2 = false → (c.refuse y reason r).grant = c.grant)
      ∧ (c.refuse y reason r).grant.strikes =
          if (recordRefusal list e).2 = true ∧ reason ∈ [Reason.cls, .noGrant, .scope, .level, .frozen] then
            min (c.grant.strikes + 1) 15
          else c.grant.strikes)
    ∧ (∀ old newest, list = old ++ [newest] →
      newest.owner = e.owner ∧ newest.kind = e.kind ∧ newest.reason = e.reason →
      recordRefusal list e
        = (old ++ [{ newest with count := if newest.count < 255 then newest.count + 1 else newest.count }], false))
    ∧ ((∀ old newest, list = old ++ [newest] →
        ¬ (newest.owner = e.owner ∧ newest.kind = e.kind ∧ newest.reason = e.reason)) →
      (list.length < 8 → recordRefusal list e = (list ++ [e], true))
      ∧ (∀ oldest rest, list = oldest :: rest → list.length = 8 → recordRefusal list e = (rest ++ [e], true)))
    ∧ (list.length ≤ 8 → noRepeats list = true →
      (recordRefusal list e).1.length ≤ 8 ∧ noRepeats (recordRefusal list e).1 = true)

/-- A WRITE outside any grant, to a word whose class needs one, is dropped: nothing is stored; it is recorded as refused,
NO_GRANT or, for the record area and the reference sums, CLASS; and a new entry is one strike, which restarts the decay
timer (R93, R96, R102–R105, R81). Here the strike does not begin lockout. -/
def Obligations.UngrantedWriteIsDroppedAndStrikes : Prop :=
  ∀ (s : State) (b : BusCycle), s.supplied = true → s.chip.settled → s.chip.bus.port = .idle →
    b.writeStrobe = true → (b.lowLane || b.highLane) = true →
    s.chip.supply.power ≠ .dormant → s.chip.bus.gate.isOpen = true →
    s.chip.grant.state = .idle → s.chip.grant.strikes + 1 ≠ s.chip.params.lockoutThreshold →
    let y : CycleRecord := captureCycle b
    let r : Resolution := s.chip.map.resolve y.address
    let reason : Reason := if r.cls = .record ∨ (r.cls = .image ∧ r.refTable = true) then .cls else .noGrant
    let recorded := recordRefusal s.chip.adu.refusals ⟨r.owner, .write, reason, y.address, 1, none⟩
    r.cls ≠ .site .openWindow →
    ∃ t, exec (.processorCycleArrival b) s = .next t ∧ s.changesOnly [.pins, .bus, .supply, .adu, .link, .grant] t
      ∧ t.chip.pins = { s.chip.pins with chipSelect := true } ∧ t.chip.supply = s.chip.supply.afterArrival
      ∧ t.chip.bus = s.chip.busAfter { s.chip.bus with
          port := .done { y with decision := some ⟨.drop, some reason, none, false, r⟩ } none
          memPort := s.chip.bus.memPort.unparked }
      ∧ t.chip.adu = { s.chip.adu with refusals := recorded.1 }
      ∧ t.chip.link = { s.chip.link with notices :=
          if s.chip.adu.refusals = [] then s.chip.link.notices ||| 0x0020#16 else s.chip.link.notices }
      ∧ t.chip.grant =
          if recorded.2 then { s.chip.grant with strikes := min (s.chip.grant.strikes + 1) 15, decay := 0 }
          else s.chip.grant

/-- The strike that reaches the threshold begins lockout (R83): any refused WRITE whose reason strikes and that makes a new
entry (R102, R104), whatever the list holds and whatever the grant. LOCKOUT_BEGIN is queued and LOCKOUT_BEGAN set. A grant
in force enters ENDING with reason LOCKOUT: with no commit in flight its pages close, and with no rewritten window the
ending goes straight to its GRANT_END, behind LOCKOUT_BEGIN (R76–R79); one in OPENING that has no pending end reason takes
LOCKOUT (R75); with the grant IDLE or ENDING only the count rises. The cycle is completed as a DROP (R96). That a port whose
parking ends is arbitrated after all of this, the withdrawal of the loader's request among it, is the model's choice (log
entry 21). -/
def Obligations.StrikeAtTheThresholdLocksOut : Prop :=
  ∀ (s : State) (b : BusCycle) (e : Reason), s.supplied = true → s.chip.settled → s.chip.bus.port = .idle →
    b.writeStrobe = true → (b.lowLane || b.highLane) = true →
    s.chip.supply.power ≠ .dormant → s.chip.bus.gate.isOpen = true →
    s.chip.grant.strikes + 1 = s.chip.params.lockoutThreshold → s.chip.grant.strikes < 15 →
    s.chip.engine.queue.length < 7 →
    let y : CycleRecord := captureCycle b
    let r : Resolution := s.chip.map.resolve y.address
    let g : GrantRecord := s.chip.grant.record
    let entry : Refused := ⟨r.owner, .write, e, y.address, 1, if s.chip.grant.state = .idle then none else g.level⟩
    let inForce : Prop := s.chip.grant.state = .active ∨ s.chip.grant.state = .suspended
    let closes : Prop := inForce ∧ s.chip.engine.commit = none
    let locked : GrantController := { s.chip.grant with strikes := s.chip.params.lockoutThreshold, decay := 0 }
    e ∈ [Reason.noGrant, .scope, .level, .cls, .frozen] → s.chip.decision y = ⟨.drop, some e, none, false, r⟩ →
    (recordRefusal s.chip.adu.refusals entry).2 = true →
    ∃ t, exec (.processorCycleArrival b) s = .next t
      ∧ s.changesOnly [.pins, .bus, .supply, .adu, .link, .grant, .overlay, .engine] t
      ∧ t.chip.pins = { s.chip.pins with chipSelect := true } ∧ t.chip.supply = s.chip.supply.afterArrival
      ∧ t.chip.bus = s.chip.busAfter { s.chip.bus with
          port := .done { y with decision := some ⟨.drop, some e, none, false, r⟩ } none
          requestL := if closes then none else s.chip.bus.requestL
          memPort := match s.chip.bus.memPort with
            | .busy .L tr live => .busy .L tr (live && !decide closes)
            | port => port.unparked }
      ∧ t.chip.adu = { s.chip.adu with refusals := (recordRefusal s.chip.adu.refusals entry).1 }
      ∧ t.chip.link = { s.chip.link with notices :=
          (if s.chip.adu.refusals = [] then s.chip.link.notices ||| 0x0020#16 else s.chip.link.notices) ||| 0x0200#16 }
      ∧ t.chip.grant =
          (if inForce then
            { locked with
              state := .ending
              step :=
                if s.chip.engine.commit ≠ none then .commit
                else if g.rewritten = 0#24 then .grantEnd
                else .closing (winsOf g.rewritten) false
              record := { g with endReason := some .lockout, suspendRemaining := none } }
          else if s.chip.grant.state = .opening ∧ g.pendingEnd = none then
            { locked with record := { g with pendingEnd := some .lockout } }
          else locked)
      ∧ t.chip.engine = { s.chip.engine with queue := s.chip.engine.queue ++
          ⟨.lockoutBegin s.chip.params.lockoutThreshold s.chip.params.lockoutThreshold, .grant, false, 0⟩ ::
            (if closes ∧ g.rewritten = 0#24 then
              [⟨.grantEnd .lockout g.workshop g.elapsed g.commitCount 0#24 g.clamped g.beginSeq g.timeStamp,
                .grant, false, 0⟩]
            else []) }
      ∧ (closes →
          (∀ p : PageNo, t.chip.overlay.pages[p]
            = if s.chip.overlay.pages[p].state = .unbound ∨ s.chip.overlay.pages[p].state = .closed then
                s.chip.overlay.pages[p]
              else ⟨.closed, []⟩)
          ∧ t.chip.overlay = { s.chip.overlay with pages := t.chip.overlay.pages, queue := [] })
      ∧ (¬ closes → t.chip.overlay = s.chip.overlay)

/-- A WRITE under a grant below FACTORY to a word of an OPEN or COMMITTING page with a governing record that is not
frozen stores a value within the record's bounds, whatever the processor wrote (R101): the limit arithmetic of
R128–R130 over the merged word (R116), marked dirty, and marked and counted as a CLAMP when it differs (R117, R61); no
other page word changes; and the idle timer restarts (R72). A write held for PAGE LOADING is in
`LoaderReadLoadsItsWord`. -/
def Obligations.GovernedWriteStaysWithinBounds : Prop :=
  ∀ (s : State) (b : BusCycle) (p : PageNo) (j : LimitNo), s.supplied = true → s.chip.settled →
    s.chip.bus.port = .idle → b.writeStrobe = true → (b.lowLane || b.highLane) = true →
    s.chip.supply.power ≠ .dormant → s.chip.bus.gate.isOpen = true →
    let y : CycleRecord := captureCycle b
    let r : Resolution := s.chip.map.resolve y.address
    let l : LimitRecord := s.chip.overlay.limits[j]
    let old : PageWord := s.chip.overlay.pages[p].word r.pageWord
    let x : Word := (if b.highLane then highByte b.data else highByte old.value)
      ++ (if b.lowLane then lowByte b.data else lowByte old.value)
    let x2 : Int :=
      if l.step = 0 then l.read x
      else if l.read x < l.read old.baseline - l.step then l.read old.baseline - l.step
      else if l.read old.baseline + l.step < l.read x then l.read old.baseline + l.step
      else l.read x
    let final : Int :=
      if x2 < l.read l.lower then l.read l.lower else if l.read l.upper < x2 then l.read l.upper else x2
    r.cls = .site .trim → r.page = some p →
    s.chip.overlay.pages[p].state = .opened ∨ s.chip.overlay.pages[p].state = .committing →
    s.chip.writeRefusal r = none → s.chip.grant.record.level ≠ some .factory → s.chip.governs r = some j →
    l.read l.lower ≤ l.read l.upper →
    ∃ t, exec (.processorCycleArrival b) s = .next t ∧ s.changesOnly [.pins, .bus, .supply, .overlay, .grant] t
      ∧ (let stored : PageWord := t.chip.overlay.pages[p].word r.pageWord
         l.read stored.value = final ∧ l.read l.lower ≤ l.read stored.value ∧ l.read stored.value ≤ l.read l.upper
         ∧ stored.baseline = old.baseline ∧ stored.loaded = old.loaded ∧ stored.dirty = true
         ∧ (stored.clamped = true ↔ stored.value ≠ x)
         ∧ t.chip.grant = { s.chip.grant with record := { s.chip.grant.record with
             idleRemaining := 15 * 2 ^ s.chip.grant.record.idleChoice
             clamped :=
               if stored.value ≠ x ∧ s.chip.grant.record.clamped < 65535 then s.chip.grant.record.clamped + 1
               else s.chip.grant.record.clamped } })
      ∧ (∀ (q : PageNo) (n : Nat), (q, n) ≠ (p, r.pageWord) →
          t.chip.overlay.pages[q].word n = s.chip.overlay.pages[q].word n)
      ∧ (∀ q : PageNo, t.chip.overlay.pages[q].state = s.chip.overlay.pages[q].state)
      ∧ t.chip.overlay.queue = s.chip.overlay.queue ∧ t.chip.overlay.limits = s.chip.overlay.limits
      ∧ t.chip.overlay.loadWord = s.chip.overlay.loadWord
      ∧ t.chip.bus = s.chip.busAfter { s.chip.bus with
          port := .done { y with decision := some ⟨.overlayWrite (some j), none, none, false, r⟩ } none
          memPort := s.chip.bus.memPort.unparked }

/-- The release of the strobe after ready frees the processor port (R8). Before ready, a release withdraws the cycle by the
table of R13: discarded, with P's request removed, or going on without its cycle while its transfer is in flight. The
release of the chip select also ends parking: the port becomes FREE and a pending request is granted (R16). The model's
choice (log entry 8) is what STROBE_RELEASE and CYCLE_WITHDRAWN do in a port state that is not theirs: a strobe release
before ready is R13's withdrawal, and in IDLE, or a withdrawal in DONE, nothing of the cycle changes. -/
def Obligations.ReleasesEndTheCycle : Prop :=
  ∀ (s : State), s.calm →
    (∀ y data, s.chip.bus.port = .done y data →
      ∃ t, exec .strobeRelease s = .next t ∧ s.changesOnly [.bus] t
        ∧ t.chip.bus = { s.chip.bus with port := .idle })
    ∧ ((∀ y data, s.chip.bus.port ≠ .done y data) → ∀ i, i = .strobeRelease ∨ i = .cycleWithdrawn .strobe →
      ∃ t, exec i s = .next t ∧ s.changesOnly [.bus] t ∧ t.chip.bus = s.chip.bus.dropped)
    ∧ (∀ i, i = .chipSelectRelease ∨ i = .cycleWithdrawn .chipSelect →
      ∃ t, exec i s = .next t ∧ s.changesOnly [.pins, .bus] t
        ∧ t.chip.pins = { s.chip.pins with chipSelect := false }
        ∧ t.chip.bus = s.chip.busAfter { s.chip.bus.dropped with memPort := s.chip.bus.memPort.unparked })

/-- The assertion of RESET_N closes the gate, abandons the cycle in flight by the table of R13, and ends parking (R20). A
grant in force enters ENDING with reason RESET: with a commit in flight it waits for that, else its pages close, the load
queue empties and the loader stops, and with no rewritten window its GRANT_END is queued (R86, R75–R79, R121, R114). One in
OPENING that has no pending end reason takes RESET as its; one in ENDING goes on, and with none there the rest of the part
is as it was (R75, R86). The release takes RESET out of the gate's set; a GATED cycle with a reason still standing stays
GATED; with none left the gate opens, and the cycle is decided and carried out as it would be if it arrived then (R20, R4,
R9). That a port whose parking ends is arbitrated after all of this, the withdrawal of the loader's request among it, is the
model's choice (log entry 21). -/
def Obligations.ExternalResetAbandonsTheCycle : Prop :=
  ∀ (s : State), s.calm →
    let g : GrantRecord := s.chip.grant.record
    let abandoned : BusPath := { s.chip.bus.dropped with
      port := (match s.chip.bus.dropped.port with
        | .done _ _ => .idle
        | p => p)
      gate := { s.chip.bus.gate with reset := true }
      memPort := s.chip.bus.memPort.unparked }
    (s.chip.pins.resetAsserted = false → s.chip.grant.state = .idle ∨ s.chip.grant.state = .ending →
      ∃ t, exec .resetNAssert s = .next t ∧ s.changesOnly [.pins, .bus] t
        ∧ t.chip.pins = { s.chip.pins with resetAsserted := true } ∧ t.chip.bus = s.chip.busAfter abandoned)
    ∧ (s.chip.pins.resetAsserted = false → s.chip.grant.state = .opening →
      ∃ t, exec .resetNAssert s = .next t ∧ s.changesOnly [.pins, .bus, .grant] t
        ∧ t.chip.pins = { s.chip.pins with resetAsserted := true } ∧ t.chip.bus = s.chip.busAfter abandoned
        ∧ t.chip.grant = { s.chip.grant with record := { g with
            pendingEnd := if g.pendingEnd = none then some .reset else g.pendingEnd } })
    ∧ (s.chip.pins.resetAsserted = false → s.chip.grant.state = .active ∨ s.chip.grant.state = .suspended →
      ∃ t ended, exec .resetNAssert s = .next t
        ∧ s.changesOnly [.pins, .bus, .grant, .overlay, .engine] t
        ∧ t.chip.pins = { s.chip.pins with resetAsserted := true }
        ∧ ({ s.chip with bus := abandoned }).endedBy .reset ended
        ∧ t.chip.grant = ended.grant ∧ t.chip.engine = ended.engine ∧ t.chip.overlay = ended.overlay
        ∧ t.chip.bus = s.chip.busAfter ended.bus)
    ∧ (s.chip.pins.resetAsserted = true →
      (∀ y, s.chip.bus.port ≠ .gated y) ∨ s.chip.bus.gate.start = true ∨ s.chip.bus.gate.waking = true →
      ∃ t, exec .resetNRelease s = .next t ∧ s.changesOnly [.pins, .bus] t
        ∧ t.chip.pins = { s.chip.pins with resetAsserted := false }
        ∧ t.chip.bus = { s.chip.bus with gate := { s.chip.bus.gate with reset := false } })
    ∧ ∀ b : BusCycle, s.chip.pins.resetAsserted = true → s.chip.bus.port = .gated (captureCycle b) →
        (b.readStrobe || b.writeStrobe) = true → s.chip.bus.gate.start = false → s.chip.bus.gate.waking = false →
        s.chip.supply.power ≠ .dormant →
      let opened : State := { s with chip := { s.chip with
        pins := { s.chip.pins with resetAsserted := false }
        bus := { s.chip.bus with port := .idle, gate := ⟨false, false, false⟩ } } }
      ∃ t u, exec .resetNRelease s = .next t ∧ exec (.processorCycleArrival b) opened = .next u
        ∧ t = { u with chip := { u.chip with
            pins := { s.chip.pins with resetAsserted := false }, supply := s.chip.supply } }
        ∧ ∀ y, t.chip.bus.port ≠ .gated y

/-! ## The Standstill Monitor -/

/-- A tick of a running channel (R43–R45): the counter advances, the wrap count follows it, the filter takes the sample by
the table of R44, and a valid edge advances the divider count. One that neither makes a capture nor brings silence changes
nothing else in the part. The tick whose pass of the counter takes the wrap count from 2 to 3 brings silence: the speed
is 0, and the machine takes the update, with an event that is judged if its state changed (R48, R53, R54, R57, R63, R68,
R69); a capture at that same tick finds the period over-range (R46, R47). A channel that does not run takes no tick (R59). -/
def Obligations.TickAdvancesTheChannel : Prop :=
  ∀ (s : State) (x : PinLevel), s.calm →
    (∀ (k : CaptureChannel) (settings : ChannelSettings) (edge : Bool), k.running = true → k.wraps ≤ 3 →
      (edge = true ↔ k.previous = some x ∧ ((k.filtered = .low ∧ x = .high ∧ settings.edge ≠ .falling)
        ∨ (k.filtered = .high ∧ x = .low ∧ settings.edge ≠ .rising))) →
      let k' : CaptureChannel := { k with
        counter := k.counter + 1
        wraps := if k.counter = 0xFFFF#16 ∧ k.wraps ≠ 3 then k.wraps + 1 else k.wraps
        previous := some x
        filtered := if k.previous = some x then (match x with | .low => .low | .high => .high) else k.filtered
        dividerCount := if edge then k.dividerCount + 1 else k.dividerCount }
      let silent : CaptureChannel :=
        if edge = true ∧ k.dividerCount + 1 = settings.divider then
          { k' with wraps := 0, reference := some 0#16, dividerCount := 0, speed := 0 }
        else { k' with speed := 0 }
      (¬ (k.counter = 0xFFFF#16 ∧ k.wraps = 2) → (edge = true → k.dividerCount + 1 ≠ settings.divider) →
        (s.chip.monitor.engine = k → s.chip.params.engine = settings →
          ∃ t, exec (.channelTick .engine x) s = .next t ∧ s.changesOnly [.monitor] t
            ∧ t.chip.monitor = { s.chip.monitor with engine := k' })
        ∧ (s.chip.monitor.road = k → s.chip.params.road = settings →
          ∃ t, exec (.channelTick .road x) s = .next t ∧ s.changesOnly [.monitor] t
            ∧ t.chip.monitor = { s.chip.monitor with road := k' }))
      ∧ (k.counter = 0xFFFF#16 → k.wraps = 2 →
        (s.chip.monitor.engine = k → s.chip.params.engine = settings →
          ∃ t, exec (.channelTick .engine x) s = .next t ∧ s.changesOnly [.monitor, .grant] t
            ∧ t.chip.monitor = { s.chip.monitor with engine := silent, engineState := .stopped }
            ∧ t.chip.grant =
                if s.chip.monitor.engineState = .stopped then s.chip.grant
                else s.chip.judgedWith { s.chip.grant.view with engine := .stopped })
        ∧ (s.chip.monitor.road = k → s.chip.params.road = settings →
          ∃ t, exec (.channelTick .road x) s = .next t ∧ s.changesOnly [.monitor, .grant] t
            ∧ t.chip.monitor = { s.chip.monitor with road := silent, roadState := .stationary }
            ∧ t.chip.grant =
                if s.chip.monitor.roadState = .stationary then s.chip.grant
                else s.chip.judgedWith { s.chip.grant.view with road := .stationary })))
    ∧ (s.chip.monitor.engine.running = false →
      ∃ t, exec (.channelTick .engine x) s = .next t ∧ s.changesOnly [] t)
    ∧ (s.chip.monitor.road.running = false →
      ∃ t, exec (.channelTick .road x) s = .next t ∧ s.changesOnly [] t)

/-- A capture (R46, R47): the wrap count returns to 0, the counter becomes the reference, and with a reference the speed is
that of the period in ticks: for ENGINE 16383 at the most (R49), for ROAD 2550 (R50), and 0 when the period is over-range
(R51); the first capture leaves the speed. The machine takes the speed (R53, R54), and a changed state is sent as an event
and judged: an ACTIVE grant whose condition fails is suspended, a SUSPENDED one whose condition holds again is ACTIVE, and
ROAD entering MOVING ends a grant in force with reason MOTION (R76–R79; R57, R63, R68, R69). The capture at the tick that
brings silence is in `TickAdvancesTheChannel`. -/
def Obligations.CapturesMeasureTheSpeed : Prop :=
  ∀ (s : State) (x : PinLevel) (k : CaptureChannel) (g : ChannelSettings),
    let c2 : Word := k.counter + 1
    let wraps : Nat := if k.counter = 0xFFFF#16 ∧ k.wraps ≠ 3 then k.wraps + 1 else k.wraps
    let factor : Nat := if g.edge = .both then 2 else 1
    let speed (numerator top : Nat) : Nat := match k.reference with
      | none => k.speed
      | some c1 =>
        let period : Nat := wraps * 65536 + c2.toNat - c1.toNat
        if period ≤ 131071 then min (numerator * g.rate.hz * g.divider / (g.scale * factor * period)) top else 0
    let captured (v : Nat) : CaptureChannel := { k with
      counter := c2
      wraps := 0
      previous := some x
      filtered := (match x with | .low => .low | .high => .high)
      reference := some c2
      dividerCount := 0
      speed := v }
    let inForce : Prop := s.chip.grant.state = .active ∨ s.chip.grant.state = .suspended
    s.calm → k.running = true → k.wraps ≤ 3 → ¬ (k.counter = 0xFFFF#16 ∧ k.wraps = 2) → k.previous = some x →
    ((k.filtered = .low ∧ x = .high ∧ g.edge ≠ .falling) ∨ (k.filtered = .high ∧ x = .low ∧ g.edge ≠ .rising)) →
    k.dividerCount + 1 = g.divider →
    (k = s.chip.monitor.engine → g = s.chip.params.engine →
      let v : Nat := speed 60 16383
      let before : EngineState := s.chip.monitor.engineState
      let after : EngineState :=
        if k.reference = none then before
        else if v ≤ s.chip.params.stopLow then .stopped
        else if s.chip.params.stopHigh ≤ v then .turning
        else before
      ∃ t, exec (.channelTick .engine x) s = .next t ∧ s.changesOnly [.monitor, .grant] t
        ∧ t.chip.monitor = { s.chip.monitor with engine := captured v, engineState := after }
        ∧ t.chip.grant =
            if after = before then s.chip.grant else s.chip.judgedWith { s.chip.grant.view with engine := after })
    ∧ (k = s.chip.monitor.road → g = s.chip.params.road →
      let v : Nat := speed 36000 2550
      let before : RoadState := s.chip.monitor.roadState
      let after : RoadState :=
        if k.reference = none then before
        else if v = 0 then .stationary
        else if v ≤ s.chip.params.movingLow then .creeping
        else if v < s.chip.params.movingHigh then (if before = .stationary then .creeping else before)
        else .moving
      (after ≠ .moving ∨ after = before ∨ ¬ inForce →
        ∃ t, exec (.channelTick .road x) s = .next t ∧ s.changesOnly [.monitor, .grant] t
          ∧ t.chip.monitor = { s.chip.monitor with road := captured v, roadState := after }
          ∧ t.chip.grant =
              if after = before then s.chip.grant else s.chip.judgedWith { s.chip.grant.view with road := after })
      ∧ (after = .moving → before ≠ .moving → inForce →
        ∃ t, exec (.channelTick .road x) s = .next t
          ∧ s.changesOnly [.monitor, .grant, .overlay, .engine, .bus] t
          ∧ t.chip.monitor = { s.chip.monitor with road := captured v, roadState := .moving }
          ∧ ({ s.chip with grant := { s.chip.grant with view := { s.chip.grant.view with road := .moving } } }).endedBy
              .motion t.chip))

/-- The motion machines' tables (R53, R54): the ENGINE machine's next state for a speed, and the states the ROAD machine
enters for a speed, in order. Silence of a channel is an update of speed 0 (R48): its machine enters STOPPED or STATIONARY,
with an event, if its state changed, that updates the controller's view and is judged: a SUSPENDED grant whose condition
then holds is ACTIVE (R57, R63, R68, R69). The row SILENCE applies while the wrap count stands at 3, and changes nothing
otherwise: the model's choice (log entries 8 and 10). -/
def Obligations.SilenceStopsTheMachines : Prop :=
  ((∀ (p : Params) (v : Nat) (st : EngineState), p.stopLow < p.stopHigh →
      (v ≤ p.stopLow → nextEngine p v st = .stopped)
      ∧ (p.stopLow < v → v < p.stopHigh → nextEngine p v st = st)
      ∧ (p.stopHigh ≤ v → nextEngine p v st = .turning))
    ∧ (∀ (p : Params) (v : Nat), p.movingLow < p.movingHigh →
      (v = 0 → roadPath p v .stationary = [] ∧ roadPath p v .creeping = [.stationary]
        ∧ roadPath p v .moving = [.stationary])
      ∧ (1 ≤ v → v ≤ p.movingLow → roadPath p v .stationary = [.creeping] ∧ roadPath p v .creeping = []
        ∧ roadPath p v .moving = [.creeping])
      ∧ (1 ≤ v → p.movingLow < v → v < p.movingHigh → roadPath p v .stationary = [.creeping]
        ∧ roadPath p v .creeping = [] ∧ roadPath p v .moving = [])
      ∧ (p.movingHigh ≤ v → roadPath p v .stationary = [.creeping, .moving] ∧ roadPath p v .creeping = [.moving]
        ∧ roadPath p v .moving = [])))
  ∧ (∀ (s : State), s.calm →
      (s.chip.monitor.engine.running = true → s.chip.monitor.engine.wraps = 3 →
        ∃ t, exec (.silence .engine) s = .next t ∧ s.changesOnly [.monitor, .grant] t
          ∧ t.chip.monitor = { s.chip.monitor with
              engine := { s.chip.monitor.engine with speed := 0 }, engineState := .stopped }
          ∧ t.chip.grant =
              if s.chip.monitor.engineState = .stopped then s.chip.grant
              else s.chip.judgedWith { s.chip.grant.view with engine := .stopped })
      ∧ (s.chip.monitor.road.running = true → s.chip.monitor.road.wraps = 3 →
        ∃ t, exec (.silence .road) s = .next t ∧ s.changesOnly [.monitor, .grant] t
          ∧ t.chip.monitor = { s.chip.monitor with
              road := { s.chip.monitor.road with speed := 0 }, roadState := .stationary }
          ∧ t.chip.grant =
              if s.chip.monitor.roadState = .stationary then s.chip.grant
              else s.chip.judgedWith { s.chip.grant.view with road := .stationary })
      ∧ (s.chip.monitor.engine.running = false ∨ s.chip.monitor.engine.wraps ≠ 3 →
        ∃ t, exec (.silence .engine) s = .next t ∧ s.changesOnly [] t)
      ∧ (s.chip.monitor.road.running = false ∨ s.chip.monitor.road.wraps ≠ 3 →
        ∃ t, exec (.silence .road) s = .next t ∧ s.changesOnly [] t))

/-- The park brake (R55–R57): a change of the PARK level restarts the debounce interval while the monitor runs with the
input in use, and otherwise changes the pin alone; at the interval's completion the park state takes the level, and a
release suspends an ACTIVE grant whose level needs the brake, with the suspend timer set; the brake applied takes a
SUSPENDED grant whose condition then holds back to ACTIVE, with suspend remaining absent (R63, R68, R69). -/
def Obligations.ParkBrakeIsDebounced : Prop :=
  ∀ (s : State), s.calm →
    (∀ level, s.chip.pins.park ≠ level →
      ∃ t, exec (.parkInputChange level) s = .next t ∧ s.changesOnly [.pins, .monitor] t
        ∧ t.chip.pins = { s.chip.pins with park := level }
        ∧ t.chip.monitor =
            if s.chip.monitor.engine.running ∧ s.chip.monitor.road.running ∧ s.chip.params.parkInUse then
              { s.chip.monitor with debounce := true }
            else s.chip.monitor)
    ∧ (s.chip.monitor.debounce = true →
      let park : ParkState := match s.chip.pins.park with | .high => .applied | .low => .released
      (s.chip.monitor.park = park ∨ (s.chip.grant.state ≠ .active ∧ s.chip.grant.state ≠ .suspended) →
        ∃ t, exec .parkDebounceComplete s = .next t ∧ s.changesOnly [.monitor, .grant] t
          ∧ t.chip.monitor = { s.chip.monitor with park := park, debounce := false }
          ∧ t.chip.grant =
              if s.chip.monitor.park = park then s.chip.grant
              else { s.chip.grant with view := { s.chip.grant.view with park := park } })
      ∧ (s.chip.monitor.park = .applied → s.chip.pins.park = .low → s.chip.grant.state = .active →
        s.chip.grant.record.level = some .reflash ∨ s.chip.grant.record.level = some .factory →
        ∃ t, exec .parkDebounceComplete s = .next t ∧ s.changesOnly [.monitor, .grant] t
          ∧ t.chip.monitor = { s.chip.monitor with park := .released, debounce := false }
          ∧ t.chip.grant = { s.chip.grant with
              view := { s.chip.grant.view with park := .released }
              state := .suspended
              record := { s.chip.grant.record with suspendRemaining := some s.chip.params.suspendLimit } })
      ∧ (s.chip.monitor.park ≠ .applied → s.chip.pins.park = .high → s.chip.grant.state = .suspended →
        s.chip.grant.record.level = some .reflash ∨ s.chip.grant.record.level = some .factory →
        s.chip.grant.view.road = .stationary → s.chip.grant.view.engine = .stopped →
        ∃ t, exec .parkDebounceComplete s = .next t ∧ s.changesOnly [.monitor, .grant] t
          ∧ t.chip.monitor = { s.chip.monitor with park := .applied, debounce := false }
          ∧ t.chip.grant = { s.chip.grant with
              view := { s.chip.grant.view with park := .applied }
              state := .active
              record := { s.chip.grant.record with suspendRemaining := none } }))

/-! ## The Grant Controller -/

/-- A GRANT that passes the seven checks is admitted: OPENING with a fresh record, GRANT_BEGIN queued, and PENDING in the
reply buffer (R65, R66). The scope keeps exactly the indexes that name an enabled window; the duration is 240 at the
most. A GRANT that fails a check changes nothing but the reply, which is that of the first check that fails (R65). -/
def Obligations.GrantIsAdmittedOrRefused : Prop :=
  ∀ (s : State) (f : GrantFields) (filler : Nat) (snap : Snapshot), s.calm → s.chip.listening snap →
    (∀ l : Level, s.chip.grant.state = .idle → s.chip.scanner.cycleChecked = true →
      (s.chip.params.image ≠ .invalid ∨ l = .factory) → s.chip.grant.strikes < s.chip.params.lockoutThreshold →
      (s.chip.scanner.tamper = 0#24 ∨ l = .factory) →
      f.level = (match l with | .adjust => 1#8 | .reflash => 2#8 | .factory => 3#8) → f.duration ≠ 0#16 →
      f.idleChoice.toNat ≤ 7 → 10 < s.chip.freeSlots → s.chip.engine.queue.length < 8 →
      ∃ t scope, exec (.grant f filler) s = .next t ∧ s.changesOnly [.grant, .engine, .link] t
        ∧ (∀ w : Win, hasWin scope w = (f.scope.getLsbD w.val && s.chip.map.descriptors[w].standing == .enabled))
        ∧ t.chip.grant = { s.chip.grant with
            state := .opening
            record := { GrantRecord.empty with
              level := some l
              scope := scope
              workshop := f.workshop
              timeStamp := f.timeStamp
              duration := min f.duration.toNat 240
              idleChoice := f.idleChoice.toNat } }
        ∧ t.chip.engine = { s.chip.engine with queue := s.chip.engine.queue ++
            [⟨.grantBegin l f.workshop f.timeStamp scope (min f.duration.toNat 240) f.idleChoice.toNat,
              .grant, false, 0⟩] }
        ∧ t.chip.link = s.chip.link.answered snap (19 + filler) ⟨.pending, 0x02#8, []⟩)
    ∧ ∀ code : ResultCode,
      (let below : Prop := f.level ≠ 3#8
       let reply : Option ResultCode :=
         if s.chip.grant.state ≠ .idle then some .busy
         else if s.chip.scanner.cycleChecked = false then some .notReady
         else if s.chip.params.image = .invalid ∧ below then some .degraded
         else if s.chip.params.lockoutThreshold ≤ s.chip.grant.strikes then some .locked
         else if s.chip.scanner.tamper ≠ 0#24 ∧ below then some .tampered
         else if (f.level ≠ 1#8 ∧ f.level ≠ 2#8 ∧ f.level ≠ 3#8) ∨ f.duration = 0#16 ∨ 7 < f.idleChoice.toNat then
           some .badArg
         else if s.chip.freeSlots ≤ 10 then some .noSpace
         else none
       reply = some code) →
      ∃ t, exec (.grant f filler) s = .next t ∧ s.changesOnly [.link] t
        ∧ t.chip.link = s.chip.link.answered snap (19 + filler) ⟨code, 0x02#8, []⟩

/-- A second tick counts a grant in force down, the strike decay up in ACTIVE with strikes standing, and the periodic timer
up in ACTIVE with a scan period (R70, R82, R166); in DORMANT it counts nothing. What it brings to its end takes effect with
it: a timer at 0 ends the grant with the reason of the first row of R71 (R76–R79, R121); a decay timer at the period lowers
the strike count by 1, and from the threshold ends lockout (R82, R84); the periodic timer at the period returns to zero and
starts a pass if none runs, here over an empty scan group or with the sum of its first window (R166, R162). That these ends
are part of the tick is the model's reading (log entry 10), and the count of free values drawn where the grant and the
scanner both act is its own (log entry 6). That no grant is in force at the threshold is R83's. That the first read of a
pass is presented while a read that S has given up is in flight is the model's choice (log entry 35). -/
def Obligations.SecondTickCounts : Prop :=
  ∀ (s : State), s.calm →
    (s.chip.supply.power = .dormant → ∃ t, exec .secondTick s = .next t ∧ s.changesOnly [] t)
    ∧ (s.chip.supply.power ≠ .dormant → s.chip.engine.queue.length < 8 →
      (s.chip.grant.state = .active ∨ s.chip.grant.state = .suspended →
        s.chip.grant.strikes < s.chip.params.lockoutThreshold) →
      let active : Prop := s.chip.supply.power = .active
      let inForce : Prop := s.chip.grant.state = .active ∨ s.chip.grant.state = .suspended
      let g : GrantRecord :=
        if inForce then
          { s.chip.grant.record with
            remaining := s.chip.grant.record.remaining - 1
            idleRemaining := s.chip.grant.record.idleRemaining - 1
            suspendRemaining := s.chip.grant.record.suspendRemaining.map fun n => n - 1
            elapsed :=
              if s.chip.grant.record.elapsed < 65535 then s.chip.grant.record.elapsed + 1
              else s.chip.grant.record.elapsed }
        else s.chip.grant.record
      let reason : Option EndReason :=
        if ¬ inForce then none
        else if g.remaining = 0 then some .expired
        else if g.suspendRemaining = some 0 then some .suspendTimeout
        else if g.idleRemaining = 0 then some .idle
        else none
      let decay : Nat := if active ∧ 0 < s.chip.grant.strikes then s.chip.grant.decay + 1 else s.chip.grant.decay
      let decays : Prop := 0 < s.chip.grant.strikes ∧ 60 * s.chip.params.strikeDecay ≤ decay
      let strikes : Nat := if decays then s.chip.grant.strikes - 1 else s.chip.grant.strikes
      let decay' : Nat := if decays then 0 else decay
      let timer : Nat :=
        if active ∧ s.chip.params.scanPeriod ≠ 0 then s.chip.scanner.timer + 1 else s.chip.scanner.timer
      let scans : Prop := active ∧ s.chip.params.scanPeriod ≠ 0 ∧ 60 * s.chip.params.scanPeriod ≤ timer
      let blocks : List Block := [.grant, .overlay, .engine, .bus, .scanner]
      let granted (t : State) : Prop :=
        (reason = none →
          t.chip.grant = { s.chip.grant with strikes := strikes, decay := decay', record := g }
          ∧ t.chip.overlay = s.chip.overlay
          ∧ t.chip.engine =
              if decays ∧ s.chip.grant.strikes = s.chip.params.lockoutThreshold then
                { s.chip.engine with queue := s.chip.engine.queue ++
                  [⟨.lockoutEnd strikes s.chip.params.lockoutThreshold, .grant, false, 0⟩] }
              else s.chip.engine)
        ∧ ∀ r, reason = some r →
            t.chip.grant = { s.chip.grant with
              state := .ending
              step :=
                if s.chip.engine.commit ≠ none then .commit
                else if g.rewritten = 0#24 then .grantEnd
                else .closing (winsOf g.rewritten) false
              strikes := strikes
              decay := decay'
              record := { g with endReason := some r, suspendRemaining := none } }
            ∧ (s.chip.engine.commit = none →
                (∀ p : PageNo, t.chip.overlay.pages[p]
                  = if s.chip.overlay.pages[p].state = .unbound ∨ s.chip.overlay.pages[p].state = .closed then
                      s.chip.overlay.pages[p]
                    else ⟨.closed, []⟩)
                ∧ t.chip.overlay = { s.chip.overlay with pages := t.chip.overlay.pages, queue := [] }
                ∧ ∀ y, s.chip.bus.port = .held y .pageLoading → y.direction = .write → t.chip.bus.port = .done y none)
            ∧ (s.chip.engine.commit ≠ none → t.chip.overlay = s.chip.overlay)
            ∧ t.chip.engine =
                if s.chip.engine.commit = none ∧ g.rewritten = 0#24 then
                  { s.chip.engine with queue := s.chip.engine.queue ++
                    [⟨.grantEnd r g.workshop g.elapsed g.commitCount 0#24 g.clamped g.beginSeq g.timeStamp,
                      .grant, false, 0⟩] }
                else s.chip.engine
      let still (t : State) (b : BusPath) : Prop :=
        (reason = none ∨ s.chip.engine.commit ≠ none
          ∨ (s.chip.bus.requestL = none ∧ (∀ tr live, s.chip.bus.memPort ≠ .busy .L tr live)
              ∧ ∀ y, s.chip.bus.port ≠ .held y .pageLoading)) →
          t.chip.bus = b
      let drawn (t : State) : Prop := reason = none → ¬ decays → t.chip.draws = s.chip.draws
      (¬ scans →
        ∃ t, exec .secondTick s = .next t ∧ s.changesOnly blocks t ∧ granted t ∧ still t s.chip.bus
          ∧ t.chip.scanner = { s.chip.scanner with timer := timer })
      ∧ (scans → s.chip.scanner.pass ≠ none →
        ∃ t, exec .secondTick s = .next t ∧ s.changesOnly (.draws :: blocks) t ∧ granted t ∧ still t s.chip.bus ∧ drawn t
          ∧ t.chip.scanner = { s.chip.scanner with timer := 0 })
      ∧ (scans → s.chip.scanner.pass = none → s.chip.map.scanGroup = [] →
        ∃ t, exec .secondTick s = .next t ∧ s.changesOnly (.link :: .draws :: blocks) t ∧ granted t
          ∧ still t s.chip.bus ∧ drawn t
          ∧ t.chip.scanner = { s.chip.scanner with
              timer := 0, passCount := s.chip.scanner.passCount + 1, cycleChecked := true }
          ∧ t.chip.link = { s.chip.link with notices := s.chip.link.notices ||| 0x0004#16 })
      ∧ ∀ w ws i, scans → s.chip.scanner.pass = none → s.chip.map.scanGroup = w :: ws → s.chip.scanner.queue = [] →
          s.chip.scanner.sum = none → s.chip.skips w = false → s.chip.map.ownedAt w 0 = some i →
          let first : Transfer := ⟨s.chip.map.wordOf w i, .read⟩
          ∃ t, exec .secondTick s = .next t ∧ s.changesOnly (.draws :: blocks) t ∧ granted t
            ∧ still t (s.chip.busAfter { s.chip.bus with requestS := some first }) ∧ drawn t
            ∧ (t.chip.bus.requestS = some first ∨ t.chip.bus.memPort = .busy .S first true)
            ∧ t.chip.scanner = { s.chip.scanner with
                timer := 0, pass := some ⟨ws, .summing w⟩, sum := some ⟨w, i, 1#16, 0#16, .pass⟩ })

/-- A timer at 0 ends the grant: ENDING with the reason of the first row of R71; without a rewritten window or a commit in
flight the pages close and GRANT_END is queued at once (R76–R79). A strike decay that is due lowers the count by 1 and
restarts the timer; from the threshold it ends lockout, with a LOCKOUT_END of the count after it (R82, R84). The rows
apply while a timer stands at 0, or the decay timer at its period: the model's choice (log entry 10). -/
def Obligations.GrantExpiryAndStrikeDecay : Prop :=
  (∀ (s : State) (reason : EndReason), s.calm → s.chip.grant.state = .active ∨ s.chip.grant.state = .suspended →
      ((reason = .expired ∧ s.chip.grant.record.remaining = 0)
        ∨ (reason = .suspendTimeout ∧ s.chip.grant.record.remaining ≠ 0
            ∧ s.chip.grant.record.suspendRemaining = some 0)
        ∨ (reason = .idle ∧ s.chip.grant.record.remaining ≠ 0 ∧ s.chip.grant.record.suspendRemaining ≠ some 0
            ∧ s.chip.grant.record.idleRemaining = 0)) →
      s.chip.engine.commit = none → s.chip.grant.record.rewritten = 0#24 → s.chip.engine.queue.length < 8 →
      s.chip.overlay.queue = [] → s.chip.bus.requestL = none → (∀ tr live, s.chip.bus.memPort ≠ .busy .L tr live) →
      (∀ y, s.chip.bus.port ≠ .held y .pageLoading) →
      ∃ t, exec .grantTimerExpiry s = .next t ∧ s.changesOnly [.grant, .overlay, .engine] t
        ∧ t.chip.grant = { s.chip.grant with
            state := .ending
            step := .grantEnd
            record := { s.chip.grant.record with endReason := some reason, suspendRemaining := none } }
        ∧ t.chip.engine = { s.chip.engine with queue := s.chip.engine.queue ++
            [⟨.grantEnd reason s.chip.grant.record.workshop s.chip.grant.record.elapsed
                s.chip.grant.record.commitCount 0#24 s.chip.grant.record.clamped s.chip.grant.record.beginSeq
                s.chip.grant.record.timeStamp, .grant, false, 0⟩] }
        ∧ (∀ p : PageNo, t.chip.overlay.pages[p]
            = if s.chip.overlay.pages[p].state = .unbound ∨ s.chip.overlay.pages[p].state = .closed then
                s.chip.overlay.pages[p]
              else ⟨.closed, []⟩)
        ∧ t.chip.overlay.queue = [] ∧ t.chip.overlay.limits = s.chip.overlay.limits
        ∧ t.chip.overlay.loadWord = s.chip.overlay.loadWord)
  ∧ (∀ (s : State), s.calm → 0 < s.chip.grant.strikes → 60 * s.chip.params.strikeDecay ≤ s.chip.grant.decay →
      s.chip.engine.queue.length < 8 →
      ∃ t, exec .strikeDecay s = .next t ∧ s.changesOnly [.grant, .engine] t
        ∧ t.chip.grant = { s.chip.grant with strikes := s.chip.grant.strikes - 1, decay := 0 }
        ∧ t.chip.engine =
            if s.chip.grant.strikes = s.chip.params.lockoutThreshold then
              { s.chip.engine with queue := s.chip.engine.queue ++
                [⟨.lockoutEnd (s.chip.grant.strikes - 1) s.chip.params.lockoutThreshold, .grant, false, 0⟩] }
            else s.chip.engine)

/-- KEEP (R73): with a grant in force the idle timer is set to its limit, and nothing else of the grant changes; otherwise
nothing changes and the reply is NO_GRANT. REVOKE by grant state (R74): a grant in force enters ENDING with reason REVOKED:
with a commit in flight it waits for that, else its pages close, the loader stops, a write held for PAGE LOADING completes as
a DROP, and with no rewritten window its GRANT_END is queued (R76–R79, R121, R114, R10); one in OPENING keeps REVOKED as its
pending end reason if it has none; in ENDING and IDLE nothing changes. -/
def Obligations.KeepAndRevokeActByTheGrantState : Prop :=
  (∀ (s : State) (filler : Nat) (snap : Snapshot), s.calm → s.chip.listening snap →
      (s.chip.grant.state = .active ∨ s.chip.grant.state = .suspended →
        ∃ t, exec (.keep filler) s = .next t ∧ s.changesOnly [.grant, .link] t
          ∧ t.chip.grant = { s.chip.grant with record := { s.chip.grant.record with
              idleRemaining := 15 * 2 ^ s.chip.grant.record.idleChoice } }
          ∧ t.chip.link = s.chip.link.answered snap (3 + filler) ⟨.ok, 0x03#8, []⟩)
      ∧ (s.chip.grant.state = .idle ∨ s.chip.grant.state = .opening ∨ s.chip.grant.state = .ending →
        ∃ t, exec (.keep filler) s = .next t ∧ s.changesOnly [.link] t
          ∧ t.chip.link = s.chip.link.answered snap (3 + filler) ⟨.noGrant, 0x03#8, []⟩))
  ∧ ∀ (s : State) (filler : Nat) (snap : Snapshot), s.calm → s.chip.listening snap →
      (s.chip.grant.state = .active ∨ s.chip.grant.state = .suspended →
        ∃ t, exec (.revoke filler) s = .next t ∧ s.changesOnly [.bus, .grant, .overlay, .engine, .link] t
          ∧ s.chip.endedBy .revoked t.chip
          ∧ t.chip.link = s.chip.link.answered snap (3 + filler) ⟨.ok, 0x04#8, []⟩)
      ∧ (s.chip.grant.state = .opening →
        ∃ t, exec (.revoke filler) s = .next t ∧ s.changesOnly [.grant, .link] t
          ∧ t.chip.grant = { s.chip.grant with record := { s.chip.grant.record with
              pendingEnd :=
                if s.chip.grant.record.pendingEnd = none then some .revoked else s.chip.grant.record.pendingEnd } }
          ∧ t.chip.link = s.chip.link.answered snap (3 + filler) ⟨.ok, 0x04#8, []⟩)
      ∧ (s.chip.grant.state = .ending →
        ∃ t, exec (.revoke filler) s = .next t ∧ s.changesOnly [.link] t
          ∧ t.chip.link = s.chip.link.answered snap (3 + filler) ⟨.ok, 0x04#8, []⟩)
      ∧ (s.chip.grant.state = .idle →
        ∃ t, exec (.revoke filler) s = .next t ∧ s.changesOnly [.link] t
          ∧ t.chip.link = s.chip.link.answered snap (3 + filler) ⟨.noGrant, 0x04#8, []⟩)

/-- The ending asks for the sum of its next rewritten window once no pass write to it is held or in flight, and waits while
one is; its request merges with one that waits for the window (R78, R169). The scanner takes the oldest waiting request
between two windows and starts its sum, or delivers the sum 00000001h of a window that owns no word at once; while a window
is being judged, or a sum is in progress, it takes none (R170, R160). That a restarted pass which waits for an earlier
adoption's append counts as judging is the model's choice (log entry 36), and so is that a sum's first read is presented
while a read that S has given up is in flight (log entry 35). That the rows change nothing while they wait is the model's
choice (log entry 8). With the last word of a requested sum, or with such a window, the sum is delivered (R170): the commit
sequencer asks for its WINDOW_SUM COMMIT (R150), REBASE for its WINDOW_SUM REBASE (R173), and the ending for its WINDOW_SUM
REFLASH, and goes on to its next window or, after the last, asks for its GRANT_END (R78, R79). That it goes on while the
append queue is full and its WINDOW_SUM waits for a place is the model's reading (log entry 13). Two requesters of one
request ask together, in either order (R136); which is a free value, and the count of those drawn is the model's (log entry
6). The survey's delivery is in `SurveyEndsOrRollsBack`. -/
def Obligations.SumRequestsAreAskedAndServed : Prop :=
  let delivered (c t : Chip) (w : Win) (sum : DWord) (clients : List SumClient) : Prop :=
    let g : GrantRecord := c.grant.record
    ∀ left : List Win,
      (.closing ∈ clients → c.grant.step = .closing (w :: left) true) →
      (.commit ∈ clients → c.engine.commit ≠ none) → (.rebase ∈ clients → c.scanner.rebase ≠ none) →
      let asks (x : SumClient) : List AppendRequest := match x with
        | .commit => [⟨.windowSum w .commit sum, .commit, true, 0⟩]
        | .rebase => [⟨.windowSum w .rebase sum, .scanner, false, 0⟩]
        | .closing => ⟨.windowSum w .reflash sum, .grant, false, 0⟩ ::
            (if left = [] then
              [⟨.grantEnd (g.endReason.getD .none) g.workshop g.elapsed g.commitCount g.rewritten g.clamped g.beginSeq
                g.timeStamp, .grant, false, 0⟩]
            else [])
        | .survey => []
      (∃ made : List AppendRequest, made.Perm (clients.flatMap asks) ∧ (∀ x ∈ clients, (asks x).Sublist made)
        ∧ t.engine = made.foldl RecordEngine.asked c.engine)
      ∧ t.grant = (if .closing ∈ clients then
          { c.grant with step := if left = [] then .grantEnd else .closing left false }
        else c.grant)
      ∧ (clients.length = 1 → t.draws = c.draws)
  (∀ (s : State) (w : Win) (rest : List Win), s.calm → s.chip.grant.step = .closing (w :: rest) false →
      (s.chip.bus.port.passWriteTo w = false →
        ∃ t, exec .closingSumRequest s = .next t ∧ s.changesOnly [.grant, .scanner] t
          ∧ t.chip.grant = { s.chip.grant with step := .closing (w :: rest) true }
          ∧ t.chip.scanner = { s.chip.scanner with queue := t.chip.scanner.queue }
          ∧ sumJoins w .closing s.chip.scanner.queue t.chip.scanner.queue)
      ∧ (s.chip.bus.port.passWriteTo w = true →
        ∃ t, exec .closingSumRequest s = .next t ∧ s.changesOnly [] t))
  ∧ (∀ (s : State) (q : SumRequest) (rest : List SumRequest), s.calm → s.chip.scanner.queue = q :: rest →
      (s.chip.scanner.sum = none →
        (s.chip.scanner.pass = none ∨ ∃ left, s.chip.scanner.pass = some ⟨left, .between⟩) →
        (∀ i, s.chip.map.ownedAt q.window 0 = some i →
          ∃ t, exec .sumRequestService s = .next t ∧ s.changesOnly [.scanner, .bus] t
            ∧ t.chip.scanner = { s.chip.scanner with
                queue := rest, sum := some ⟨q.window, i, 1#16, 0#16, .request q.clients⟩ }
            ∧ t.chip.bus = s.chip.busAfter { s.chip.bus with
                requestS := some ⟨s.chip.map.wordOf q.window i, .read⟩ })
        ∧ (s.chip.map.ownedAt q.window 0 = none → .survey ∉ q.clients →
            q.clients.Nodup → q.clients.length = 1 ∨ q.clients.length = 2 →
          ∃ t, exec .sumRequestService s = .next t ∧ s.changesOnly [.scanner, .engine, .grant, .draws] t
            ∧ t.chip.scanner = { s.chip.scanner with queue := rest }
            ∧ delivered s.chip t.chip q.window 0x00000001#32 q.clients))
      ∧ (s.chip.scanner.sum ≠ none ∨ (∃ left phase, s.chip.scanner.pass = some ⟨left, phase⟩ ∧ phase ≠ .between) →
        ∃ t, exec .sumRequestService s = .next t ∧ s.changesOnly [] t))
  ∧ ∀ (s : State) (tr : Transfer) (r : SumRun) (clients : List SumClient) (sum : DWord),
      s.supplied = true → s.chip.staysUp → tr.action = .read → s.chip.bus.memPort = .busy .S tr true →
      s.chip.bus.requestS = none → s.chip.scanner.sum = some r → r.purpose = .request clients →
      s.chip.map.ownedAt r.window (r.word + 1) = none → .survey ∉ clients → clients.Nodup →
      clients.length = 1 ∨ clients.length = 2 →
      sum = (r.b + (r.a + s.memory.readWord tr.address)) ++ (r.a + s.memory.readWord tr.address) →
      ∃ t, exec (.memoryTransferComplete none) s = .next t
        ∧ s.changesOnly [.bus, .scanner, .engine, .grant, .draws] t
        ∧ t.chip.scanner = { s.chip.scanner with sum := none }
        ∧ t.chip.bus = s.chip.busGoesOn .S none
        ∧ delivered s.chip t.chip r.window sum clients

/-! ## The refusal list, the overlay and the Record Engine on request -/

/-- REFUSALS hands over the whole list, oldest first, in every grant state: the reply's payload is the number of entries
and the 8 bytes of each; the list is emptied, and the REFUSALS notice cleared (R106). -/
def Obligations.RefusalsHandsOverTheList : Prop :=
  ∀ (s : State) (filler : Nat) (snap : Snapshot), s.calm → s.chip.listening snap →
    ∃ t, exec (.refusals filler) s = .next t ∧ s.changesOnly [.adu, .link] t
      ∧ t.chip.adu = { s.chip.adu with refusals := [] }
      ∧ t.chip.link = { s.chip.link.answered snap (3 + filler)
          ⟨.ok, 0x09#8, BitVec.ofNat 8 s.chip.adu.refusals.length :: s.chip.adu.refusals.flatMap fun e =>
            [byteOf e.owner.code, (match e.kind with | .read => 0#8 | .write => 1#8), byteOf e.reason.code,
              byteOf (levelCode e.level), e.address.extractLsb' 0 8, e.address.extractLsb' 8 8,
              e.address.extractLsb' 16 8, byteOf e.count]⟩
          with notices := s.chip.link.notices &&& 0xFFDF#16 }

/-- DISCARD (R119, R120). The first check that fails gives the reply, and nothing else changes: NO_GRANT, BADARG, BUSY. A
request that passes is taken whole: each named page enters LOADING with its marks cleared and joins the end of the load
queue, in ascending page number; an idle loader presents the read of the first page's first served word (R111). Its pages
are OPEN or CLOSED by the checks as R119 has them; by R111 no page of the scope is CLOSED while a grant is in force, so a
run names OPEN ones only. -/
def Obligations.DiscardReloadsThePage : Prop :=
  ∀ (s : State) (pages : PageSet) (filler : Nat) (snap : Snapshot), s.calm → s.chip.listening snap →
    let refusal : Option ResultCode :=
      if s.chip.grant.state ≠ .active ∧ s.chip.grant.state ≠ .suspended then some .noGrant
      else if pages = 0#8 ∨ (∃ p : PageNo, hasPage pages p = true ∧ (s.chip.overlay.pages[p].state = .unbound
          ∨ ∀ w : Win, s.chip.map.bindings[p] = some w → hasWin s.chip.grant.record.scope w = false)) then some .badArg
      else if ∃ p : PageNo, hasPage pages p = true ∧ (s.chip.overlay.pages[p].state = .loading
          ∨ s.chip.overlay.pages[p].state = .committing) then some .busy
      else none
    (∀ code, refusal = some code →
      ∃ t, exec (.discard pages filler) s = .next t ∧ s.changesOnly [.link] t
        ∧ t.chip.link = s.chip.link.answered snap (4 + filler) ⟨code, 0x06#8, []⟩)
    ∧ (refusal = none → ∀ list, listsPages list pages →
      let marked (t : State) : Prop := ∀ p : PageNo, t.chip.overlay.pages[p] =
        if hasPage pages p then s.chip.overlay.pages[p].enterLoading else s.chip.overlay.pages[p]
      (s.chip.overlay.queue ≠ [] →
        ∃ t, exec (.discard pages filler) s = .next t ∧ s.changesOnly [.overlay, .link] t ∧ marked t
          ∧ t.chip.overlay.queue = s.chip.overlay.queue ++ list
          ∧ t.chip.overlay.loadWord = s.chip.overlay.loadWord ∧ t.chip.overlay.limits = s.chip.overlay.limits
          ∧ t.chip.link = s.chip.link.answered snap (4 + filler) ⟨.ok, 0x06#8, []⟩)
      ∧ (∀ p rest i a, s.chip.overlay.queue = [] → list = p :: rest → s.chip.servedAt p 0 = some (i, a) →
        ∃ t, exec (.discard pages filler) s = .next t ∧ s.changesOnly [.overlay, .bus, .link] t ∧ marked t
          ∧ t.chip.overlay.queue = list
          ∧ t.chip.overlay.loadWord = i ∧ t.chip.overlay.limits = s.chip.overlay.limits
          ∧ t.chip.bus = s.chip.busAfter { s.chip.bus with requestL := some ⟨a, .read⟩ }
          ∧ t.chip.link = s.chip.link.answered snap (4 + filler) ⟨.ok, 0x06#8, []⟩))

/-- The engine begins the oldest append (R137): a record that can be written takes slot (head − 1) mod C. Its kind word is
first written with the kind VOID, then come the 13 fields of its kind (R135; 11_formats.md section 11.3), the sequence
number and the kind word itself (R133, R138). A TRIM_CHANGE begins with the take of its page word and the read of the old
value, and its record follows when that has been read (R149, R118). What has waited longest for a place joins the queue at
the place the append leaves, and the rest goes as if it had stood there, whether the append can be written or not: an append
as it is, a TAMPER that a pass waits for letting the pass go on (R136, R171, R162, R165), an ARCHIVED as its mark, its
claim, its ARCHIVE_MARK and its reply OK (R144). That it joins before the record is tested is the model's reading (log entry
24). That the first read of a pass that goes on and the append's own first transfer stand under one arbitration is the
model's choice (log entry 21). That a pass which goes on presents its read even while one that S has given up is in flight
is the model's choice (log entry 35). -/
def Obligations.AppendBeginsItsRecord : Prop :=
  ∀ (s : State) (q : AppendRequest) (place : Placement), s.chip.map.record = some place →
    let slot : Addr := place.base + BitVec.ofNat 24 (32 * ((s.chip.engine.head - 1) % s.chip.capacity))
    let seq : DWord := BitVec.ofNat 32 s.chip.engine.head
    let lo (d : DWord) : Word := d.extractLsb' 0 16
    let hi (d : DWord) : Word := d.extractLsb' 16 16
    let num (n : Nat) : Word := BitVec.ofNat 16 n
    let set (w : WindowSet) : DWord := w.zeroExtend 32
    let reference (r : Option DWord) : List Word := match r with
      | some d => [lo d, hi d, 0#16]
      | none => [0#16, 0#16, 1#16]
    let writes (code aux : Nat) (fields : List Word) : List (Addr × Word) :=
      [(slot, 0#16)] ++ (List.range 13).map (fun i => (slot + BitVec.ofNat 24 (2 * (i + 1)), fields.getD i 0#16))
        ++ [(slot + 0x1C#24, lo seq), (slot + 0x1E#24, hi seq), (slot, BitVec.ofNat 8 aux ++ BitVec.ofNat 8 code)]
    let row : Option (Nat × Nat × List Word) := match q.kind with
      | .grantBegin level workshop time scope duration idle =>
        some (0x01, (match level with | .adjust => 1 | .reflash => 2 | .factory => 3),
          [lo workshop, hi workshop, lo time, hi time, lo (set scope), hi (set scope), num duration, num idle])
      | .grantEnd reason workshop elapsed count rewritten clamped begun time =>
        some (0x02,
          [EndReason.none, .revoked, .expired, .idle, .suspendTimeout, .motion, .lockout, .tamper, .ignition, .reset,
            .recordsFull, .powerLoss].idxOf reason,
          [lo workshop, hi workshop, num elapsed, num count, lo (set rewritten), hi (set rewritten), num clamped,
            lo (BitVec.ofNat 32 begun), hi (BitVec.ofNat 32 begun), lo time, hi time])
      | .windowOpened w workshop ref => some (0x03, w.val, [lo workshop, hi workshop] ++ reference ref)
      | .windowSum w cause sum =>
        some (0x04, w.val,
          [num (match cause with
            | .reflash => 1 | .commit => 2 | .rebase => 3 | .interruptedReflash => 4 | .rollback => 5)]
            ++ reference s.chip.scanner.references[w] ++ [lo sum, hi sum])
      | .commitBegin pages words => some (0x05, 0, [pages.zeroExtend 16, num words])
      | .trimChange _ _ => none
      | .commitEnd outcome words =>
        some (0x07, 0, [num (match outcome with | .none => 0 | .done => 1 | .rolledBack => 2), num words])
      | .tamper w expected sum => some (0x08, w.val, reference expected ++ [lo sum, hi sum])
      | .lockoutBegin strikes threshold => some (0x09, 0, [num strikes, num threshold])
      | .lockoutEnd strikes threshold => some (0x0A, 0, [num strikes, num threshold])
      | .archiveMark n => some (0x0B, 0, [lo (BitVec.ofNat 32 n), hi (BitVec.ofNat 32 n)])
    (∀ rest : List AppendRequest, s.calm → s.chip.engine.progress = none → s.chip.supply.startUp.phase = .ended →
      s.chip.engine.waiting = [] → s.chip.engine.queue = q :: rest → s.chip.engine.head < 0xFFFFFFFF →
      (q.claimed = true → s.chip.engine.head - 1 - s.chip.engine.mark < s.chip.capacity) →
      (q.claimed = false → 1 ≤ s.chip.freeSlots) →
      (∀ code aux fields, row = some (code, aux, fields) →
        ∃ t, exec .appendBegin s = .next t ∧ s.changesOnly [.bus, .engine] t
          ∧ t.chip.engine = { s.chip.engine with
              queue := rest, progress := some ⟨q, none, .slot (writes code aux fields)⟩ }
          ∧ t.chip.bus = s.chip.busAfter { s.chip.bus with requestR := some ⟨slot, .write true true 0#16⟩ })
      ∧ (∀ (p : PageNo) (n : Nat) (w : Win), q.kind = .trimChange p n → s.chip.map.bindings[p] = some w →
          (s.chip.overlay.pages[p].word n).loaded = true →
        let word : PageWord := s.chip.overlay.pages[p].word n
        let address : Addr := s.chip.map.descriptors[w].base + BitVec.ofNat 24 (2 * n)
        ∃ t, exec .appendBegin s = .next t ∧ s.changesOnly [.bus, .engine, .overlay] t
          ∧ t.chip.engine = { s.chip.engine with
              queue := rest
              progress := some ⟨q, some ⟨w, address, word.value, word.clamped, s.chip.grant.record.elapsed⟩, .readOld⟩ }
          ∧ t.chip.overlay.pages[p].word n = ⟨word.value, word.value, true, false, false⟩
          ∧ (∀ (u : PageNo) (m : Nat), (u, m) ≠ (p, n) →
              t.chip.overlay.pages[u].word m = s.chip.overlay.pages[u].word m)
          ∧ (∀ u : PageNo, t.chip.overlay.pages[u].state = s.chip.overlay.pages[u].state)
          ∧ t.chip.overlay.queue = s.chip.overlay.queue ∧ t.chip.overlay.loadWord = s.chip.overlay.loadWord
          ∧ t.chip.overlay.limits = s.chip.overlay.limits
          ∧ t.chip.bus = s.chip.busAfter { s.chip.bus with requestR := some ⟨address, .read⟩ }))
    ∧ (∀ (rest : List AppendRequest) (x : Waiter) (more : List Waiter), s.calm → s.chip.engine.progress = none →
        s.chip.supply.startUp.phase.usesR = false → s.chip.engine.queue = q :: rest →
        s.chip.engine.waiting = x :: more →
      let asJoined (y : AppendRequest) (c : Chip) : Prop := ∃ t u,
        exec .appendBegin s = .next t
        ∧ exec .appendBegin { s with chip :=
            { c with engine := { c.engine with queue := q :: rest ++ [y], waiting := [] } } } = .next u
        ∧ t = { u with chip := { u.chip with engine := { u.chip.engine with waiting := more ++ u.chip.engine.waiting } } }
      (∀ y, x = .append y →
        (∀ w expected sum left, y.kind = .tamper w expected sum →
          s.chip.scanner.pass ≠ some ⟨left, .joining y.ticket⟩) →
        asJoined y s.chip)
      ∧ (∀ y w expected sum, x = .append y → y.kind = .tamper w expected sum →
        (s.chip.scanner.pass = some ⟨[], .joining y.ticket⟩ →
          asJoined y { s.chip with
            scanner := { s.chip.scanner with
              pass := none
              passCount := s.chip.scanner.passCount + 1
              cycleChecked := s.chip.scanner.cycleChecked || decide (s.chip.supply.power = .active) }
            link := { s.chip.link with notices := s.chip.link.notices ||| 0x0004#16 } })
        ∧ ∀ v vs, s.chip.scanner.pass = some ⟨v :: vs, .joining y.ticket⟩ →
            (s.chip.scanner.queue ≠ [] ∨ s.chip.scanner.sum ≠ none →
              asJoined y { s.chip with scanner := { s.chip.scanner with pass := some ⟨v :: vs, .between⟩ } })
            ∧ ∀ i, s.chip.scanner.queue = [] → s.chip.scanner.sum = none → s.chip.skips v = false →
                s.chip.map.ownedAt v 0 = some i →
                asJoined y { s.chip with
                  scanner := { s.chip.scanner with
                    pass := some ⟨vs, .summing v⟩, sum := some ⟨v, i, 1#16, 0#16, .pass⟩ }
                  bus := { s.chip.bus with requestS := some ⟨s.chip.map.wordOf v i, .read⟩ } })
      ∧ ∀ n, x = .archived n → s.chip.engine.mark < n → n ≤ s.chip.engine.head - 1 →
          s.chip.link.reply.code = .pending → s.chip.link.reply.echo = 0x0A#8 →
          asJoined ⟨.archiveMark n, .link, true, 0⟩ { s.chip with
            engine := { s.chip.engine with mark := n, claimed := s.chip.engine.claimed + 1 }
            link := { s.chip.link with reply := ⟨.ok, 0x0A#8, []⟩ } })
    ∧ ∀ (tr : Transfer) (p : PageNo) (n : Nat) (k : Taken), s.supplied = true → s.chip.staysUp → tr.action = .read →
        s.chip.bus.memPort = .busy .R tr true → s.chip.bus.requestR = none → q.kind = .trimChange p n →
        s.chip.engine.progress = some ⟨q, some k, .readOld⟩ →
        ∃ t, exec (.memoryTransferComplete none) s = .next t ∧ s.changesOnly [.bus, .engine] t
          ∧ t.chip.engine = { s.chip.engine with progress := some ⟨q, some k, .slot (writes 0x06 k.window.val
              [num n, s.memory.readWord tr.address, k.value, if k.clamped then 1#16 else 0#16, num k.elapsed])⟩ }
          ∧ t.chip.bus =
              if s.chip.bus.requestP = none ∧ s.chip.bus.burst < 8 then
                { s.chip.bus with
                  memPort := .busy .R ⟨slot, .write true true 0#16⟩ true
                  starvation := 0
                  burst := s.chip.bus.burst + 1 }
              else s.chip.busAfter { s.chip.bus with
                memPort := .free, requestR := some ⟨slot, .write true true 0#16⟩ }

/-- An append that cannot be written, at the highest head, unclaimed with no free slot or claimed over an unarchived area,
completes at once as not written (R137): the head and the area stay, a claimed one gives its claim back, and RECORDS_FULL is
set. Every append but GRANT_BEGIN then sends the records-full cause: it ends a grant in force with RECORDS_FULL, and is the
pending end reason of one in OPENING that has none (R75, R76). Its requester is told: a WINDOW_OPENED fails its window and
drops the held write (R99, R11); a closing WINDOW_SUM marks its window, and after an adoption's the pass goes on, by R162
and R165, the mark and the reference as they were (R164); REBASE goes on to its next window (R173); nobody waits for the
records of tamper, lockout and the archive mark; the commit sequencer goes on to its next request, an untaken word staying
as it was (R149–R151), and COMMIT_END finishes the commit; a GRANT_END ends its grant (R80); and a GRANT_BEGIN takes its
grant back to IDLE with the reply NO_SPACE (R67). That a pass which goes on beside a grant draws a free value is the model's
own (log entry 6). With requests waiting for a place AppendBeginsItsRecord says what joins first. That a pass which goes on
presents its read even while one that S has given up is in flight is the model's choice (log entry 35). -/
def Obligations.AppendThatCannotBeWritten : Prop :=
  ∀ (s : State) (q : AppendRequest) (rest : List AppendRequest), s.calm → s.chip.engine.progress = none →
    s.chip.supply.startUp.phase = .ended → s.chip.engine.waiting = [] → s.chip.engine.queue = q :: rest →
    rest.length < 8 →
    (s.chip.engine.head ≥ 0xFFFFFFFF ∨ (q.claimed = false ∧ s.chip.freeSlots = 0)
      ∨ (q.claimed = true ∧ s.chip.capacity ≤ s.chip.engine.head - 1 - s.chip.engine.mark)) →
    let engine : RecordEngine := { s.chip.engine with
      queue := rest, claimed := if q.claimed then s.chip.engine.claimed - 1 else s.chip.engine.claimed }
    let full : Word := s.chip.link.notices ||| 0x0080#16
    let g : GrantRecord := s.chip.grant.record
    let inForce : Prop := s.chip.grant.state = .active ∨ s.chip.grant.state = .suspended
    let other : GrantController :=
      if s.chip.grant.state = .opening ∧ g.pendingEnd = none then
        { s.chip.grant with record := { g with pendingEnd := some .recordsFull } }
      else s.chip.grant
    let ended : GrantRecord := { g with endReason := some .recordsFull, suspendRemaining := none }
    let closing (reason : EndReason) : AppendRequest :=
      ⟨.grantEnd reason g.workshop g.elapsed g.commitCount 0#24 g.clamped g.beginSeq g.timeStamp, .grant, false, 0⟩
    let caused (t : State) : Prop :=
      (¬ inForce → t.chip.grant = other ∧ t.chip.overlay = s.chip.overlay ∧ t.chip.engine = engine)
      ∧ (inForce → t.chip.grant = s.chip.grantEnded .recordsFull ∧ s.chip.overlayEnded t.chip.overlay
        ∧ (s.chip.engine.commit = none → g.rewritten = 0#24 →
            t.chip.engine = { engine with queue := rest ++ [closing .recordsFull] })
        ∧ (s.chip.engine.commit ≠ none ∨ g.rewritten ≠ 0#24 → t.chip.engine = engine))
    let still (t : State) : Prop := ¬ inForce → t.chip.bus = s.chip.bus
    ((∃ w expected sum, q.kind = .tamper w expected sum) ∨ (∃ n m, q.kind = .lockoutBegin n m)
        ∨ (∃ n m, q.kind = .lockoutEnd n m) ∨ (∃ n, q.kind = .archiveMark n) → q.source ≠ .survey →
      ∃ t, exec .appendBegin s = .next t ∧ s.changesOnly [.engine, .link, .grant, .overlay, .bus] t
        ∧ caused t ∧ still t ∧ t.chip.link = { s.chip.link with notices := full })
    ∧ (∀ w sum, q.kind = .windowSum w .reflash sum → q.source = .grant →
      ∃ t, exec .appendBegin s = .next t ∧ s.changesOnly [.engine, .link, .scanner, .grant, .overlay, .bus] t
        ∧ caused t ∧ still t ∧ t.chip.link = { s.chip.link with notices := full }
        ∧ t.chip.scanner = { s.chip.scanner with marks := s.chip.scanner.marks ||| (1#24 <<< w.val) })
    ∧ (∀ w workshop ref y d, q.kind = .windowOpened w workshop ref → q.source = .adu →
        hasWin g.rewritten w = true → s.chip.bus.port = .held y .windowOpening →
        y.decision = some d → d.resolution.owner = .window w → y.direction = .write →
      ∃ t, exec .appendBegin s = .next t ∧ s.changesOnly [.engine, .link, .adu, .bus, .grant, .overlay] t
        ∧ caused t ∧ t.chip.link = { s.chip.link with notices := full }
        ∧ t.chip.adu = { s.chip.adu with announcements := s.chip.adu.announcements.set w (some .failed) }
        ∧ t.chip.bus.port = .done y none
        ∧ (¬ inForce → t.chip.bus = { s.chip.bus with port := .done y none }))
    ∧ (∀ w sum left, q.kind = .windowSum w .interruptedReflash sum → q.source = .scanner →
        s.chip.scanner.pass = some ⟨left, .adopting q.ticket⟩ →
      let starts : Prop := left ≠ [] ∧ s.chip.scanner.queue = [] ∧ s.chip.scanner.sum = none
      let first (v : Win) : Nat := (s.chip.map.ownedAt v 0).getD 0
      let read (v : Win) : Transfer := ⟨s.chip.map.wordOf v (first v), .read⟩
      (∀ v vs, left = v :: vs → starts → s.chip.skips v = false ∧ (s.chip.map.ownedAt v 0).isSome = true) →
      ∃ t, exec .appendBegin s = .next t ∧ s.changesOnly [.engine, .link, .scanner, .grant, .overlay, .bus, .draws] t
        ∧ caused t ∧ (¬ starts → still t)
        ∧ t.chip.link = { s.chip.link with notices := if left = [] then full ||| 0x0004#16 else full }
        ∧ t.chip.scanner = (match left with
          | [] => { s.chip.scanner with
              pass := none
              passCount := s.chip.scanner.passCount + 1
              cycleChecked := s.chip.scanner.cycleChecked || decide (s.chip.supply.power = .active) }
          | v :: vs =>
            if starts then { s.chip.scanner with
              pass := some ⟨vs, .summing v⟩, sum := some ⟨v, first v, 1#16, 0#16, .pass⟩ }
            else { s.chip.scanner with pass := some ⟨v :: vs, .between⟩ })
        ∧ ∀ v vs, left = v :: vs → starts →
            (t.chip.bus.requestS = some (read v) ∨ t.chip.bus.memPort = .busy .S (read v) true)
            ∧ (¬ inForce → t.chip.bus = s.chip.busAfter { s.chip.bus with requestS := some (read v) }))
    ∧ (∀ w sum left, q.kind = .windowSum w .rebase sum → q.source = .scanner →
        s.chip.scanner.rebase = some (w :: left) →
      ∃ t, exec .appendBegin s = .next t ∧ s.changesOnly [.engine, .link, .scanner, .grant, .overlay, .bus] t
        ∧ caused t ∧ still t
        ∧ (left = [] → t.chip.scanner = { s.chip.scanner with rebase := none }
          ∧ t.chip.link = { s.chip.link with notices := full ||| 0x0010#16 })
        ∧ ∀ v more, left = v :: more →
            t.chip.scanner = { s.chip.scanner with rebase := some left, queue := t.chip.scanner.queue }
            ∧ sumJoins v .rebase s.chip.scanner.queue t.chip.scanner.queue
            ∧ t.chip.link = { s.chip.link with notices := full })
    ∧ (∀ run, s.chip.engine.commit = some run → q.source = .commit →
      let granted : GrantController :=
        if s.chip.grant.state = .active ∨ s.chip.grant.state = .suspended then
          { s.chip.grant with state := .ending, step := .commit, record := ended }
        else other
      let next (todo : List (PageNo × Nat)) : AppendRequest := match todo with
        | (p, n) :: _ => ⟨.trimChange p n, .commit, true, 0⟩
        | [] => ⟨.commitEnd .done run.written, .commit, true, 0⟩
      ((∃ pages n, q.kind = .commitBegin pages n) ∨ (∃ w sum, q.kind = .windowSum w .commit sum) →
        ∃ t, exec .appendBegin s = .next t ∧ s.changesOnly [.engine, .link, .grant] t
          ∧ t.chip.grant = granted ∧ t.chip.link = { s.chip.link with notices := full }
          ∧ t.chip.engine = { engine with queue := rest ++ [next run.todo] })
      ∧ (∀ p n w more, q.kind = .trimChange p n → run.todo = (p, n) :: more → s.chip.map.bindings[p] = some w →
        ∃ t, exec .appendBegin s = .next t ∧ s.changesOnly [.engine, .link, .grant, .scanner] t
          ∧ t.chip.grant = granted ∧ t.chip.link = { s.chip.link with notices := full }
          ∧ (∀ m others, more = (p, m) :: others → t.chip.scanner = s.chip.scanner
            ∧ t.chip.engine = { engine with
                commit := some { run with todo := more }, queue := rest ++ [next more] })
          ∧ ((∀ m others, more ≠ (p, m) :: others) →
              t.chip.scanner = { s.chip.scanner with queue := t.chip.scanner.queue }
              ∧ sumJoins w .commit s.chip.scanner.queue t.chip.scanner.queue
              ∧ t.chip.engine = { engine with commit := some { run with todo := more } }))
      ∧ (∀ outcome n, q.kind = .commitEnd outcome n → inForce ∨ s.chip.grant.state = .ending →
        let finished : RecordEngine := { engine with commit := none, lastOutcome := .done, lastWords := run.written }
        let reason : EndReason :=
          if s.chip.grant.state = .ending then g.endReason.getD .none else .recordsFull
        ∃ t, exec .appendBegin s = .next t ∧ s.changesOnly [.engine, .link, .grant, .overlay, .bus] t
          ∧ t.chip.grant.state = .ending
          ∧ t.chip.grant.record = (if s.chip.grant.state = .ending then g else ended)
          ∧ (∀ p : PageNo, t.chip.overlay.pages[p]
              = if s.chip.overlay.pages[p].state = .unbound ∨ s.chip.overlay.pages[p].state = .closed then
                  s.chip.overlay.pages[p]
                else ⟨.closed, []⟩)
          ∧ (g.rewritten = 0#24 → t.chip.engine = { finished with queue := rest ++ [closing reason] })
          ∧ (g.rewritten ≠ 0#24 → t.chip.engine = finished)
          ∧ t.chip.link = { s.chip.link with notices := full ||| 0x0002#16 }))
    ∧ (∀ reason reason' workshop elapsed count rewritten clamped seq time,
        q.kind = .grantEnd reason workshop elapsed count rewritten clamped seq time → q.source = .grant →
        s.chip.grant.state = .ending → g.endReason = some reason' →
      ∃ t, exec .appendBegin s = .next t ∧ s.changesOnly [.engine, .link, .grant, .adu] t
        ∧ t.chip.engine = engine
        ∧ t.chip.grant = { s.chip.grant with state := .idle, record := .empty, step := .none, lastEnd := reason' }
        ∧ t.chip.adu.refusals = s.chip.adu.refusals ∧ (∀ w : Win, t.chip.adu.announcements[w] = none)
        ∧ t.chip.link = { s.chip.link with notices := full ||| 0x0001#16 })
    ∧ (∀ l workshop time scope duration idleChoice,
        q.kind = .grantBegin l workshop time scope duration idleChoice → q.source = .grant →
        s.chip.grant.state = .opening → s.chip.link.reply.code = .pending → s.chip.link.reply.echo = 0x02#8 →
      ∃ t, exec .appendBegin s = .next t ∧ s.changesOnly [.engine, .grant, .adu, .link] t
        ∧ t.chip.engine = engine
        ∧ t.chip.grant = { s.chip.grant with state := .idle, record := .empty, step := .none }
        ∧ t.chip.adu.refusals = s.chip.adu.refusals ∧ (∀ w : Win, t.chip.adu.announcements[w] = none)
        ∧ t.chip.link = { s.chip.link with notices := full, reply := ⟨.noSpace, 0x02#8, []⟩ })

/-- COMMIT (R147, R148, R141). The first check that fails gives the reply, and nothing else changes: NO_GRANT, MOTION,
BADARG, BUSY, NO_SPACE. A request that passes with dirty words is accepted: its pages enter COMMITTING, D + P + 2 slots are
claimed, and COMMIT_BEGIN is queued; without any it is done at once. The take list holds exactly the dirty served words of
the named pages, ascending by page and page word. -/
def Obligations.CommitIsAcceptedOrDoneAtOnce : Prop :=
  ∀ (s : State) (pages : PageSet) (filler : Nat) (snap : Snapshot), s.calm → s.chip.listening snap →
    let list : List (PageNo × Nat) := s.chip.takeList pages
    let taken (p : PageNo) (n : Nat) : Prop := hasPage pages p = true ∧ n < 1024
      ∧ (s.chip.overlay.pages[p].word n).dirty = true
      ∧ ∃ w, s.chip.map.bindings[p] = some w ∧ n < 2 ^ (s.chip.map.descriptors[w].exponent - 1)
        ∧ s.chip.map.ownerOf (s.chip.map.descriptors[w].base + BitVec.ofNat 24 (2 * n)) = .window w
    let holding : Nat := ((List.finRange 8).filter fun p => (list.map Prod.fst).contains p).length
    let space : Nat := list.length + holding + 2
    let refusal : Option ResultCode :=
      if s.chip.grant.state ≠ .active ∧ s.chip.grant.state ≠ .suspended then some .noGrant
      else if s.chip.grant.state = .suspended then some .motion
      else if pages = 0#8 ∨ (∃ p : PageNo, hasPage pages p = true ∧ (s.chip.overlay.pages[p].state ≠ .opened
          ∨ ∀ w : Win, s.chip.map.bindings[p] = some w → hasWin s.chip.grant.record.scope w = false)) then some .badArg
      else if s.chip.engine.commit ≠ none then some .busy
      else if s.chip.freeSlots < space + 8 then some .noSpace
      else none
    (∀ p n, (p, n) ∈ list ↔ taken p n)
    ∧ list.Pairwise (fun x y => x.1 < y.1 ∨ (x.1 = y.1 ∧ x.2 < y.2))
    ∧ (∀ code, refusal = some code →
      ∃ t, exec (.commit pages filler) s = .next t ∧ s.changesOnly [.link] t
        ∧ t.chip.link = s.chip.link.answered snap (4 + filler) ⟨code, 0x05#8, []⟩)
    ∧ (refusal = none → list ≠ [] → s.chip.engine.queue.length < 8 →
      ∃ t, exec (.commit pages filler) s = .next t ∧ s.changesOnly [.engine, .overlay, .link] t
        ∧ t.chip.engine = { s.chip.engine with
            commit := some ⟨pages, list, list, 0⟩
            claimed := s.chip.engine.claimed + space
            queue := s.chip.engine.queue ++ [⟨.commitBegin pages list.length, .commit, true, 0⟩] }
        ∧ (∀ p : PageNo, t.chip.overlay.pages[p] =
            if hasPage pages p then { s.chip.overlay.pages[p] with state := .committing } else s.chip.overlay.pages[p])
        ∧ t.chip.overlay.queue = s.chip.overlay.queue ∧ t.chip.overlay.limits = s.chip.overlay.limits
        ∧ t.chip.overlay.loadWord = s.chip.overlay.loadWord
        ∧ t.chip.link = { s.chip.link.answered snap (4 + filler) ⟨.ok, 0x05#8, []⟩ with notices :=
            if 64 ≤ s.chip.freeSlots ∧ s.chip.freeSlots < 64 + space then s.chip.link.notices ||| 0x0040#16
            else s.chip.link.notices })
    ∧ (refusal = none → list = [] →
      ∃ t, exec (.commit pages filler) s = .next t ∧ s.changesOnly [.engine, .link] t
        ∧ t.chip.engine = { s.chip.engine with lastOutcome := .done, lastWords := 0 }
        ∧ t.chip.link = { s.chip.link.answered snap (4 + filler) ⟨.ok, 0x05#8, []⟩ with
            notices := s.chip.link.notices ||| 0x0002#16 })

/-- ARCHIVED (R144): a number at or below the mark or above the head minus one is BADARG and changes nothing; otherwise,
with a place in the append queue, the mark becomes n, a slot is claimed and ARCHIVE_MARK is queued; without a place the
request waits, PENDING; when the engine begins an append and a place comes free it is taken then, with the reply OK, here
beside the beginning of any writable append but a TRIM_CHANGE (R136, R137). That it is taken before that append's record is
tested is the model's reading (log entry 24). -/
def Obligations.ArchivedMovesTheMark : Prop :=
  (∀ (s : State) (n : DWord) (filler : Nat) (snap : Snapshot), s.calm → s.chip.listening snap →
    (n.toNat ≤ s.chip.engine.mark ∨ s.chip.engine.head - 1 < n.toNat →
      ∃ t, exec (.archived n filler) s = .next t ∧ s.changesOnly [.link] t
        ∧ t.chip.link = s.chip.link.answered snap (7 + filler) ⟨.badArg, 0x0A#8, []⟩)
    ∧ (s.chip.engine.mark < n.toNat → n.toNat ≤ s.chip.engine.head - 1 → s.chip.engine.queue.length < 8 →
      ∃ t, exec (.archived n filler) s = .next t ∧ s.changesOnly [.engine, .link] t
        ∧ t.chip.engine = { s.chip.engine with
            mark := n.toNat
            claimed := s.chip.engine.claimed + 1
            queue := s.chip.engine.queue ++ [⟨.archiveMark n.toNat, .link, true, 0⟩] }
        ∧ s.chip.freeSlots ≤ t.chip.freeSlots
        ∧ t.chip.link = s.chip.link.answered snap (7 + filler) ⟨.ok, 0x0A#8, []⟩)
    ∧ (s.chip.engine.mark < n.toNat → n.toNat ≤ s.chip.engine.head - 1 → 8 ≤ s.chip.engine.queue.length →
      ∃ t, exec (.archived n filler) s = .next t ∧ s.changesOnly [.engine, .link] t
        ∧ t.chip.engine = { s.chip.engine with waiting := s.chip.engine.waiting ++ [.archived n.toNat] }
        ∧ t.chip.link = s.chip.link.answered snap (7 + filler) ⟨.pending, 0x0A#8, []⟩))
  ∧ ∀ (s : State) (q : AppendRequest) (rest : List AppendRequest) (n : Nat), s.calm →
      s.chip.engine.waiting = [.archived n] → s.chip.engine.progress = none → s.chip.supply.startUp.phase = .ended →
      s.chip.engine.queue = q :: rest → s.chip.engine.mark < n → n ≤ s.chip.engine.head - 1 →
      s.chip.link.reply.code = .pending → s.chip.link.reply.echo = 0x0A#8 → (∀ p m, q.kind ≠ .trimChange p m) →
      s.chip.engine.head < 0xFFFFFFFF → (q.claimed = true → s.chip.engine.head - 1 - n < s.chip.capacity) →
      (q.claimed = false → 1 ≤ s.chip.freeSlots) →
      ∃ t stage, exec .appendBegin s = .next t ∧ s.changesOnly [.bus, .engine, .link] t
        ∧ t.chip.engine = { s.chip.engine with
            mark := n
            claimed := s.chip.engine.claimed + 1
            queue := rest ++ [⟨.archiveMark n, .link, true, 0⟩]
            waiting := []
            progress := some ⟨q, none, stage⟩ }
        ∧ t.chip.link = { s.chip.link with reply := ⟨.ok, 0x0A#8, []⟩ }

/-! ## The Integrity Scanner -/

/-- The periodic expiry in ACTIVE (R166): with a pass running only the timer returns to zero; with none a pass starts, here
with the sum of the scan group's first window (R160, R162). The row applies while the timer stands at the period: the
model's choice (log entry 10). RESCAN outside ACTIVE is NOT_READY and changes nothing; in ACTIVE with no pass running it
starts one, and with a window being summed it discards that sum and starts over (R167). A pass that waited between two
windows goes on once no sum request waits or is in progress; a window in the rewritten-window set is SKIPPED (R162, R163).
That the row changes nothing before that is the model's choice (log entry 8). That a sum's first read is presented while a
read that S has given up is in flight is the model's choice (log entry 35). -/
def Obligations.PassesStartGoOnAndStartOver : Prop :=
  (∀ (s : State), s.calm → s.chip.supply.power = .active → s.chip.params.scanPeriod ≠ 0 →
      60 * s.chip.params.scanPeriod ≤ s.chip.scanner.timer →
      (s.chip.scanner.pass ≠ none →
        ∃ t, exec .periodicScanExpiry s = .next t ∧ s.changesOnly [.scanner] t
          ∧ t.chip.scanner = { s.chip.scanner with timer := 0 })
      ∧ (∀ w ws i, s.chip.scanner.pass = none → s.chip.map.scanGroup = w :: ws → s.chip.scanner.queue = [] →
        s.chip.scanner.sum = none → s.chip.skips w = false → s.chip.map.ownedAt w 0 = some i →
        ∃ t, exec .periodicScanExpiry s = .next t ∧ s.changesOnly [.scanner, .bus] t
          ∧ t.chip.scanner = { s.chip.scanner with
              timer := 0
              pass := some ⟨ws, .summing w⟩
              sum := some ⟨w, i, 1#16, 0#16, .pass⟩ }
          ∧ t.chip.bus = s.chip.busAfter { s.chip.bus with requestS := some ⟨s.chip.map.wordOf w i, .read⟩ }))
  ∧ (∀ (s : State) (filler : Nat) (snap : Snapshot), s.calm → s.chip.listening snap →
      (s.chip.supply.power ≠ .active →
        ∃ t, exec (.rescan filler) s = .next t ∧ s.changesOnly [.link] t
          ∧ t.chip.link = s.chip.link.answered snap (3 + filler) ⟨.notReady, 0x07#8, []⟩)
      ∧ (∀ w ws i, s.chip.supply.power = .active → s.chip.scanner.queue = [] → s.chip.map.scanGroup = w :: ws →
        s.chip.skips w = false → s.chip.map.ownedAt w 0 = some i →
        ((s.chip.scanner.pass = none ∧ s.chip.scanner.sum = none)
          ∨ ∃ left v n a b, s.chip.scanner.pass = some ⟨left, .summing v⟩
              ∧ s.chip.scanner.sum = some ⟨v, n, a, b, .pass⟩) →
        (∀ tr live, s.chip.bus.memPort ≠ .busy .S tr live) →
        ∃ t, exec (.rescan filler) s = .next t ∧ s.changesOnly [.scanner, .bus, .link] t
          ∧ t.chip.scanner = { s.chip.scanner with
              timer := 0
              pass := some ⟨ws, .summing w⟩
              sum := some ⟨w, i, 1#16, 0#16, .pass⟩ }
          ∧ t.chip.bus = s.chip.busAfter { s.chip.bus with requestS := some ⟨s.chip.map.wordOf w i, .read⟩ }
          ∧ t.chip.link = s.chip.link.answered snap (3 + filler) ⟨.ok, 0x07#8, []⟩))
  ∧ ∀ (s : State) (w : Win) (ws : List Win), s.calm → s.chip.scanner.pass = some ⟨w :: ws, .between⟩ →
      (s.chip.scanner.queue ≠ [] ∨ s.chip.scanner.sum ≠ none →
        ∃ t, exec .passResume s = .next t ∧ s.changesOnly [] t)
      ∧ (∀ i, s.chip.scanner.queue = [] → s.chip.scanner.sum = none → s.chip.skips w = false →
        s.chip.map.ownedAt w 0 = some i →
        ∃ t, exec .passResume s = .next t ∧ s.changesOnly [.scanner, .bus] t
          ∧ t.chip.scanner = { s.chip.scanner with
              pass := some ⟨ws, .summing w⟩, sum := some ⟨w, i, 1#16, 0#16, .pass⟩ }
          ∧ t.chip.bus = s.chip.busAfter { s.chip.bus with requestS := some ⟨s.chip.map.wordOf w i, .read⟩ })
      ∧ (s.chip.scanner.queue = [] → s.chip.scanner.sum = none → hasWin s.chip.grant.record.rewritten w = true → ws = [] →
        ∃ t, exec .passResume s = .next t ∧ s.changesOnly [.scanner, .link] t
          ∧ t.chip.scanner = { s.chip.scanner with
              results := s.chip.scanner.results.set w ⟨.skipped, none⟩
              pass := none
              passCount := s.chip.scanner.passCount + 1
              cycleChecked := s.chip.scanner.cycleChecked || decide (s.chip.supply.power = .active) }
          ∧ t.chip.link = { s.chip.link with notices := s.chip.link.notices ||| 0x0004#16 })

/-- REBASE (R172, R173): refused by the first failing check; taken under an ACTIVE FACTORY grant, it asks for the sum of
the tamper set's lowest window, which merges with a request that waits for it (R169), or is done at once with an empty set. -/
def Obligations.RebaseAsksForTheTamperSet : Prop :=
  ∀ (s : State) (filler : Nat) (snap : Snapshot), s.calm → s.chip.listening snap →
    (∀ code : ResultCode,
      (if ¬ (s.chip.grant.state = .active ∨ s.chip.grant.state = .suspended) then some ResultCode.noGrant
       else if s.chip.grant.record.level ≠ some .factory then some .level
       else if s.chip.grant.state = .suspended then some .motion
       else if s.chip.scanner.rebase ≠ none then some .busy
       else none) = some code →
      ∃ t, exec (.rebase filler) s = .next t ∧ s.changesOnly [.link] t
        ∧ t.chip.link = s.chip.link.answered snap (3 + filler) ⟨code, 0x08#8, []⟩)
    ∧ (s.chip.grant.state = .active → s.chip.grant.record.level = some .factory → s.chip.scanner.rebase = none →
      (s.chip.scanner.tamper = 0#24 →
        ∃ t, exec (.rebase filler) s = .next t ∧ s.changesOnly [.link] t
          ∧ t.chip.link = { s.chip.link.answered snap (3 + filler) ⟨.ok, 0x08#8, []⟩ with
              notices := s.chip.link.notices ||| 0x0010#16 })
      ∧ (∀ w ws, winsOf s.chip.scanner.tamper = w :: ws →
        ∃ t, exec (.rebase filler) s = .next t ∧ s.changesOnly [.scanner, .link] t
          ∧ t.chip.scanner = { s.chip.scanner with rebase := some (w :: ws), queue := t.chip.scanner.queue }
          ∧ sumJoins w .rebase s.chip.scanner.queue t.chip.scanner.queue
          ∧ t.chip.link = s.chip.link.answered snap (3 + filler) ⟨.ok, 0x08#8, []⟩))

/-! ## The supply, START, ignition, dormancy and waking -/

/-- The loss of the supply ends all operation: the part is left at its power-on values with its pins, and memory keeps
every byte but those of a write in flight; a record whose kind word was in flight is not complete, or, at the last write,
whole (R21, R138, R158). The rise brings START with the gate closed, takes the fuse block, and presents the first image
read; the reply is EMPTY with the code of NOP, and of the notices only LOAD_FAULT may stand, for a fault of an anchor or of
the settle choice (R178, R190, R195, R200, R35). Without supply the part takes no command: only the levels on its pins
change. HOLD_PWR follows the conditions of R177, and ATTN_N the notice flags (R199); a part without supply drives neither.
The model's choices: what a part without supply holds and drives (log entry 16); that a cut-off write leaves all but its
own bytes alone (log entry 5); and that at the rise the map holds the fuse's image base, and the load-fault set the anchors'
faults, already (log entry 28, between R31 step 1 with R178 and R31's last paragraph). -/
def Obligations.SupplyLossAndRise : Prop :=
  ∀ s : State,
    let kept (m : Memory) : Prop :=
      (∀ a, (∀ who tr live, s.supplied = true → s.chip.bus.memPort = .busy who tr live → ¬ tr.writesTo a) →
        m.readByte a = s.memory.readByte a)
      ∧ ∀ q taken ws slot w live, s.memoryWf → s.supplied = true →
        s.chip.engine.progress = some ⟨q, taken, .slot ws⟩ →
        s.chip.bus.memPort = .busy .R ⟨slot, .write true true w⟩ live →
        (ws = [(slot, w)] → m.readWord slot = w ∨ m.readByte (wordAddress slot) = 0#8)
        ∧ (ws.length = 17 → m.readByte (wordAddress slot) = 0#8)
    (∃ t, exec .supplyLoss s = .next t ∧ t.pending = s.pending ∧ t.supplied = false ∧ t.fuse = s.fuse
      ∧ t.chip = .powerOn s.chip.pins t.chip.draws ∧ kept t.memory)
    ∧ (∃ t, exec .powerOnReset s = .next t ∧ t.pending = s.pending ∧ t.supplied = true ∧ t.fuse = s.fuse
      ∧ t.chip.pins = s.chip.pins ∧ t.chip.params = .default ∧ t.chip.monitor = .powerOn ∧ t.chip.grant = .powerOn
      ∧ t.chip.adu = ⟨[], .replicate 24 none⟩ ∧ t.chip.overlay = .powerOn ∧ t.chip.engine = .powerOn
      ∧ t.chip.scanner = .powerOn
      ∧ t.chip.map.imageBase = some (s.fuse.imageBase.extractLsb' 0 12 ++ 0#12)
      ∧ t.chip.bus = { BusPath.powerOn s.chip.pins.resetAsserted with
          memPort := .busy .R ⟨s.fuse.imageBase.extractLsb' 0 12 ++ 0#12, .read⟩ true, burst := 1 }
      ∧ t.chip.supply.power = .start ∧ t.chip.supply.filtered = .unsettled ∧ t.chip.supply.stability = true
      ∧ t.chip.supply.settleMs = (if s.fuse.settleChoice.toNat ≤ 4 then 2 ^ s.fuse.settleChoice.toNat else 16)
      ∧ (∀ (item : LoadItem) (k : FaultKind), (item, k) ∈ t.chip.map.loadFaults ↔
          (∃ (w : Win) (h : w.val < 4), item = .descriptor w ∧ (checkDescriptor s.fuse.anchors[w.val]).fault = some k)
          ∨ (4 < s.fuse.settleChoice.toNat ∧ item = .settleChoice ∧ k = .range))
      ∧ t.chip.link = {
          receiving := true
          transaction := none
          reply := ⟨.empty, 0x00#8, []⟩
          overrun := false
          notices := if t.chip.map.loadFaults = [] then 0#16 else 0x0100#16
          sdo := [] }
      ∧ kept t.memory)
    ∧ (∀ i : Instr, s.supplied = false → i ≠ .powerOnReset → i ≠ .supplyLoss →
      ∃ t, exec i s = .next t ∧ s.changesOnly [.pins] t)
    ∧ (s.holdPwr = true ↔ s.supplied = true ∧ (s.chip.supply.power = .start ∨ s.chip.supply.power = .afterRun
        ∨ s.chip.supply.power = .waking ∨ s.chip.engine.waiting ≠ [] ∨ s.chip.engine.queue ≠ []
        ∨ s.chip.engine.progress ≠ none ∨ s.chip.engine.commit ≠ none ∨ s.chip.grant.state = .ending
        ∨ s.chip.scanner.rebase ≠ none))
    ∧ (s.attention = true ↔ s.supplied = true ∧ s.chip.link.notices ≠ 0#16)

/-- START ends once the survey has ended and the ignition filter has settled (R182): START leaves the gate's set; with the
level ON the part enters ACTIVE and a scan pass starts, which completes at once over an empty scan group and else begins
with the sum of its first window (R162, R165); with OFF it enters AFTER_RUN. A GATED cycle is then decided, if that opens
the gate (R9). That the scan's first read and the memory-port request of that cycle stand under one arbitration, at the end
of the command, so that a FREE port goes to P by R15, is the model's choice (log entry 21). That the row changes nothing
before START can end, or after it, is the model's choice (log entry 8). That the pass's first read is presented even while a
read that S has given up is in flight is the model's choice (log entry 35). -/
def Obligations.StartEndOpensTheGate : Prop :=
  (∀ (s : State), s.calm → s.chip.supply.power ≠ .start ∨ s.chip.supply.startUp.phase ≠ .ended
      ∨ s.chip.supply.filtered = .unsettled →
    ∃ t, exec .startEnd s = .next t ∧ s.changesOnly [] t)
  ∧ ∀ (s : State), s.calm → s.chip.supply.power = .start → s.chip.supply.startUp.phase = .ended →
    s.chip.grant.state = .idle → s.chip.scanner.sum = none →
    let bus : BusPath := { s.chip.bus with gate := { s.chip.bus.gate with start := false } }
    let active : Supply := { s.chip.supply with power := .active, dormancy := none }
    (s.chip.supply.filtered = .on → s.chip.map.scanGroup = [] →
      s.opensTo .startEnd { s.chip with
        bus := bus
        supply := active
        scanner := s.chip.scanner.passStarted true [] 0
        link := { s.chip.link with notices := s.chip.link.notices ||| 0x0004#16 } })
    ∧ (∀ w ws i, s.chip.supply.filtered = .on → s.chip.map.scanGroup = w :: ws → s.chip.scanner.queue = [] →
      s.chip.skips w = false → s.chip.map.ownedAt w 0 = some i →
      s.opensTo .startEnd { s.chip with
        bus := { bus with requestS := some ⟨s.chip.map.wordOf w i, .read⟩ }
        supply := active
        scanner := s.chip.scanner.passStarted true (w :: ws) i })
    ∧ (s.chip.supply.filtered = .off →
      s.opensTo .startEnd { s.chip with
        bus := bus
        supply := { s.chip.supply with power := .afterRun, dormancy := some 0 }
        scanner := { s.chip.scanner with timer := 0, pass := none, cycleChecked := false } })

/-- A change of the IGNITION input restarts the stability interval (R176). When the interval completes, the filtered level
takes the input; the first settling and a level unchanged are no event. OFF in ACTIVE enters AFTER_RUN (R183): the scanner
leaves ACTIVE, a running pass is abandoned, and the sum it has in progress is dropped, its request withdrawn or its read
discarded (R168); a grant in force ends with IGNITION, which is the pending end reason of one in OPENING that has none (R75,
R76). ON in AFTER_RUN goes back to ACTIVE: the dormancy delay stops and a scan pass starts, here with the sum of the scan
group's first window, while the grant goes on as it was (R184); and ON in DORMANT starts a wake (R187). That the pass's
first read is presented while a read that S has given up is in flight is the model's choice (log entry 35). -/
def Obligations.IgnitionFilterMovesThePowerState : Prop :=
  ∀ (s : State), s.calm →
    (∀ level, ∃ t, exec (.ignitionInputChange level) s = .next t ∧ s.changesOnly [.pins, .supply] t
      ∧ t.chip.pins = { s.chip.pins with ignition := level }
      ∧ t.chip.supply =
          if s.chip.pins.ignition = level then s.chip.supply else { s.chip.supply with stability := true })
    ∧ (s.chip.supply.stability = true →
    let level : IgnitionLevel := match s.chip.pins.ignition with | .high => .on | .low => .off
    (s.chip.supply.filtered = .unsettled ∨ s.chip.supply.filtered = level ∨ s.chip.supply.power = .start
        ∨ s.chip.supply.power = .waking →
      ∃ t, exec .ignitionFilterComplete s = .next t ∧ s.changesOnly [.supply] t
        ∧ t.chip.supply = { s.chip.supply with stability := false, filtered := level })
    ∧ (s.chip.supply.filtered = .off → s.chip.pins.ignition = .high → s.chip.supply.power = .dormant →
      ∃ t, exec .ignitionFilterComplete s = .next t ∧ s.changesOnly [.supply, .bus] t
        ∧ t.chip.supply = { s.chip.supply with
            stability := false, filtered := .on, power := .waking, settling := true }
        ∧ t.chip.bus = { s.chip.bus with gate := { s.chip.bus.gate with waking := true } })
    ∧ (s.chip.supply.filtered = .on → s.chip.pins.ignition = .low → s.chip.supply.power = .active →
      s.chip.engine.queue.length < 8 →
      let passSum : Bool := match s.chip.scanner.sum with
        | some r => decide (r.purpose = .pass)
        | none => false
      let supply : Supply := { s.chip.supply with
        stability := false, filtered := .off, power := .afterRun, dormancy := some 0 }
      let scanner : Scanner := { s.chip.scanner with
        timer := 0, pass := none, cycleChecked := false, sum := if passSum then none else s.chip.scanner.sum }
      let g : GrantRecord := s.chip.grant.record
      let inForce : Prop := s.chip.grant.state = .active ∨ s.chip.grant.state = .suspended
      (¬ inForce →
        ∃ t, exec .ignitionFilterComplete s = .next t ∧ s.changesOnly [.supply, .scanner, .bus, .grant] t
          ∧ t.chip.supply = supply ∧ t.chip.scanner = scanner
          ∧ t.chip.grant =
              (if s.chip.grant.state = .opening ∧ g.pendingEnd = none then
                { s.chip.grant with record := { g with pendingEnd := some .ignition } }
              else s.chip.grant)
          ∧ t.chip.bus =
              if passSum then s.chip.busAfter { s.chip.bus with
                requestS := none
                memPort := match s.chip.bus.memPort with
                  | .busy .S tr _ => .busy .S tr false
                  | port => port }
              else s.chip.bus)
      ∧ (inForce →
        ∃ t, exec .ignitionFilterComplete s = .next t
          ∧ s.changesOnly [.supply, .scanner, .bus, .grant, .overlay, .engine] t
          ∧ t.chip.supply = supply ∧ t.chip.scanner = scanner
          ∧ t.chip.grant.state = .ending
          ∧ t.chip.grant.record = { g with endReason := some .ignition, suspendRemaining := none }
          ∧ t.chip.grant.strikes = s.chip.grant.strikes ∧ t.chip.grant.view = s.chip.grant.view
          ∧ (s.chip.engine.commit = none → g.rewritten = 0#24 →
              t.chip.engine = { s.chip.engine with queue := s.chip.engine.queue ++
                [⟨.grantEnd .ignition g.workshop g.elapsed g.commitCount 0#24 g.clamped g.beginSeq g.timeStamp,
                  .grant, false, 0⟩] })
          ∧ (s.chip.engine.commit ≠ none ∨ g.rewritten ≠ 0#24 → t.chip.engine = s.chip.engine)
          ∧ (passSum = true → t.chip.bus.requestS = none
              ∧ ∀ tr live, t.chip.bus.memPort = .busy .S tr live → live = false)))
    ∧ ∀ w ws i, s.chip.supply.filtered = .off → s.chip.pins.ignition = .high → s.chip.supply.power = .afterRun →
      s.chip.map.scanGroup = w :: ws → s.chip.scanner.queue = [] → s.chip.scanner.sum = none →
      s.chip.skips w = false → s.chip.map.ownedAt w 0 = some i →
      ∃ t, exec .ignitionFilterComplete s = .next t ∧ s.changesOnly [.supply, .scanner, .bus] t
        ∧ t.chip.supply = { s.chip.supply with
            stability := false, filtered := .on, power := .active, dormancy := none }
        ∧ t.chip.scanner = { s.chip.scanner with
            timer := 0, pass := some ⟨ws, .summing w⟩, sum := some ⟨w, i, 1#16, 0#16, .pass⟩ }
        ∧ t.chip.bus = s.chip.busAfter { s.chip.bus with requestS := some ⟨s.chip.map.wordOf w i, .read⟩ })

/-- The dormancy delay runs out in AFTER_RUN (R185, R186): with no work in flight, both ports quiet and SEL_N deasserted the
part enters DORMANT, the channels halt and the receiver stops; while a transaction is in progress it stays. How the delay
stands for its 500 ms is the model's choice (log entry 17). The settle time ends (R188): WAKING leaves the gate's set, the
receiver starts, the monitor restarts from its power-on values and tells the Grant Controller what has changed (R59), and
with the filtered level OFF the part enters AFTER_RUN with the delay from 0; with ON it enters ACTIVE and a scan pass
starts, which completes at once over an empty scan group and else begins with the sum of its first window (R162, R165). A
GATED cycle is then decided, if that opens the gate (R9). That the scan's first read and the memory-port request of that
cycle stand under one arbitration, at the end of the command, so that a FREE port goes to P by R15, is the model's choice
(log entry 21). That the pass's first read is presented even while a read that S has given up is in flight is the model's
choice (log entry 35). -/
def Obligations.DormancyAndTheEndOfAWake : Prop :=
  (∀ (s : State) (d : Nat), s.calm → s.chip.supply.power = .afterRun → s.chip.supply.dormancy = some d →
      (s.chip.workInFlight = false → s.chip.bus.port = .idle → s.chip.bus.memPort = .free ∨ s.chip.bus.memPort = .parked →
        s.chip.link.transaction = none →
        ∃ t, exec .dormancyDelayExpiry s = .next t ∧ s.changesOnly [.supply, .monitor, .link] t
          ∧ t.chip.supply = { s.chip.supply with power := .dormant, dormancy := none }
          ∧ t.chip.monitor = { s.chip.monitor with
              engine := { s.chip.monitor.engine with running := false }
              road := { s.chip.monitor.road with running := false }
              debounce := false }
          ∧ t.chip.link = { s.chip.link with receiving := false })
      ∧ (s.chip.link.transaction ≠ none →
        ∃ t, exec .dormancyDelayExpiry s = .next t ∧ s.changesOnly [.supply] t
          ∧ t.chip.supply = { s.chip.supply with dormancy := some (max d 500) }))
  ∧ ∀ (s : State), s.calm → s.chip.supply.settling = true → s.chip.grant.state = .idle → s.chip.scanner.sum = none →
      let bus : BusPath := { s.chip.bus with gate := { s.chip.bus.gate with waking := false } }
      let active : Supply := { s.chip.supply with power := .active, settling := false, dormancy := none }
      let link : Link := { s.chip.link with receiving := true }
      (s.chip.supply.filtered = .off →
        s.opensTo .settleTimeEnd { s.chip.monitorRestarted with
          bus := bus
          link := link
          supply := { s.chip.supply with power := .afterRun, settling := false, dormancy := some 0 }
          scanner := { s.chip.scanner with timer := 0, pass := none, cycleChecked := false } })
      ∧ (s.chip.supply.filtered = .on → s.chip.map.scanGroup = [] →
        s.opensTo .settleTimeEnd { s.chip.monitorRestarted with
          bus := bus
          link := { link with notices := s.chip.link.notices ||| 0x0004#16 }
          supply := active
          scanner := s.chip.scanner.passStarted true [] 0 })
      ∧ ∀ w ws i, s.chip.supply.filtered = .on → s.chip.map.scanGroup = w :: ws → s.chip.scanner.queue = [] →
          s.chip.skips w = false → s.chip.map.ownedAt w 0 = some i →
          s.opensTo .settleTimeEnd { s.chip.monitorRestarted with
            bus := { bus with requestS := some ⟨s.chip.map.wordOf w i, .read⟩ }
            link := link
            supply := active
            scanner := s.chip.scanner.passStarted true (w :: ws) i }

/-! ## The gateway link -/

/-- A transaction opens with a snapshot of the reply and the overrun flag, or with none while the receiver is STOPPED; one
that carries no request ends with nothing taken, FFh on SDO while it had no snapshot (R191, R192). NOP is taken in every
condition, a pending reply included, and changes nothing but what the transaction itself does to the link (R193 row 1,
R196). While a reply is PENDING every other request is lost: the overrun flag is set and the buffer keeps PENDING (R193 row
2, R196). In a transaction whose receiver was STOPPED at the fall no request is taken at all (R191). The model's choice
(log entry 11): TRANSACTION_END ends an open transaction with nothing taken whatever its operand, which stands for the bytes
clocked of one without a snapshot and means nothing where there is a snapshot. -/
def Obligations.TransactionsOpenAndEnd : Prop :=
  (∀ (s : State), s.calm →
      (s.chip.link.transaction = none →
        ∃ t, exec .transactionStart s = .next t ∧ s.changesOnly [.link] t
          ∧ t.chip.link = { s.chip.link with transaction :=
              if s.chip.link.receiving then some ⟨some ⟨s.chip.link.reply, s.chip.link.overrun⟩⟩ else some ⟨none⟩ })
      ∧ (∀ n, s.chip.link.transaction = some ⟨none⟩ →
        ∃ t, exec (.transactionEnd n) s = .next t ∧ s.changesOnly [.link] t
          ∧ t.chip.link = { s.chip.link with transaction := none, sdo := List.replicate n 0xFF#8 })
      ∧ (∀ n snap, s.chip.link.transaction = some ⟨some snap⟩ →
        ∃ t, exec (.transactionEnd n) s = .next t ∧ s.changesOnly [.link] t
          ∧ t.chip.link = { s.chip.link with transaction := none, sdo := [] })
      ∧ (∀ filler snap, s.chip.link.transaction = some ⟨some snap⟩ →
        ∃ t, exec (.nop filler) s = .next t ∧ s.changesOnly [.link] t
          ∧ t.chip.link = s.chip.link.risen snap (3 + filler)))
  ∧ (∀ (i : Instr) (s : State) (frame : List Byte) (filler : Nat), s.calm → requestFrame i = some (frame, filler) →
      (∀ snap, s.chip.link.transaction = some ⟨some snap⟩ → s.chip.link.reply.code = .pending → (∀ k, i ≠ .nop k) →
        ∃ t, exec i s = .next t ∧ s.changesOnly [.link] t
          ∧ t.chip.link = { s.chip.link.risen snap (frame.length + filler) with overrun := true })
      ∧ (s.chip.link.transaction = some ⟨none⟩ →
        ∃ t, exec i s = .next t ∧ s.changesOnly [.link] t
          ∧ t.chip.link = { s.chip.link with
              transaction := none, sdo := List.replicate (frame.length + filler) 0xFF#8 }))

/-- STATUS is answered OK with the payload of R197 as the part stands, byte by byte as 11_formats.md section 11.4 lays it
out, and clears every notice it reports (R199). DESCRIBE answers OK with the bytes of the item asked for, a window, a limit
record or a reference, and BADARG for a kind or an index out of range (R198). The manual fixes neither the two values of a
flag byte nor the order of load-fault entries made in one step, nor the page of a descriptor that is not ENABLED, nor the
free-slot count before the RECORD window is placed: log entries 22, 15, 27 and 29; and that the reserved bits of bytes as
read are 0 is log entry 23. -/
def Obligations.StatusAndDescribeReport : Prop :=
  ∀ (s : State) (filler : Nat) (snap : Snapshot), s.calm → s.chip.listening snap →
    let c : Chip := s.chip
    let one (n : Nat) : Byte := BitVec.ofNat 8 n
    let two (n : Nat) : List Byte := [one n, one (n / 256)]
    let four (n : Nat) : List Byte := [one n, one (n / 256), one (n / 65536), one (n / 16777216)]
    let flag (b : Bool) : Byte := if b then 1#8 else 0#8
    let standing (x : Standing) : Byte := one ([Standing.switchedOff, .enabled, .faulted, .notLoaded].idxOf x)
    let fault (k : Option FaultKind) : Byte := match k with
      | none => 0#8
      | some k => one (1 + [FaultKind.classCode, .size, .align, .trimSize, .noPage, .pageIgnored, .pageTaken, .recordPlace,
          .range, .thresholdOrder, .check, .format, .code, .window, .offset, .notOwned, .step, .duplicate].idxOf k)
    let item (x : LoadItem) : Byte := match x with
      | .descriptor w => one w.val
      | .limit j => one (0x20 + j.val)
      | x => one (0x40 + [LoadItem.image, .record, .backgroundClass, .settleChoice, .starvationLimit, .engineTick,
          .roadTick, .engineEdge, .roadEdge, .engineDivider, .roadDivider, .engineTeeth, .roadPulses, .stopLow, .stopHigh,
          .movingLow, .movingHigh, .stopThresholds, .movingThresholds, .parkUse, .suspendLimit, .lockoutThreshold,
          .strikeDecay, .scanPeriod].idxOf x)
    let level : Byte := if c.grant.state = .idle then 0#8 else match c.grant.record.level with
      | none => 0#8
      | some .adjust => 1#8
      | some .reflash => 2#8
      | some .factory => 3#8
    let counting : Bool := decide (c.grant.state ≠ .idle ∧ c.grant.state ≠ .opening)
    (∃ t, exec (.status filler) s = .next t ∧ s.changesOnly [.link] t
      ∧ t.chip.link = { c.link.answered snap (3 + filler) ⟨.ok, 0x01#8,
          [one ([PowerState.start, .active, .afterRun, .dormant, .waking].idxOf c.supply.power),
            one ([GrantState.idle, .opening, .active, .suspended, .ending].idxOf c.grant.state), level]
          ++ four c.grant.record.scope.toNat
          ++ [one (if counting then (c.grant.record.remaining + 59) / 60 else 0)]
          ++ two (if counting then c.grant.record.idleRemaining else 0)
          ++ [one ([EngineState.stopped, .turning].idxOf c.monitor.engineState)] ++ two c.monitor.engine.speed
          ++ [one ([RoadState.stationary, .creeping, .moving].idxOf c.monitor.roadState)] ++ two c.monitor.road.speed
          ++ [one ([ParkState.unknown, .applied, .released].idxOf c.monitor.park), one c.grant.strikes,
            flag (decide (c.params.lockoutThreshold ≤ c.grant.strikes)), flag (decide (c.scanner.tamper ≠ 0#24))]
          ++ four c.scanner.tamper.toNat ++ two c.scanner.passCount.toNat
          ++ [flag c.scanner.cycleChecked, flag c.engine.commit.isSome]
          ++ (List.finRange 8).map (fun p =>
              one ([PageState.unbound, .closed, .loading, .opened, .committing].idxOf c.overlay.pages[p].state))
          ++ four c.engine.head ++ four c.engine.mark
          ++ two (c.capacity - (c.engine.head - 1 - c.engine.mark) - c.engine.claimed)
          ++ [one c.adu.refusals.length,
            one ([EndReason.none, .revoked, .expired, .idle, .suspendTimeout, .motion, .lockout, .tamper, .ignition, .reset,
              .recordsFull, .powerLoss].idxOf c.grant.lastEnd),
            one ([CommitOutcome.none, .done, .rolledBack].idxOf c.engine.lastOutcome)]
          ++ two c.engine.lastWords ++ two c.link.notices.toNat
          ++ [one c.map.loadFaults.length] ++ c.map.loadFaults.flatMap (fun f => [item f.1, fault (some f.2)])⟩
          with notices := 0#16 })
    ∧ ∀ kind index : Byte, ∃ t, exec (.describe kind index filler) s = .next t ∧ s.changesOnly [.link] t
      ∧ (∀ w : Win, kind = 0#8 → index.toNat = w.val →
          let d : Descriptor := c.map.descriptors[w]
          t.chip.link = c.link.answered snap (5 + filler) ⟨.ok, 0x0B#8,
            [d.raw.extractLsb' 0 8 &&& 0x01#8, d.raw.extractLsb' 8 8, d.raw.extractLsb' 16 8,
              d.raw.extractLsb' 24 8 &&& 0x87#8, d.raw.extractLsb' 32 8, d.raw.extractLsb' 40 8, d.raw.extractLsb' 48 8,
              0#8, standing d.standing, fault d.fault,
              if d.standing = .enabled ∧ d.classCode = 3 ∧ d.raw.getLsbD 31 = true then
                d.raw.extractLsb' 24 8 &&& 0x07#8
              else 0xFF#8]⟩)
      ∧ (∀ j : LimitNo, kind = 1#8 → index.toNat = j.val →
          let l : LimitRecord := c.overlay.limits[j]
          t.chip.link = c.link.answered snap (5 + filler) ⟨.ok, 0x0B#8,
            [l.raw.extractLsb' 0 8 &&& 0x01#8] ++ (List.range 11).map (fun i => l.raw.extractLsb' (8 * (i + 1)) 8)
            ++ [standing l.standing, fault l.fault,
              flag (decide (l.standing = .enabled ∧ l.read l.upper < l.read l.lower))]⟩)
      ∧ (∀ w : Win, kind = 2#8 → index.toNat = w.val →
          t.chip.link = c.link.answered snap (5 + filler) ⟨.ok, 0x0B#8,
            (match c.scanner.references[w] with
              | some d => four d.toNat ++ [0#8, 0#8]
              | none => [0#8, 0#8, 0#8, 0#8, 1#8, 0#8])
            ++ [one ([ScanResult.noResult, .matched, .mismatch, .skipped, .adopted, .unknownRef].idxOf
                  c.scanner.results[w].result)]
            ++ four (match c.scanner.results[w].found with
              | some d => d.toNat
              | none => 0)
            ++ [flag (hasWin c.scanner.tamper w), flag (hasWin c.scanner.marks w)]⟩)
      ∧ ((kind = 0#8 ∧ 24 ≤ index.toNat) ∨ (kind = 1#8 ∧ 32 ≤ index.toNat) ∨ (kind = 2#8 ∧ 24 ≤ index.toNat)
          ∨ 3 ≤ kind.toNat →
          t.chip.link = c.link.answered snap (5 + filler) ⟨.badArg, 0x0B#8, []⟩)

/-- A frame that is no request of the table is answered and has no other effect: a bad one BADFRAME, an unassigned code
UNKNOWN, a wrong length BADARG (R192, R193 rows 3 to 5). -/
def Obligations.UnknownFramesAreAnswered : Prop :=
  ∀ (s : State) (bytes : List Byte) (snap : Snapshot), s.calm → s.chip.listening snap →
    (∀ code, bytes = [code] →
      ∃ t, exec (.unknown bytes) s = .next t ∧ s.changesOnly [.link] t
        ∧ t.chip.link = s.chip.link.answered snap 1 ⟨.badFrame, code, []⟩)
    ∧ (∀ code n rest, bytes = code :: n :: rest →
      (40 < n.toNat ∨ rest.length < n.toNat + 1
        ∨ ((code :: n :: rest.take (n.toNat + 1)).map BitVec.toNat).sum % 256 ≠ 0 →
        ∃ t, exec (.unknown bytes) s = .next t ∧ s.changesOnly [.link] t
          ∧ t.chip.link = s.chip.link.answered snap bytes.length ⟨.badFrame, code, []⟩)
      ∧ (n.toNat ≤ 40 → n.toNat + 1 ≤ rest.length →
          ((code :: n :: rest.take (n.toNat + 1)).map BitVec.toNat).sum % 256 = 0 →
        (0x0B < code.toNat →
          ∃ t, exec (.unknown bytes) s = .next t ∧ s.changesOnly [.link] t
            ∧ t.chip.link = s.chip.link.answered snap bytes.length ⟨.unknown, code, []⟩)
        ∧ (∀ k, 1 ≤ code.toNat → requestLength code = some k → n.toNat ≠ k →
          ∃ t, exec (.unknown bytes) s = .next t ∧ s.changesOnly [.link] t
            ∧ t.chip.link = s.chip.link.answered snap bytes.length ⟨.badArg, code, []⟩)))

/-- Encoding and decoding of requests agree: the bytes of a request's frame, with every operand at every value, followed
by any whole bytes, have exactly the effect of the request itself, in every state (R192, R193; 11_formats.md section
11.4). -/
def Obligations.FrameSpellsItsRequest : Prop :=
  ∀ (i : Instr) (frame fill : List Byte), requestFrame i = some (frame, fill.length) →
    ∀ s : State, exec (.unknown (frame ++ fill)) s = exec i s
end

