-- ==== Sys2Proof/Laws/Sparse.lean ====
section
/-! SUPPORT. Laws of the sparse tables and of the calibration memory: a read after a write, and the canonical form. -/

namespace Sys2Proof.Machine

/-- An entry that is not written stays as it was. -/
theorem Sparse.get_set_ne {α : Type} [DecidableEq α] (d : α) (t : List (Nat × α)) (i j : Nat) (v : α) (h : j ≠ i) :
    Sparse.get d (Sparse.set d t i v) j = Sparse.get d t j := by
  induction t with
  | nil => by_cases hv : v = d <;> simp [Sparse.set, Sparse.get, hv, Ne.symm h]
  | cons p rest ih =>
    obtain ⟨k, w⟩ := p
    have hij : i ≠ j := Ne.symm h
    by_cases h1 : i < k
    · by_cases hv : v = d
      · simp [Sparse.set, h1, hv]
      · simp [Sparse.set, Sparse.get, h1, hv, hij]
    · by_cases h2 : i = k
      · subst h2
        by_cases hv : v = d
        · simp [Sparse.set, Sparse.get, hv, hij]
        · simp [Sparse.set, Sparse.get, hv, hij]
      · by_cases hj : k = j
        · subst hj
          simp [Sparse.set, Sparse.get, h1, h2]
        · simp [Sparse.set, Sparse.get, h1, h2, hj, ih]

/-- Below the lowest key a table in canonical form reads as its default. -/
theorem Sparse.get_below {α : Type} [DecidableEq α] (d : α) (top : Nat) (t : List (Nat × α)) (lo i : Nat)
    (hwf : Sparse.wfFrom d top lo t = true) (h : i < lo) : Sparse.get d t i = d := by
  induction t generalizing lo with
  | nil => rfl
  | cons p rest ih =>
    obtain ⟨k, w⟩ := p
    simp only [Sparse.wfFrom, Bool.and_eq_true, decide_eq_true_eq] at hwf
    have hk : k ≠ i := by omega
    simp only [Sparse.get, hk, if_false]
    exact ih (k + 1) hwf.2 (by omega)

/-- The entry written reads as the value written, in a table in canonical form. -/
theorem Sparse.get_set_self {α : Type} [DecidableEq α] (d : α) (top : Nat) (t : List (Nat × α)) (lo i : Nat) (v : α)
    (hwf : Sparse.wfFrom d top lo t = true) : Sparse.get d (Sparse.set d t i v) i = v := by
  induction t generalizing lo with
  | nil => by_cases hv : v = d <;> simp [Sparse.set, Sparse.get, hv]
  | cons p rest ih =>
    obtain ⟨k, w⟩ := p
    have hwf' := hwf
    simp only [Sparse.wfFrom, Bool.and_eq_true, decide_eq_true_eq] at hwf
    by_cases h1 : i < k
    · by_cases hv : v = d
      · have hk : k ≠ i := by omega
        simp only [Sparse.set, h1, hv, if_true, Sparse.get, hk, if_false]
        exact Sparse.get_below d top rest (k + 1) i hwf.2 (by omega)
      · simp [Sparse.set, Sparse.get, h1, hv]
    · by_cases h2 : i = k
      · by_cases hv : v = d
        · simp only [Sparse.set, h2, hv, if_true]
          subst h2
          simpa using Sparse.get_below d top rest (i + 1) i hwf.2 (by omega)
        · simp [Sparse.set, Sparse.get, h2, hv]
      · have hk : k ≠ i := by omega
        simp only [Sparse.set, h1, h2, if_false, Sparse.get, hk]
        exact ih (k + 1) hwf.2

/-- The entry written reads as the value written when that is not the default, in any table. -/
theorem Sparse.get_set_self_of_ne {α : Type} [DecidableEq α] (d : α) (t : List (Nat × α)) (i : Nat) (v : α)
    (hv : v ≠ d) : Sparse.get d (Sparse.set d t i v) i = v := by
  induction t with
  | nil => simp [Sparse.set, Sparse.get, hv]
  | cons p rest ih =>
    obtain ⟨k, w⟩ := p
    by_cases h1 : i < k
    · simp [Sparse.set, Sparse.get, h1, hv]
    · by_cases h2 : i = k
      · simp [Sparse.set, Sparse.get, h2, hv]
      · have hk : k ≠ i := by omega
        simp only [Sparse.set, h1, h2, if_false, Sparse.get, hk]
        exact ih

/-- A table's canonical form may start lower. -/
theorem Sparse.wfFrom_mono {α : Type} [DecidableEq α] (d : α) (top : Nat) (t : List (Nat × α)) (lo lo' : Nat)
    (hle : lo' ≤ lo) (hwf : Sparse.wfFrom d top lo t = true) : Sparse.wfFrom d top lo' t = true := by
  cases t with
  | nil => rfl
  | cons p rest =>
    obtain ⟨k, w⟩ := p
    simp only [Sparse.wfFrom, Bool.and_eq_true, decide_eq_true_eq] at hwf ⊢
    exact ⟨⟨⟨by omega, hwf.1.1.2⟩, hwf.1.2⟩, hwf.2⟩

/-- A write keeps the canonical form. -/
theorem Sparse.wfFrom_set {α : Type} [DecidableEq α] (d : α) (top : Nat) (t : List (Nat × α)) (lo i : Nat) (v : α)
    (hlo : lo ≤ i) (htop : i < top) (hwf : Sparse.wfFrom d top lo t = true) :
    Sparse.wfFrom d top lo (Sparse.set d t i v) = true := by
  induction t generalizing lo with
  | nil => by_cases hv : v = d <;> simp [Sparse.set, Sparse.wfFrom, hv, hlo, htop]
  | cons p rest ih =>
    obtain ⟨k, w⟩ := p
    have hwf' := hwf
    simp only [Sparse.wfFrom, Bool.and_eq_true, decide_eq_true_eq] at hwf
    obtain ⟨⟨⟨hk1, hk2⟩, hk3⟩, hk4⟩ := hwf
    by_cases h1 : i < k
    · by_cases hv : v = d
      · simpa [Sparse.set, h1, hv] using hwf'
      · simp only [Sparse.set, h1, hv, if_true, if_false, Sparse.wfFrom, Bool.and_eq_true, decide_eq_true_eq]
        exact ⟨⟨⟨hlo, htop⟩, hv⟩, ⟨⟨⟨by omega, hk2⟩, hk3⟩, hk4⟩⟩
    · by_cases h2 : i = k
      · by_cases hv : v = d
        · simp only [Sparse.set, h2, hv, if_true]
          subst h2
          simpa using Sparse.wfFrom_mono d top rest (i + 1) lo (by omega) hk4
        · subst h2
          simp only [Sparse.set, lt_irrefl, hv, if_true, if_false, Sparse.wfFrom, Bool.and_eq_true,
            decide_eq_true_eq]
          exact ⟨⟨⟨hlo, htop⟩, hv⟩, hk4⟩
      · simp only [Sparse.set, h1, h2, if_false, Sparse.wfFrom, Bool.and_eq_true, decide_eq_true_eq]
        exact ⟨⟨⟨hk1, hk2⟩, hk3⟩, ih (k + 1) (by omega) hk4⟩

/-! ## The calibration memory -/

/-- A byte written reads back. -/
theorem Memory.readByte_writeByte_self (m : Memory) (a : Addr) (b : Byte) (hwf : m.wf = true) :
    (m.writeByte a b).readByte a = b :=
  Sparse.get_set_self Config.unlistedByte (2 ^ 24) m 0 a.toNat b hwf

/-- A byte not written stays. -/
theorem Memory.readByte_writeByte_ne (m : Memory) (a c : Addr) (b : Byte) (h : c ≠ a) :
    (m.writeByte a b).readByte c = m.readByte c :=
  Sparse.get_set_ne Config.unlistedByte m a.toNat c.toNat b (fun e => h (BitVec.eq_of_toNat_eq e))

/-- A byte write keeps the canonical form. -/
theorem Memory.wf_writeByte (m : Memory) (a : Addr) (b : Byte) (hwf : m.wf = true) : (m.writeByte a b).wf = true :=
  Sparse.wfFrom_set Config.unlistedByte (2 ^ 24) m 0 a.toNat b (Nat.zero_le _) a.isLt hwf

/-- What a byte reads as after a byte write. -/
theorem Memory.readByte_writeByte (m : Memory) (a c : Addr) (b : Byte) (hwf : m.wf = true) :
    (m.writeByte a b).readByte c = if c = a then b else m.readByte c := by
  by_cases h : c = a
  · subst h; simp [Memory.readByte_writeByte_self m c b hwf]
  · simp [h, Memory.readByte_writeByte_ne m a c b h]

/-- A write of lanes keeps the canonical form. -/
theorem Memory.wf_writeLanes (m : Memory) (a : Addr) (lo hi : Bool) (w : Word) (hwf : m.wf = true) :
    (m.writeLanes a lo hi w).wf = true := by
  cases lo <;> cases hi <;> simp [Memory.writeLanes, hwf, Memory.wf_writeByte]

/-- The odd byte of a word is not its even byte. -/
theorem oddByte_ne_wordAddress (a : Addr) : oddByte a ≠ wordAddress a := by
  intro h
  have := congrArg (fun x : Addr => x.getLsbD 0) h
  simp [oddByte, wordAddress] at this

/-- What a byte reads as after a write of lanes. -/
theorem Memory.readByte_writeLanes (m : Memory) (a c : Addr) (lo hi : Bool) (w : Word) (hwf : m.wf = true) :
    (m.writeLanes a lo hi w).readByte c
      = if hi = true ∧ c = oddByte a then highByte w
        else if lo = true ∧ c = wordAddress a then lowByte w
        else m.readByte c := by
  cases lo <;> cases hi <;>
    simp [Memory.writeLanes, Memory.readByte_writeByte, Memory.wf_writeByte, hwf]

/-- The completion of a transfer keeps the canonical form. -/
theorem Memory.wf_complete (m : Memory) (t : Transfer) (r : Option Word) (hwf : m.wf = true) :
    (m.complete t r).1.wf = true := by
  unfold Memory.complete
  split <;> simp [hwf, Memory.wf_writeLanes]

/-- A write cut off with the supply keeps the canonical form. -/
theorem Memory.wf_cutOff (m : Memory) (t : Transfer) (kept : Word) (hwf : m.wf = true) :
    (m.cutOff t kept).wf = true := by
  unfold Memory.cutOff
  split <;> simp [hwf, Memory.wf_writeLanes]

/-- A read that the devices answer with what the part last knew leaves the memory and returns its word. -/
@[simp] theorem Memory.complete_read (m : Memory) (a : Addr) :
    m.complete ⟨a, .read⟩ none = (m, m.readWord a) := rfl

/-- A write stores its lanes. -/
@[simp] theorem Memory.complete_write (m : Memory) (a : Addr) (lo hi : Bool) (w : Word) (r : Option Word) :
    (m.complete ⟨a, .write lo hi w⟩ r).1 = m.writeLanes a lo hi w := by
  cases r <;> rfl

end Sys2Proof.Machine
end

