-- ==== Sys2Proof/Laws/Ops.lean ====
section
/-! SUPPORT. What the operations shared by every command can do: the arbitration and the dormancy check that end each
command, and `onChip`. -/

namespace Sys2Proof.Machine

/-! ## The arbiter -/

/-- The arbiter changes the Bus Path alone. -/
theorem Chip.arbitrate_eq (c : Chip) : c.arbitrate = { c with bus := c.arbitrate.bus } := by
  unfold Chip.arbitrate
  split
  · split <;> rfl
  · rfl
  · rfl

/-- The arbiter reads the Bus Path and the starvation limit alone. -/
theorem Chip.arbitrate_bus_congr (c d : Chip) (hb : d.bus = c.bus)
    (hl : d.params.starvationLimit = c.params.starvationLimit) : d.arbitrate.bus = c.arbitrate.bus := by
  unfold Chip.arbitrate
  rw [hb, hl]
  cases c.bus.memPort with
  | free => cases h : c.bus.winner c.params.starvationLimit <;> simp [hb]
  | parked => exact hb
  | busy who t live => exact hb

/-- A settled port has nothing to grant. -/
theorem Chip.arbitrate_of_settled (c : Chip) (h : c.settled) : c.arbitrate = c := by
  unfold Chip.arbitrate
  split
  · next hf =>
    obtain ⟨hp, hr, hl, hs⟩ := h hf
    simp [BusPath.winner, hp, hr, hl, hs]
  · rfl
  · rfl

/-- With a request pending the arbiter has a winner. -/
theorem BusPath.winner_isSome (b : BusPath) (limit : Nat)
    (h : b.requestP.isSome ∨ b.requestR.isSome ∨ b.requestL.isSome ∨ b.requestS.isSome) :
    (b.winner limit).isSome := by
  unfold BusPath.winner
  split_ifs <;> simp_all

/-- Whoever wins has a request pending. -/
theorem BusPath.request_of_winner (b : BusPath) (limit : Nat) (who : Requester) (h : b.winner limit = some who) :
    (b.request who).isSome := by
  unfold BusPath.winner at h
  split_ifs at h <;> simp_all [BusPath.request] <;> (subst h; simp_all)

/-- A grant makes the port busy. -/
theorem BusPath.grantTo_memPort (b : BusPath) (who : Requester) (t : Transfer) (h : b.request who = some t) :
    (b.grantTo who).memPort = .busy who t true := by
  cases who <;> simp_all [BusPath.grantTo]

/-- After the arbiter a FREE port has no request pending (R15). -/
theorem Chip.arbitrate_settled (c : Chip) : c.arbitrate.settled := by
  intro hf
  unfold Chip.arbitrate at hf ⊢
  cases hm : c.bus.memPort with
  | parked => simp [hm] at hf
  | busy who t live => simp [hm] at hf
  | free =>
    simp only [hm] at hf ⊢
    cases hw : c.bus.winner c.params.starvationLimit with
    | some who =>
      simp only [hw] at hf
      obtain ⟨t, ht⟩ := Option.isSome_iff_exists.mp (c.bus.request_of_winner _ who hw)
      rw [c.bus.grantTo_memPort who t ht] at hf
      cases hf
    | none =>
      have hn := mt (c.bus.winner_isSome c.params.starvationLimit) (by simp [hw])
      simpa [Option.isSome_iff_ne_none] using hn

/-! ## The end of a command -/

/-- Dormancy that is not due is not entered. -/
theorem Chip.checkDormancy_of_not (c : Chip) (h : c.mayGoDormant = false) : c.checkDormancy = c := by
  simp [Chip.checkDormancy, h]

/-- While the dormancy delay has not run out, dormancy is not due. -/
theorem Chip.mayGoDormant_of_staysUp (c : Chip) (h : c.staysUp) : c.mayGoDormant = false := by
  by_cases hp : c.supply.power = .afterRun
  · cases hd : c.supply.dormancy with
    | none => simp [Chip.mayGoDormant, hd]
    | some d =>
      have hlt := h hp d hd
      have : ¬ Config.dormancyMs ≤ d := by omega
      simp [Chip.mayGoDormant, hd, this]
  · simp [Chip.mayGoDormant, hp]

/-- A command's end enters no dormancy while the delay has not run out: it is the arbitration alone. -/
theorem Chip.finish_of_staysUp (c : Chip) (h : c.staysUp) : c.finish = { c with bus := c.arbitrate.bus } := by
  unfold Chip.finish
  rw [c.arbitrate_eq]
  exact Chip.checkDormancy_of_not _ (Chip.mayGoDormant_of_staysUp _ h)

/-- On a settled chip whose dormancy delay has not run out a command's end changes nothing. -/
theorem Chip.finish_of_calm (c : Chip) (hs : c.settled) (h : c.staysUp) : c.finish = c := by
  rw [c.finish_of_staysUp h, c.arbitrate_of_settled hs]

/-- The arbitration at a command's end leaves no FREE port with a request pending. -/
theorem Chip.finish_settled (c : Chip) : c.finish.settled := by
  unfold Chip.finish Chip.checkDormancy
  split
  · exact c.arbitrate_settled
  · exact c.arbitrate_settled

/-- No dormancy is due after a command's end. -/
theorem Chip.finish_mayGoDormant (c : Chip) : c.finish.mayGoDormant = false := by
  unfold Chip.finish Chip.checkDormancy
  split
  · rfl
  · next h => simpa using h

/-- The arbiter leaves an occupied processor port occupied. -/
theorem Chip.arbitrate_port_ne_idle (c : Chip) (h : c.bus.port ≠ .idle) : c.arbitrate.bus.port ≠ .idle := by
  unfold Chip.arbitrate
  cases hm : c.bus.memPort with
  | parked => exact h
  | busy who t live => exact h
  | free =>
    cases hw : c.bus.winner c.params.starvationLimit with
    | none => simpa using h
    | some who =>
      simp only
      unfold BusPath.grantTo
      cases hr : c.bus.request who with
      | none => exact h
      | some t =>
        cases who <;> simp only [BusPath.setRequest] <;> try exact h
        unfold Port.granted
        split
        · simp
        · exact h

/-- A cycle at the processor port keeps the part out of DORMANT: a command's end is the arbitration alone. -/
theorem Chip.finish_of_port (c : Chip) (h : c.bus.port ≠ .idle) : c.finish = { c with bus := c.arbitrate.bus } := by
  have hp := c.arbitrate_port_ne_idle h
  have hm : c.arbitrate.mayGoDormant = false := by
    unfold Chip.mayGoDormant
    split <;> simp_all
  unfold Chip.finish
  rw [Chip.checkDormancy_of_not _ hm]
  exact c.arbitrate_eq

/-! ## Commands of a supplied part -/

/-- What `onChip` answers with the supply up. -/
theorem State.onChip_of_supplied (f : Chip → Chip) (s : State) (h : s.supplied = true) :
    s.onChip f = { s with chip := (f s.chip).finish } := by simp [State.onChip, h]

/-- What `onChip` answers without supply. -/
theorem State.onChip_of_unsupplied (f : Chip → Chip) (s : State) (h : s.supplied = false) : s.onChip f = s := by
  simp [State.onChip, h]

/-- What `onPin` answers with the supply up. -/
theorem State.onPin_of_supplied (pin : Pins → Pins) (f : Chip → Chip) (s : State) (h : s.supplied = true) :
    s.onPin pin f = { s with chip := (f s.chip).finish } := by simp [State.onPin, h]

/-- What `onPin` answers without supply. -/
theorem State.onPin_of_unsupplied (pin : Pins → Pins) (f : Chip → Chip) (s : State) (h : s.supplied = false) :
    s.onPin pin f = { s with chip := { s.chip with pins := pin s.chip.pins } } := by simp [State.onPin, h]

/-- A change of the chip alone keeps everything outside it, and its frame is the chips'. -/
theorem State.changesOnly_of_chip (blocks : List Block) (s : State) (c : Chip) (h : s.chip.changesOnly blocks c) :
    s.changesOnly blocks { s with chip := c } := ⟨rfl, rfl, rfl, fun _ => rfl, h⟩

/-- A command that leaves the port settled and the delay running ends as its operation left the chip. -/
theorem State.onChip_of_calm (f : Chip → Chip) (s : State) (h : s.supplied = true) (hs : (f s.chip).settled)
    (hu : (f s.chip).staysUp) : s.onChip f = { s with chip := f s.chip } := by
  rw [State.onChip_of_supplied f s h, Chip.finish_of_calm _ hs hu]

end Sys2Proof.Machine
end

