-- ==== Sys2Proof/Laws/State.lean ====
section
/-! SUPPORT. What the plain updates of the part leave alone: one lemma for each block and update that does not touch
it, so that no proof unfolds a record update. An update with cases has first an equation that names the block it
changes. -/

namespace Sys2Proof.Machine

/-! ## The Bus Path (R1–R18) -/

@[simp] theorem Chip.present_pins (c : Chip) (who : Requester) (t : Transfer) : (c.present who t).pins = c.pins := rfl
@[simp] theorem Chip.present_draws (c : Chip) (who : Requester) (t : Transfer) : (c.present who t).draws = c.draws := rfl
@[simp] theorem Chip.present_map (c : Chip) (who : Requester) (t : Transfer) : (c.present who t).map = c.map := rfl
@[simp] theorem Chip.present_params (c : Chip) (who : Requester) (t : Transfer) :
  (c.present who t).params = c.params := rfl
@[simp] theorem Chip.present_monitor (c : Chip) (who : Requester) (t : Transfer) :
  (c.present who t).monitor = c.monitor := rfl
@[simp] theorem Chip.present_grant (c : Chip) (who : Requester) (t : Transfer) : (c.present who t).grant = c.grant :=
  rfl
@[simp] theorem Chip.present_adu (c : Chip) (who : Requester) (t : Transfer) : (c.present who t).adu = c.adu := rfl
@[simp] theorem Chip.present_overlay (c : Chip) (who : Requester) (t : Transfer) :
  (c.present who t).overlay = c.overlay := rfl
@[simp] theorem Chip.present_engine (c : Chip) (who : Requester) (t : Transfer) :
  (c.present who t).engine = c.engine := rfl
@[simp] theorem Chip.present_scanner (c : Chip) (who : Requester) (t : Transfer) :
  (c.present who t).scanner = c.scanner := rfl
@[simp] theorem Chip.present_supply (c : Chip) (who : Requester) (t : Transfer) :
  (c.present who t).supply = c.supply := rfl
@[simp] theorem Chip.present_link (c : Chip) (who : Requester) (t : Transfer) : (c.present who t).link = c.link := rfl

@[simp] theorem Chip.presentRead_pins (c : Chip) (who : Requester) (a : Addr) : (c.presentRead who a).pins = c.pins :=
  rfl
@[simp] theorem Chip.presentRead_draws (c : Chip) (who : Requester) (a : Addr) : (c.presentRead who a).draws = c.draws :=
  rfl
@[simp] theorem Chip.presentRead_map (c : Chip) (who : Requester) (a : Addr) : (c.presentRead who a).map = c.map := rfl
@[simp] theorem Chip.presentRead_params (c : Chip) (who : Requester) (a : Addr) :
  (c.presentRead who a).params = c.params := rfl
@[simp] theorem Chip.presentRead_monitor (c : Chip) (who : Requester) (a : Addr) :
  (c.presentRead who a).monitor = c.monitor := rfl
@[simp] theorem Chip.presentRead_grant (c : Chip) (who : Requester) (a : Addr) :
  (c.presentRead who a).grant = c.grant := rfl
@[simp] theorem Chip.presentRead_adu (c : Chip) (who : Requester) (a : Addr) : (c.presentRead who a).adu = c.adu := rfl
@[simp] theorem Chip.presentRead_overlay (c : Chip) (who : Requester) (a : Addr) :
  (c.presentRead who a).overlay = c.overlay := rfl
@[simp] theorem Chip.presentRead_engine (c : Chip) (who : Requester) (a : Addr) :
  (c.presentRead who a).engine = c.engine := rfl
@[simp] theorem Chip.presentRead_scanner (c : Chip) (who : Requester) (a : Addr) :
  (c.presentRead who a).scanner = c.scanner := rfl
@[simp] theorem Chip.presentRead_supply (c : Chip) (who : Requester) (a : Addr) :
  (c.presentRead who a).supply = c.supply := rfl
@[simp] theorem Chip.presentRead_link (c : Chip) (who : Requester) (a : Addr) : (c.presentRead who a).link = c.link :=
  rfl

@[simp] theorem Chip.presentWrite_pins (c : Chip) (who : Requester) (a : Addr) (w : Word) :
  (c.presentWrite who a w).pins = c.pins := rfl
@[simp] theorem Chip.presentWrite_draws (c : Chip) (who : Requester) (a : Addr) (w : Word) :
  (c.presentWrite who a w).draws = c.draws := rfl
@[simp] theorem Chip.presentWrite_map (c : Chip) (who : Requester) (a : Addr) (w : Word) :
  (c.presentWrite who a w).map = c.map := rfl
@[simp] theorem Chip.presentWrite_params (c : Chip) (who : Requester) (a : Addr) (w : Word) :
  (c.presentWrite who a w).params = c.params := rfl
@[simp] theorem Chip.presentWrite_monitor (c : Chip) (who : Requester) (a : Addr) (w : Word) :
  (c.presentWrite who a w).monitor = c.monitor := rfl
@[simp] theorem Chip.presentWrite_grant (c : Chip) (who : Requester) (a : Addr) (w : Word) :
  (c.presentWrite who a w).grant = c.grant := rfl
@[simp] theorem Chip.presentWrite_adu (c : Chip) (who : Requester) (a : Addr) (w : Word) :
  (c.presentWrite who a w).adu = c.adu := rfl
@[simp] theorem Chip.presentWrite_overlay (c : Chip) (who : Requester) (a : Addr) (w : Word) :
  (c.presentWrite who a w).overlay = c.overlay := rfl
@[simp] theorem Chip.presentWrite_engine (c : Chip) (who : Requester) (a : Addr) (w : Word) :
  (c.presentWrite who a w).engine = c.engine := rfl
@[simp] theorem Chip.presentWrite_scanner (c : Chip) (who : Requester) (a : Addr) (w : Word) :
  (c.presentWrite who a w).scanner = c.scanner := rfl
@[simp] theorem Chip.presentWrite_supply (c : Chip) (who : Requester) (a : Addr) (w : Word) :
  (c.presentWrite who a w).supply = c.supply := rfl
@[simp] theorem Chip.presentWrite_link (c : Chip) (who : Requester) (a : Addr) (w : Word) :
  (c.presentWrite who a w).link = c.link := rfl

@[simp] theorem Chip.giveUp_pins (c : Chip) (who : Requester) : (c.giveUp who).pins = c.pins := rfl
@[simp] theorem Chip.giveUp_draws (c : Chip) (who : Requester) : (c.giveUp who).draws = c.draws := rfl
@[simp] theorem Chip.giveUp_map (c : Chip) (who : Requester) : (c.giveUp who).map = c.map := rfl
@[simp] theorem Chip.giveUp_params (c : Chip) (who : Requester) : (c.giveUp who).params = c.params := rfl
@[simp] theorem Chip.giveUp_monitor (c : Chip) (who : Requester) : (c.giveUp who).monitor = c.monitor := rfl
@[simp] theorem Chip.giveUp_grant (c : Chip) (who : Requester) : (c.giveUp who).grant = c.grant := rfl
@[simp] theorem Chip.giveUp_adu (c : Chip) (who : Requester) : (c.giveUp who).adu = c.adu := rfl
@[simp] theorem Chip.giveUp_overlay (c : Chip) (who : Requester) : (c.giveUp who).overlay = c.overlay := rfl
@[simp] theorem Chip.giveUp_engine (c : Chip) (who : Requester) : (c.giveUp who).engine = c.engine := rfl
@[simp] theorem Chip.giveUp_scanner (c : Chip) (who : Requester) : (c.giveUp who).scanner = c.scanner := rfl
@[simp] theorem Chip.giveUp_supply (c : Chip) (who : Requester) : (c.giveUp who).supply = c.supply := rfl
@[simp] theorem Chip.giveUp_link (c : Chip) (who : Requester) : (c.giveUp who).link = c.link := rfl

@[simp] theorem Chip.arbitrate_pins (c : Chip) : (c.arbitrate).pins = c.pins := by rw [Chip.arbitrate_eq]
@[simp] theorem Chip.arbitrate_draws (c : Chip) : (c.arbitrate).draws = c.draws := by rw [Chip.arbitrate_eq]
@[simp] theorem Chip.arbitrate_map (c : Chip) : (c.arbitrate).map = c.map := by rw [Chip.arbitrate_eq]
@[simp] theorem Chip.arbitrate_params (c : Chip) : (c.arbitrate).params = c.params := by rw [Chip.arbitrate_eq]
@[simp] theorem Chip.arbitrate_monitor (c : Chip) : (c.arbitrate).monitor = c.monitor := by rw [Chip.arbitrate_eq]
@[simp] theorem Chip.arbitrate_grant (c : Chip) : (c.arbitrate).grant = c.grant := by rw [Chip.arbitrate_eq]
@[simp] theorem Chip.arbitrate_adu (c : Chip) : (c.arbitrate).adu = c.adu := by rw [Chip.arbitrate_eq]
@[simp] theorem Chip.arbitrate_overlay (c : Chip) : (c.arbitrate).overlay = c.overlay := by rw [Chip.arbitrate_eq]
@[simp] theorem Chip.arbitrate_engine (c : Chip) : (c.arbitrate).engine = c.engine := by rw [Chip.arbitrate_eq]
@[simp] theorem Chip.arbitrate_scanner (c : Chip) : (c.arbitrate).scanner = c.scanner := by rw [Chip.arbitrate_eq]
@[simp] theorem Chip.arbitrate_supply (c : Chip) : (c.arbitrate).supply = c.supply := by rw [Chip.arbitrate_eq]
@[simp] theorem Chip.arbitrate_link (c : Chip) : (c.arbitrate).link = c.link := by rw [Chip.arbitrate_eq]

theorem Chip.unpark_eq (c : Chip) : c.unpark = { c with bus := (c.unpark).bus } := by
  unfold Chip.unpark; split <;> rfl
@[simp] theorem Chip.unpark_pins (c : Chip) : (c.unpark).pins = c.pins := by rw [Chip.unpark_eq]
@[simp] theorem Chip.unpark_draws (c : Chip) : (c.unpark).draws = c.draws := by rw [Chip.unpark_eq]
@[simp] theorem Chip.unpark_map (c : Chip) : (c.unpark).map = c.map := by rw [Chip.unpark_eq]
@[simp] theorem Chip.unpark_params (c : Chip) : (c.unpark).params = c.params := by rw [Chip.unpark_eq]
@[simp] theorem Chip.unpark_monitor (c : Chip) : (c.unpark).monitor = c.monitor := by rw [Chip.unpark_eq]
@[simp] theorem Chip.unpark_grant (c : Chip) : (c.unpark).grant = c.grant := by rw [Chip.unpark_eq]
@[simp] theorem Chip.unpark_adu (c : Chip) : (c.unpark).adu = c.adu := by rw [Chip.unpark_eq]
@[simp] theorem Chip.unpark_overlay (c : Chip) : (c.unpark).overlay = c.overlay := by rw [Chip.unpark_eq]
@[simp] theorem Chip.unpark_engine (c : Chip) : (c.unpark).engine = c.engine := by rw [Chip.unpark_eq]
@[simp] theorem Chip.unpark_scanner (c : Chip) : (c.unpark).scanner = c.scanner := by rw [Chip.unpark_eq]
@[simp] theorem Chip.unpark_supply (c : Chip) : (c.unpark).supply = c.supply := by rw [Chip.unpark_eq]
@[simp] theorem Chip.unpark_link (c : Chip) : (c.unpark).link = c.link := by rw [Chip.unpark_eq]

theorem Chip.endInternal_eq (c : Chip) (who : Requester) :
    c.endInternal who = { c with bus := (c.endInternal who).bus } := by
  unfold Chip.endInternal; split <;> (try split) <;> rfl
@[simp] theorem Chip.endInternal_pins (c : Chip) (who : Requester) : (c.endInternal who).pins = c.pins := by
  rw [Chip.endInternal_eq]
@[simp] theorem Chip.endInternal_draws (c : Chip) (who : Requester) : (c.endInternal who).draws = c.draws := by
  rw [Chip.endInternal_eq]
@[simp] theorem Chip.endInternal_map (c : Chip) (who : Requester) : (c.endInternal who).map = c.map := by
  rw [Chip.endInternal_eq]
@[simp] theorem Chip.endInternal_params (c : Chip) (who : Requester) : (c.endInternal who).params = c.params := by
  rw [Chip.endInternal_eq]
@[simp] theorem Chip.endInternal_monitor (c : Chip) (who : Requester) : (c.endInternal who).monitor = c.monitor := by
  rw [Chip.endInternal_eq]
@[simp] theorem Chip.endInternal_grant (c : Chip) (who : Requester) : (c.endInternal who).grant = c.grant := by
  rw [Chip.endInternal_eq]
@[simp] theorem Chip.endInternal_adu (c : Chip) (who : Requester) : (c.endInternal who).adu = c.adu := by
  rw [Chip.endInternal_eq]
@[simp] theorem Chip.endInternal_overlay (c : Chip) (who : Requester) : (c.endInternal who).overlay = c.overlay := by
  rw [Chip.endInternal_eq]
@[simp] theorem Chip.endInternal_engine (c : Chip) (who : Requester) : (c.endInternal who).engine = c.engine := by
  rw [Chip.endInternal_eq]
@[simp] theorem Chip.endInternal_scanner (c : Chip) (who : Requester) : (c.endInternal who).scanner = c.scanner := by
  rw [Chip.endInternal_eq]
@[simp] theorem Chip.endInternal_supply (c : Chip) (who : Requester) : (c.endInternal who).supply = c.supply := by
  rw [Chip.endInternal_eq]
@[simp] theorem Chip.endInternal_link (c : Chip) (who : Requester) : (c.endInternal who).link = c.link := by
  rw [Chip.endInternal_eq]

@[simp] theorem Chip.endPass_pins (c : Chip) : (c.endPass).pins = c.pins := rfl
@[simp] theorem Chip.endPass_draws (c : Chip) : (c.endPass).draws = c.draws := rfl
@[simp] theorem Chip.endPass_map (c : Chip) : (c.endPass).map = c.map := rfl
@[simp] theorem Chip.endPass_params (c : Chip) : (c.endPass).params = c.params := rfl
@[simp] theorem Chip.endPass_monitor (c : Chip) : (c.endPass).monitor = c.monitor := rfl
@[simp] theorem Chip.endPass_grant (c : Chip) : (c.endPass).grant = c.grant := rfl
@[simp] theorem Chip.endPass_adu (c : Chip) : (c.endPass).adu = c.adu := rfl
@[simp] theorem Chip.endPass_overlay (c : Chip) : (c.endPass).overlay = c.overlay := rfl
@[simp] theorem Chip.endPass_engine (c : Chip) : (c.endPass).engine = c.engine := rfl
@[simp] theorem Chip.endPass_scanner (c : Chip) : (c.endPass).scanner = c.scanner := rfl
@[simp] theorem Chip.endPass_supply (c : Chip) : (c.endPass).supply = c.supply := rfl
@[simp] theorem Chip.endPass_link (c : Chip) : (c.endPass).link = c.link := rfl

@[simp] theorem Chip.completeCycle_pins (c : Chip) (y : CycleRecord) (data : Word) :
  (c.completeCycle y data).pins = c.pins := rfl
@[simp] theorem Chip.completeCycle_draws (c : Chip) (y : CycleRecord) (data : Word) :
  (c.completeCycle y data).draws = c.draws := rfl
@[simp] theorem Chip.completeCycle_map (c : Chip) (y : CycleRecord) (data : Word) :
  (c.completeCycle y data).map = c.map := rfl
@[simp] theorem Chip.completeCycle_params (c : Chip) (y : CycleRecord) (data : Word) :
  (c.completeCycle y data).params = c.params := rfl
@[simp] theorem Chip.completeCycle_monitor (c : Chip) (y : CycleRecord) (data : Word) :
  (c.completeCycle y data).monitor = c.monitor := rfl
@[simp] theorem Chip.completeCycle_grant (c : Chip) (y : CycleRecord) (data : Word) :
  (c.completeCycle y data).grant = c.grant := rfl
@[simp] theorem Chip.completeCycle_adu (c : Chip) (y : CycleRecord) (data : Word) :
  (c.completeCycle y data).adu = c.adu := rfl
@[simp] theorem Chip.completeCycle_overlay (c : Chip) (y : CycleRecord) (data : Word) :
  (c.completeCycle y data).overlay = c.overlay := rfl
@[simp] theorem Chip.completeCycle_engine (c : Chip) (y : CycleRecord) (data : Word) :
  (c.completeCycle y data).engine = c.engine := rfl
@[simp] theorem Chip.completeCycle_scanner (c : Chip) (y : CycleRecord) (data : Word) :
  (c.completeCycle y data).scanner = c.scanner := rfl
@[simp] theorem Chip.completeCycle_supply (c : Chip) (y : CycleRecord) (data : Word) :
  (c.completeCycle y data).supply = c.supply := rfl
@[simp] theorem Chip.completeCycle_link (c : Chip) (y : CycleRecord) (data : Word) :
  (c.completeCycle y data).link = c.link := rfl

@[simp] theorem Chip.holdCycle_pins (c : Chip) (y : CycleRecord) (why : HoldReason) :
  (c.holdCycle y why).pins = c.pins := rfl
@[simp] theorem Chip.holdCycle_draws (c : Chip) (y : CycleRecord) (why : HoldReason) :
  (c.holdCycle y why).draws = c.draws := rfl
@[simp] theorem Chip.holdCycle_map (c : Chip) (y : CycleRecord) (why : HoldReason) :
  (c.holdCycle y why).map = c.map := rfl
@[simp] theorem Chip.holdCycle_params (c : Chip) (y : CycleRecord) (why : HoldReason) :
  (c.holdCycle y why).params = c.params := rfl
@[simp] theorem Chip.holdCycle_monitor (c : Chip) (y : CycleRecord) (why : HoldReason) :
  (c.holdCycle y why).monitor = c.monitor := rfl
@[simp] theorem Chip.holdCycle_grant (c : Chip) (y : CycleRecord) (why : HoldReason) :
  (c.holdCycle y why).grant = c.grant := rfl
@[simp] theorem Chip.holdCycle_adu (c : Chip) (y : CycleRecord) (why : HoldReason) :
  (c.holdCycle y why).adu = c.adu := rfl
@[simp] theorem Chip.holdCycle_overlay (c : Chip) (y : CycleRecord) (why : HoldReason) :
  (c.holdCycle y why).overlay = c.overlay := rfl
@[simp] theorem Chip.holdCycle_engine (c : Chip) (y : CycleRecord) (why : HoldReason) :
  (c.holdCycle y why).engine = c.engine := rfl
@[simp] theorem Chip.holdCycle_scanner (c : Chip) (y : CycleRecord) (why : HoldReason) :
  (c.holdCycle y why).scanner = c.scanner := rfl
@[simp] theorem Chip.holdCycle_supply (c : Chip) (y : CycleRecord) (why : HoldReason) :
  (c.holdCycle y why).supply = c.supply := rfl
@[simp] theorem Chip.holdCycle_link (c : Chip) (y : CycleRecord) (why : HoldReason) :
  (c.holdCycle y why).link = c.link := rfl

@[simp] theorem Chip.askPort_pins (c : Chip) (y : CycleRecord) : (c.askPort y).pins = c.pins := rfl
@[simp] theorem Chip.askPort_draws (c : Chip) (y : CycleRecord) : (c.askPort y).draws = c.draws := rfl
@[simp] theorem Chip.askPort_map (c : Chip) (y : CycleRecord) : (c.askPort y).map = c.map := rfl
@[simp] theorem Chip.askPort_params (c : Chip) (y : CycleRecord) : (c.askPort y).params = c.params := rfl
@[simp] theorem Chip.askPort_monitor (c : Chip) (y : CycleRecord) : (c.askPort y).monitor = c.monitor := rfl
@[simp] theorem Chip.askPort_grant (c : Chip) (y : CycleRecord) : (c.askPort y).grant = c.grant := rfl
@[simp] theorem Chip.askPort_adu (c : Chip) (y : CycleRecord) : (c.askPort y).adu = c.adu := rfl
@[simp] theorem Chip.askPort_overlay (c : Chip) (y : CycleRecord) : (c.askPort y).overlay = c.overlay := rfl
@[simp] theorem Chip.askPort_engine (c : Chip) (y : CycleRecord) : (c.askPort y).engine = c.engine := rfl
@[simp] theorem Chip.askPort_scanner (c : Chip) (y : CycleRecord) : (c.askPort y).scanner = c.scanner := rfl
@[simp] theorem Chip.askPort_supply (c : Chip) (y : CycleRecord) : (c.askPort y).supply = c.supply := rfl
@[simp] theorem Chip.askPort_link (c : Chip) (y : CycleRecord) : (c.askPort y).link = c.link := rfl

theorem Chip.dropCycle_eq (c : Chip) : c.dropCycle = { c with bus := (c.dropCycle).bus } := by
  unfold Chip.dropCycle; split <;> rfl
@[simp] theorem Chip.dropCycle_pins (c : Chip) : (c.dropCycle).pins = c.pins := by rw [Chip.dropCycle_eq]
@[simp] theorem Chip.dropCycle_draws (c : Chip) : (c.dropCycle).draws = c.draws := by rw [Chip.dropCycle_eq]
@[simp] theorem Chip.dropCycle_map (c : Chip) : (c.dropCycle).map = c.map := by rw [Chip.dropCycle_eq]
@[simp] theorem Chip.dropCycle_params (c : Chip) : (c.dropCycle).params = c.params := by rw [Chip.dropCycle_eq]
@[simp] theorem Chip.dropCycle_monitor (c : Chip) : (c.dropCycle).monitor = c.monitor := by rw [Chip.dropCycle_eq]
@[simp] theorem Chip.dropCycle_grant (c : Chip) : (c.dropCycle).grant = c.grant := by rw [Chip.dropCycle_eq]
@[simp] theorem Chip.dropCycle_adu (c : Chip) : (c.dropCycle).adu = c.adu := by rw [Chip.dropCycle_eq]
@[simp] theorem Chip.dropCycle_overlay (c : Chip) : (c.dropCycle).overlay = c.overlay := by rw [Chip.dropCycle_eq]
@[simp] theorem Chip.dropCycle_engine (c : Chip) : (c.dropCycle).engine = c.engine := by rw [Chip.dropCycle_eq]
@[simp] theorem Chip.dropCycle_scanner (c : Chip) : (c.dropCycle).scanner = c.scanner := by rw [Chip.dropCycle_eq]
@[simp] theorem Chip.dropCycle_supply (c : Chip) : (c.dropCycle).supply = c.supply := by rw [Chip.dropCycle_eq]
@[simp] theorem Chip.dropCycle_link (c : Chip) : (c.dropCycle).link = c.link := by rw [Chip.dropCycle_eq]

/-! ## The queues (R136, R169) -/

theorem Chip.requestAppend_eq (c : Chip) (r : AppendRequest) :
    c.requestAppend r = { c with engine := (c.requestAppend r).engine } := by
  unfold Chip.requestAppend; split <;> rfl
@[simp] theorem Chip.requestAppend_pins (c : Chip) (r : AppendRequest) : (c.requestAppend r).pins = c.pins := by
  rw [Chip.requestAppend_eq]
@[simp] theorem Chip.requestAppend_draws (c : Chip) (r : AppendRequest) : (c.requestAppend r).draws = c.draws := by
  rw [Chip.requestAppend_eq]
@[simp] theorem Chip.requestAppend_bus (c : Chip) (r : AppendRequest) : (c.requestAppend r).bus = c.bus := by
  rw [Chip.requestAppend_eq]
@[simp] theorem Chip.requestAppend_map (c : Chip) (r : AppendRequest) : (c.requestAppend r).map = c.map := by
  rw [Chip.requestAppend_eq]
@[simp] theorem Chip.requestAppend_params (c : Chip) (r : AppendRequest) : (c.requestAppend r).params = c.params := by
  rw [Chip.requestAppend_eq]
@[simp] theorem Chip.requestAppend_monitor (c : Chip) (r : AppendRequest) :
  (c.requestAppend r).monitor = c.monitor := by rw [Chip.requestAppend_eq]
@[simp] theorem Chip.requestAppend_grant (c : Chip) (r : AppendRequest) : (c.requestAppend r).grant = c.grant := by
  rw [Chip.requestAppend_eq]
@[simp] theorem Chip.requestAppend_adu (c : Chip) (r : AppendRequest) : (c.requestAppend r).adu = c.adu := by
  rw [Chip.requestAppend_eq]
@[simp] theorem Chip.requestAppend_overlay (c : Chip) (r : AppendRequest) :
  (c.requestAppend r).overlay = c.overlay := by rw [Chip.requestAppend_eq]
@[simp] theorem Chip.requestAppend_scanner (c : Chip) (r : AppendRequest) :
  (c.requestAppend r).scanner = c.scanner := by rw [Chip.requestAppend_eq]
@[simp] theorem Chip.requestAppend_supply (c : Chip) (r : AppendRequest) : (c.requestAppend r).supply = c.supply := by
  rw [Chip.requestAppend_eq]
@[simp] theorem Chip.requestAppend_link (c : Chip) (r : AppendRequest) : (c.requestAppend r).link = c.link := by
  rw [Chip.requestAppend_eq]

@[simp] theorem Chip.append_pins (c : Chip) (source : AppendSource) (kind : AppendKind) :
  (c.append source kind).pins = c.pins := by simp [Chip.append]
@[simp] theorem Chip.append_draws (c : Chip) (source : AppendSource) (kind : AppendKind) :
  (c.append source kind).draws = c.draws := by simp [Chip.append]
@[simp] theorem Chip.append_bus (c : Chip) (source : AppendSource) (kind : AppendKind) :
  (c.append source kind).bus = c.bus := by simp [Chip.append]
@[simp] theorem Chip.append_map (c : Chip) (source : AppendSource) (kind : AppendKind) :
  (c.append source kind).map = c.map := by simp [Chip.append]
@[simp] theorem Chip.append_params (c : Chip) (source : AppendSource) (kind : AppendKind) :
  (c.append source kind).params = c.params := by simp [Chip.append]
@[simp] theorem Chip.append_monitor (c : Chip) (source : AppendSource) (kind : AppendKind) :
  (c.append source kind).monitor = c.monitor := by simp [Chip.append]
@[simp] theorem Chip.append_grant (c : Chip) (source : AppendSource) (kind : AppendKind) :
  (c.append source kind).grant = c.grant := by simp [Chip.append]
@[simp] theorem Chip.append_adu (c : Chip) (source : AppendSource) (kind : AppendKind) :
  (c.append source kind).adu = c.adu := by simp [Chip.append]
@[simp] theorem Chip.append_overlay (c : Chip) (source : AppendSource) (kind : AppendKind) :
  (c.append source kind).overlay = c.overlay := by simp [Chip.append]
@[simp] theorem Chip.append_scanner (c : Chip) (source : AppendSource) (kind : AppendKind) :
  (c.append source kind).scanner = c.scanner := by simp [Chip.append]
@[simp] theorem Chip.append_supply (c : Chip) (source : AppendSource) (kind : AppendKind) :
  (c.append source kind).supply = c.supply := by simp [Chip.append]
@[simp] theorem Chip.append_link (c : Chip) (source : AppendSource) (kind : AppendKind) :
  (c.append source kind).link = c.link := by simp [Chip.append]

@[simp] theorem Chip.appendClaimed_pins (c : Chip) (kind : AppendKind) : (c.appendClaimed kind).pins = c.pins := by
  simp [Chip.appendClaimed]
@[simp] theorem Chip.appendClaimed_draws (c : Chip) (kind : AppendKind) : (c.appendClaimed kind).draws = c.draws := by
  simp [Chip.appendClaimed]
@[simp] theorem Chip.appendClaimed_bus (c : Chip) (kind : AppendKind) : (c.appendClaimed kind).bus = c.bus := by
  simp [Chip.appendClaimed]
@[simp] theorem Chip.appendClaimed_map (c : Chip) (kind : AppendKind) : (c.appendClaimed kind).map = c.map := by
  simp [Chip.appendClaimed]
@[simp] theorem Chip.appendClaimed_params (c : Chip) (kind : AppendKind) :
  (c.appendClaimed kind).params = c.params := by simp [Chip.appendClaimed]
@[simp] theorem Chip.appendClaimed_monitor (c : Chip) (kind : AppendKind) :
  (c.appendClaimed kind).monitor = c.monitor := by simp [Chip.appendClaimed]
@[simp] theorem Chip.appendClaimed_grant (c : Chip) (kind : AppendKind) : (c.appendClaimed kind).grant = c.grant := by
  simp [Chip.appendClaimed]
@[simp] theorem Chip.appendClaimed_adu (c : Chip) (kind : AppendKind) : (c.appendClaimed kind).adu = c.adu := by
  simp [Chip.appendClaimed]
@[simp] theorem Chip.appendClaimed_overlay (c : Chip) (kind : AppendKind) :
  (c.appendClaimed kind).overlay = c.overlay := by simp [Chip.appendClaimed]
@[simp] theorem Chip.appendClaimed_scanner (c : Chip) (kind : AppendKind) :
  (c.appendClaimed kind).scanner = c.scanner := by simp [Chip.appendClaimed]
@[simp] theorem Chip.appendClaimed_supply (c : Chip) (kind : AppendKind) :
  (c.appendClaimed kind).supply = c.supply := by simp [Chip.appendClaimed]
@[simp] theorem Chip.appendClaimed_link (c : Chip) (kind : AppendKind) : (c.appendClaimed kind).link = c.link := by
  simp [Chip.appendClaimed]

@[simp] theorem Chip.requestSum_pins (c : Chip) (w : Win) (client : SumClient) :
  (c.requestSum w client).pins = c.pins := rfl
@[simp] theorem Chip.requestSum_draws (c : Chip) (w : Win) (client : SumClient) :
  (c.requestSum w client).draws = c.draws := rfl
@[simp] theorem Chip.requestSum_bus (c : Chip) (w : Win) (client : SumClient) : (c.requestSum w client).bus = c.bus :=
  rfl
@[simp] theorem Chip.requestSum_map (c : Chip) (w : Win) (client : SumClient) : (c.requestSum w client).map = c.map :=
  rfl
@[simp] theorem Chip.requestSum_params (c : Chip) (w : Win) (client : SumClient) :
  (c.requestSum w client).params = c.params := rfl
@[simp] theorem Chip.requestSum_monitor (c : Chip) (w : Win) (client : SumClient) :
  (c.requestSum w client).monitor = c.monitor := rfl
@[simp] theorem Chip.requestSum_grant (c : Chip) (w : Win) (client : SumClient) :
  (c.requestSum w client).grant = c.grant := rfl
@[simp] theorem Chip.requestSum_adu (c : Chip) (w : Win) (client : SumClient) : (c.requestSum w client).adu = c.adu :=
  rfl
@[simp] theorem Chip.requestSum_overlay (c : Chip) (w : Win) (client : SumClient) :
  (c.requestSum w client).overlay = c.overlay := rfl
@[simp] theorem Chip.requestSum_engine (c : Chip) (w : Win) (client : SumClient) :
  (c.requestSum w client).engine = c.engine := rfl
@[simp] theorem Chip.requestSum_supply (c : Chip) (w : Win) (client : SumClient) :
  (c.requestSum w client).supply = c.supply := rfl
@[simp] theorem Chip.requestSum_link (c : Chip) (w : Win) (client : SumClient) :
  (c.requestSum w client).link = c.link := rfl

/-! ## The scanner, the overlay, the grant and the start-up order -/

@[simp] theorem Chip.enterResult_pins (c : Chip) (w : Win) (result : ScanResult) (found : Option DWord) :
  (c.enterResult w result found).pins = c.pins := rfl
@[simp] theorem Chip.enterResult_draws (c : Chip) (w : Win) (result : ScanResult) (found : Option DWord) :
  (c.enterResult w result found).draws = c.draws := rfl
@[simp] theorem Chip.enterResult_bus (c : Chip) (w : Win) (result : ScanResult) (found : Option DWord) :
  (c.enterResult w result found).bus = c.bus := rfl
@[simp] theorem Chip.enterResult_map (c : Chip) (w : Win) (result : ScanResult) (found : Option DWord) :
  (c.enterResult w result found).map = c.map := rfl
@[simp] theorem Chip.enterResult_params (c : Chip) (w : Win) (result : ScanResult) (found : Option DWord) :
  (c.enterResult w result found).params = c.params := rfl
@[simp] theorem Chip.enterResult_monitor (c : Chip) (w : Win) (result : ScanResult) (found : Option DWord) :
  (c.enterResult w result found).monitor = c.monitor := rfl
@[simp] theorem Chip.enterResult_grant (c : Chip) (w : Win) (result : ScanResult) (found : Option DWord) :
  (c.enterResult w result found).grant = c.grant := rfl
@[simp] theorem Chip.enterResult_adu (c : Chip) (w : Win) (result : ScanResult) (found : Option DWord) :
  (c.enterResult w result found).adu = c.adu := rfl
@[simp] theorem Chip.enterResult_overlay (c : Chip) (w : Win) (result : ScanResult) (found : Option DWord) :
  (c.enterResult w result found).overlay = c.overlay := rfl
@[simp] theorem Chip.enterResult_engine (c : Chip) (w : Win) (result : ScanResult) (found : Option DWord) :
  (c.enterResult w result found).engine = c.engine := rfl
@[simp] theorem Chip.enterResult_supply (c : Chip) (w : Win) (result : ScanResult) (found : Option DWord) :
  (c.enterResult w result found).supply = c.supply := rfl
@[simp] theorem Chip.enterResult_link (c : Chip) (w : Win) (result : ScanResult) (found : Option DWord) :
  (c.enterResult w result found).link = c.link := rfl

@[simp] theorem Chip.setPage_pins (c : Chip) (p : PageNo) (page : Page) : (c.setPage p page).pins = c.pins := rfl
@[simp] theorem Chip.setPage_draws (c : Chip) (p : PageNo) (page : Page) : (c.setPage p page).draws = c.draws := rfl
@[simp] theorem Chip.setPage_bus (c : Chip) (p : PageNo) (page : Page) : (c.setPage p page).bus = c.bus := rfl
@[simp] theorem Chip.setPage_map (c : Chip) (p : PageNo) (page : Page) : (c.setPage p page).map = c.map := rfl
@[simp] theorem Chip.setPage_params (c : Chip) (p : PageNo) (page : Page) : (c.setPage p page).params = c.params := rfl
@[simp] theorem Chip.setPage_monitor (c : Chip) (p : PageNo) (page : Page) : (c.setPage p page).monitor = c.monitor :=
  rfl
@[simp] theorem Chip.setPage_grant (c : Chip) (p : PageNo) (page : Page) : (c.setPage p page).grant = c.grant := rfl
@[simp] theorem Chip.setPage_adu (c : Chip) (p : PageNo) (page : Page) : (c.setPage p page).adu = c.adu := rfl
@[simp] theorem Chip.setPage_engine (c : Chip) (p : PageNo) (page : Page) : (c.setPage p page).engine = c.engine := rfl
@[simp] theorem Chip.setPage_scanner (c : Chip) (p : PageNo) (page : Page) : (c.setPage p page).scanner = c.scanner :=
  rfl
@[simp] theorem Chip.setPage_supply (c : Chip) (p : PageNo) (page : Page) : (c.setPage p page).supply = c.supply := rfl
@[simp] theorem Chip.setPage_link (c : Chip) (p : PageNo) (page : Page) : (c.setPage p page).link = c.link := rfl

@[simp] theorem Chip.emptyGrant_pins (c : Chip) : (c.emptyGrant).pins = c.pins := rfl
@[simp] theorem Chip.emptyGrant_draws (c : Chip) : (c.emptyGrant).draws = c.draws := rfl
@[simp] theorem Chip.emptyGrant_bus (c : Chip) : (c.emptyGrant).bus = c.bus := rfl
@[simp] theorem Chip.emptyGrant_map (c : Chip) : (c.emptyGrant).map = c.map := rfl
@[simp] theorem Chip.emptyGrant_params (c : Chip) : (c.emptyGrant).params = c.params := rfl
@[simp] theorem Chip.emptyGrant_monitor (c : Chip) : (c.emptyGrant).monitor = c.monitor := rfl
@[simp] theorem Chip.emptyGrant_overlay (c : Chip) : (c.emptyGrant).overlay = c.overlay := rfl
@[simp] theorem Chip.emptyGrant_engine (c : Chip) : (c.emptyGrant).engine = c.engine := rfl
@[simp] theorem Chip.emptyGrant_scanner (c : Chip) : (c.emptyGrant).scanner = c.scanner := rfl
@[simp] theorem Chip.emptyGrant_supply (c : Chip) : (c.emptyGrant).supply = c.supply := rfl
@[simp] theorem Chip.emptyGrant_link (c : Chip) : (c.emptyGrant).link = c.link := rfl

@[simp] theorem Chip.atPhase_pins (c : Chip) (phase : StartPhase) : (c.atPhase phase).pins = c.pins := rfl
@[simp] theorem Chip.atPhase_draws (c : Chip) (phase : StartPhase) : (c.atPhase phase).draws = c.draws := rfl
@[simp] theorem Chip.atPhase_bus (c : Chip) (phase : StartPhase) : (c.atPhase phase).bus = c.bus := rfl
@[simp] theorem Chip.atPhase_map (c : Chip) (phase : StartPhase) : (c.atPhase phase).map = c.map := rfl
@[simp] theorem Chip.atPhase_params (c : Chip) (phase : StartPhase) : (c.atPhase phase).params = c.params := rfl
@[simp] theorem Chip.atPhase_monitor (c : Chip) (phase : StartPhase) : (c.atPhase phase).monitor = c.monitor := rfl
@[simp] theorem Chip.atPhase_grant (c : Chip) (phase : StartPhase) : (c.atPhase phase).grant = c.grant := rfl
@[simp] theorem Chip.atPhase_adu (c : Chip) (phase : StartPhase) : (c.atPhase phase).adu = c.adu := rfl
@[simp] theorem Chip.atPhase_overlay (c : Chip) (phase : StartPhase) : (c.atPhase phase).overlay = c.overlay := rfl
@[simp] theorem Chip.atPhase_engine (c : Chip) (phase : StartPhase) : (c.atPhase phase).engine = c.engine := rfl
@[simp] theorem Chip.atPhase_scanner (c : Chip) (phase : StartPhase) : (c.atPhase phase).scanner = c.scanner := rfl
@[simp] theorem Chip.atPhase_link (c : Chip) (phase : StartPhase) : (c.atPhase phase).link = c.link := rfl

/-! ## The gateway link (R191–R199) -/

@[simp] theorem Chip.notify_pins (c : Chip) (n : Notice) : (c.notify n).pins = c.pins := rfl
@[simp] theorem Chip.notify_draws (c : Chip) (n : Notice) : (c.notify n).draws = c.draws := rfl
@[simp] theorem Chip.notify_bus (c : Chip) (n : Notice) : (c.notify n).bus = c.bus := rfl
@[simp] theorem Chip.notify_map (c : Chip) (n : Notice) : (c.notify n).map = c.map := rfl
@[simp] theorem Chip.notify_params (c : Chip) (n : Notice) : (c.notify n).params = c.params := rfl
@[simp] theorem Chip.notify_monitor (c : Chip) (n : Notice) : (c.notify n).monitor = c.monitor := rfl
@[simp] theorem Chip.notify_grant (c : Chip) (n : Notice) : (c.notify n).grant = c.grant := rfl
@[simp] theorem Chip.notify_adu (c : Chip) (n : Notice) : (c.notify n).adu = c.adu := rfl
@[simp] theorem Chip.notify_overlay (c : Chip) (n : Notice) : (c.notify n).overlay = c.overlay := rfl
@[simp] theorem Chip.notify_engine (c : Chip) (n : Notice) : (c.notify n).engine = c.engine := rfl
@[simp] theorem Chip.notify_scanner (c : Chip) (n : Notice) : (c.notify n).scanner = c.scanner := rfl
@[simp] theorem Chip.notify_supply (c : Chip) (n : Notice) : (c.notify n).supply = c.supply := rfl

theorem Chip.watchLow_eq (c : Chip) (before : Nat) :
    c.watchLow before = { c with link := (c.watchLow before).link } := by
  unfold Chip.watchLow; split <;> rfl
@[simp] theorem Chip.watchLow_pins (c : Chip) (before : Nat) : (c.watchLow before).pins = c.pins := by
  rw [Chip.watchLow_eq]
@[simp] theorem Chip.watchLow_draws (c : Chip) (before : Nat) : (c.watchLow before).draws = c.draws := by
  rw [Chip.watchLow_eq]
@[simp] theorem Chip.watchLow_bus (c : Chip) (before : Nat) : (c.watchLow before).bus = c.bus := by
  rw [Chip.watchLow_eq]
@[simp] theorem Chip.watchLow_map (c : Chip) (before : Nat) : (c.watchLow before).map = c.map := by
  rw [Chip.watchLow_eq]
@[simp] theorem Chip.watchLow_params (c : Chip) (before : Nat) : (c.watchLow before).params = c.params := by
  rw [Chip.watchLow_eq]
@[simp] theorem Chip.watchLow_monitor (c : Chip) (before : Nat) : (c.watchLow before).monitor = c.monitor := by
  rw [Chip.watchLow_eq]
@[simp] theorem Chip.watchLow_grant (c : Chip) (before : Nat) : (c.watchLow before).grant = c.grant := by
  rw [Chip.watchLow_eq]
@[simp] theorem Chip.watchLow_adu (c : Chip) (before : Nat) : (c.watchLow before).adu = c.adu := by
  rw [Chip.watchLow_eq]
@[simp] theorem Chip.watchLow_overlay (c : Chip) (before : Nat) : (c.watchLow before).overlay = c.overlay := by
  rw [Chip.watchLow_eq]
@[simp] theorem Chip.watchLow_engine (c : Chip) (before : Nat) : (c.watchLow before).engine = c.engine := by
  rw [Chip.watchLow_eq]
@[simp] theorem Chip.watchLow_scanner (c : Chip) (before : Nat) : (c.watchLow before).scanner = c.scanner := by
  rw [Chip.watchLow_eq]
@[simp] theorem Chip.watchLow_supply (c : Chip) (before : Nat) : (c.watchLow before).supply = c.supply := by
  rw [Chip.watchLow_eq]

theorem Chip.completePending_eq (c : Chip) (echo : Byte) (code : ResultCode) :
    c.completePending echo code = { c with link := (c.completePending echo code).link } := by
  unfold Chip.completePending; split <;> rfl
@[simp] theorem Chip.completePending_pins (c : Chip) (echo : Byte) (code : ResultCode) :
  (c.completePending echo code).pins = c.pins := by rw [Chip.completePending_eq]
@[simp] theorem Chip.completePending_draws (c : Chip) (echo : Byte) (code : ResultCode) :
  (c.completePending echo code).draws = c.draws := by rw [Chip.completePending_eq]
@[simp] theorem Chip.completePending_bus (c : Chip) (echo : Byte) (code : ResultCode) :
  (c.completePending echo code).bus = c.bus := by rw [Chip.completePending_eq]
@[simp] theorem Chip.completePending_map (c : Chip) (echo : Byte) (code : ResultCode) :
  (c.completePending echo code).map = c.map := by rw [Chip.completePending_eq]
@[simp] theorem Chip.completePending_params (c : Chip) (echo : Byte) (code : ResultCode) :
  (c.completePending echo code).params = c.params := by rw [Chip.completePending_eq]
@[simp] theorem Chip.completePending_monitor (c : Chip) (echo : Byte) (code : ResultCode) :
  (c.completePending echo code).monitor = c.monitor := by rw [Chip.completePending_eq]
@[simp] theorem Chip.completePending_grant (c : Chip) (echo : Byte) (code : ResultCode) :
  (c.completePending echo code).grant = c.grant := by rw [Chip.completePending_eq]
@[simp] theorem Chip.completePending_adu (c : Chip) (echo : Byte) (code : ResultCode) :
  (c.completePending echo code).adu = c.adu := by rw [Chip.completePending_eq]
@[simp] theorem Chip.completePending_overlay (c : Chip) (echo : Byte) (code : ResultCode) :
  (c.completePending echo code).overlay = c.overlay := by rw [Chip.completePending_eq]
@[simp] theorem Chip.completePending_engine (c : Chip) (echo : Byte) (code : ResultCode) :
  (c.completePending echo code).engine = c.engine := by rw [Chip.completePending_eq]
@[simp] theorem Chip.completePending_scanner (c : Chip) (echo : Byte) (code : ResultCode) :
  (c.completePending echo code).scanner = c.scanner := by rw [Chip.completePending_eq]
@[simp] theorem Chip.completePending_supply (c : Chip) (echo : Byte) (code : ResultCode) :
  (c.completePending echo code).supply = c.supply := by rw [Chip.completePending_eq]

@[simp] theorem Chip.transactionStart_pins (c : Chip) : (c.transactionStart).pins = c.pins := rfl
@[simp] theorem Chip.transactionStart_draws (c : Chip) : (c.transactionStart).draws = c.draws := rfl
@[simp] theorem Chip.transactionStart_bus (c : Chip) : (c.transactionStart).bus = c.bus := rfl
@[simp] theorem Chip.transactionStart_map (c : Chip) : (c.transactionStart).map = c.map := rfl
@[simp] theorem Chip.transactionStart_params (c : Chip) : (c.transactionStart).params = c.params := rfl
@[simp] theorem Chip.transactionStart_monitor (c : Chip) : (c.transactionStart).monitor = c.monitor := rfl
@[simp] theorem Chip.transactionStart_grant (c : Chip) : (c.transactionStart).grant = c.grant := rfl
@[simp] theorem Chip.transactionStart_adu (c : Chip) : (c.transactionStart).adu = c.adu := rfl
@[simp] theorem Chip.transactionStart_overlay (c : Chip) : (c.transactionStart).overlay = c.overlay := rfl
@[simp] theorem Chip.transactionStart_engine (c : Chip) : (c.transactionStart).engine = c.engine := rfl
@[simp] theorem Chip.transactionStart_scanner (c : Chip) : (c.transactionStart).scanner = c.scanner := rfl
@[simp] theorem Chip.transactionStart_supply (c : Chip) : (c.transactionStart).supply = c.supply := rfl

@[simp] theorem Chip.rise_pins (c : Chip) (t : Transaction) (clocked : Nat) : (c.rise t clocked).pins = c.pins := rfl
@[simp] theorem Chip.rise_draws (c : Chip) (t : Transaction) (clocked : Nat) : (c.rise t clocked).draws = c.draws := rfl
@[simp] theorem Chip.rise_bus (c : Chip) (t : Transaction) (clocked : Nat) : (c.rise t clocked).bus = c.bus := rfl
@[simp] theorem Chip.rise_map (c : Chip) (t : Transaction) (clocked : Nat) : (c.rise t clocked).map = c.map := rfl
@[simp] theorem Chip.rise_params (c : Chip) (t : Transaction) (clocked : Nat) :
  (c.rise t clocked).params = c.params := rfl
@[simp] theorem Chip.rise_monitor (c : Chip) (t : Transaction) (clocked : Nat) :
  (c.rise t clocked).monitor = c.monitor := rfl
@[simp] theorem Chip.rise_grant (c : Chip) (t : Transaction) (clocked : Nat) : (c.rise t clocked).grant = c.grant := rfl
@[simp] theorem Chip.rise_adu (c : Chip) (t : Transaction) (clocked : Nat) : (c.rise t clocked).adu = c.adu := rfl
@[simp] theorem Chip.rise_overlay (c : Chip) (t : Transaction) (clocked : Nat) :
  (c.rise t clocked).overlay = c.overlay := rfl
@[simp] theorem Chip.rise_engine (c : Chip) (t : Transaction) (clocked : Nat) :
  (c.rise t clocked).engine = c.engine := rfl
@[simp] theorem Chip.rise_scanner (c : Chip) (t : Transaction) (clocked : Nat) :
  (c.rise t clocked).scanner = c.scanner := rfl
@[simp] theorem Chip.rise_supply (c : Chip) (t : Transaction) (clocked : Nat) :
  (c.rise t clocked).supply = c.supply := rfl

@[simp] theorem Chip.answer_pins (c : Chip) (echo : Byte) (code : ResultCode) (payload : List Byte) :
  (c.answer echo code payload).pins = c.pins := rfl
@[simp] theorem Chip.answer_draws (c : Chip) (echo : Byte) (code : ResultCode) (payload : List Byte) :
  (c.answer echo code payload).draws = c.draws := rfl
@[simp] theorem Chip.answer_bus (c : Chip) (echo : Byte) (code : ResultCode) (payload : List Byte) :
  (c.answer echo code payload).bus = c.bus := rfl
@[simp] theorem Chip.answer_map (c : Chip) (echo : Byte) (code : ResultCode) (payload : List Byte) :
  (c.answer echo code payload).map = c.map := rfl
@[simp] theorem Chip.answer_params (c : Chip) (echo : Byte) (code : ResultCode) (payload : List Byte) :
  (c.answer echo code payload).params = c.params := rfl
@[simp] theorem Chip.answer_monitor (c : Chip) (echo : Byte) (code : ResultCode) (payload : List Byte) :
  (c.answer echo code payload).monitor = c.monitor := rfl
@[simp] theorem Chip.answer_grant (c : Chip) (echo : Byte) (code : ResultCode) (payload : List Byte) :
  (c.answer echo code payload).grant = c.grant := rfl
@[simp] theorem Chip.answer_adu (c : Chip) (echo : Byte) (code : ResultCode) (payload : List Byte) :
  (c.answer echo code payload).adu = c.adu := rfl
@[simp] theorem Chip.answer_overlay (c : Chip) (echo : Byte) (code : ResultCode) (payload : List Byte) :
  (c.answer echo code payload).overlay = c.overlay := rfl
@[simp] theorem Chip.answer_engine (c : Chip) (echo : Byte) (code : ResultCode) (payload : List Byte) :
  (c.answer echo code payload).engine = c.engine := rfl
@[simp] theorem Chip.answer_scanner (c : Chip) (echo : Byte) (code : ResultCode) (payload : List Byte) :
  (c.answer echo code payload).scanner = c.scanner := rfl
@[simp] theorem Chip.answer_supply (c : Chip) (echo : Byte) (code : ResultCode) (payload : List Byte) :
  (c.answer echo code payload).supply = c.supply := rfl

/-! ## The whole state -/

@[simp] theorem State.onChip_pending (f : Chip → Chip) (s : State) : (s.onChip f).pending = s.pending := by
  unfold State.onChip; split <;> rfl
@[simp] theorem State.onChip_supplied (f : Chip → Chip) (s : State) : (s.onChip f).supplied = s.supplied := by
  unfold State.onChip; split <;> rfl
@[simp] theorem State.onChip_fuse (f : Chip → Chip) (s : State) : (s.onChip f).fuse = s.fuse := by
  unfold State.onChip; split <;> rfl
@[simp] theorem State.onChip_memory (f : Chip → Chip) (s : State) : (s.onChip f).memory = s.memory := by
  unfold State.onChip; split <;> rfl

@[simp] theorem State.onPin_pending (pin : Pins → Pins) (f : Chip → Chip) (s : State) :
  (s.onPin pin f).pending = s.pending := by
  unfold State.onPin; split <;> rfl
@[simp] theorem State.onPin_supplied (pin : Pins → Pins) (f : Chip → Chip) (s : State) :
  (s.onPin pin f).supplied = s.supplied := by
  unfold State.onPin; split <;> rfl
@[simp] theorem State.onPin_fuse (pin : Pins → Pins) (f : Chip → Chip) (s : State) :
  (s.onPin pin f).fuse = s.fuse := by
  unfold State.onPin; split <;> rfl
@[simp] theorem State.onPin_memory (pin : Pins → Pins) (f : Chip → Chip) (s : State) :
  (s.onPin pin f).memory = s.memory := by
  unfold State.onPin; split <;> rfl

end Sys2Proof.Machine
end

