-- ==== Sys2Proof/Laws/Blocks.lean ====
section
/-! SUPPORT. What the operations that the blocks share can do, said once: the append queue, end causes and the entry to
ENDING, the withdrawal of a cycle, page words, and the judgement of a window. -/

namespace Sys2Proof.Machine

/-! ## The append queue (R136) -/

/-- With a place an append request joins at the end of the queue. -/
theorem Chip.requestAppend_of_place (c : Chip) (r : AppendRequest) (h : c.engine.queue.length < 8) :
    c.requestAppend r = { c with engine := { c.engine with queue := c.engine.queue ++ [r] } } := by
  simp [Chip.requestAppend, Chip.queueHasPlace, Config.appendPlaces, h]

/-- Without a place it waits for one, behind those that wait already. -/
theorem Chip.requestAppend_of_full (c : Chip) (r : AppendRequest) (h : 8 ≤ c.engine.queue.length) :
    c.requestAppend r = { c with engine := { c.engine with waiting := c.engine.waiting ++ [.append r] } } := by
  simp [Chip.requestAppend, Chip.queueHasPlace, Config.appendPlaces, Nat.not_lt.mpr h]

/-- An append request, with a place or without, changes the queue and the waiting list alone. -/
theorem Chip.requestAppend_cases (c : Chip) (r : AppendRequest) :
    c.requestAppend r = { c with engine := { c.engine with queue := c.engine.queue ++ [r] } }
      ∨ c.requestAppend r = { c with engine := { c.engine with waiting := c.engine.waiting ++ [.append r] } } := by
  unfold Chip.requestAppend
  split
  · exact .inl rfl
  · exact .inr rfl

/-! ## An append that is not written (R137) -/

/-- But where an adoption's pass goes on beside a grant, the requester is told first and the records-full cause is sent
next. -/
theorem Chip.notWrittenTold_of_alone (c : Chip) (r : AppendRequest) (h : c.adoptionMeetsGrant r = false) :
    c.notWrittenTold r =
      if r.kind.isGrantBegin then c.tellNotWritten r else (c.tellNotWritten r).endCause .recordsFull := by
  simp [Chip.notWrittenTold, h]

/-- With no pass running nothing waits for an adoption. -/
theorem Chip.adoptionMeetsGrant_of_no_pass (c : Chip) (r : AppendRequest) (h : c.scanner.pass = none) :
    c.adoptionMeetsGrant r = false := by
  unfold Chip.adoptionMeetsGrant
  rw [h]
  split <;> simp_all

/-- Only a WINDOW_SUM of cause INTERRUPTED_REFLASH is an adoption. -/
theorem Chip.adoptionMeetsGrant_of_kind (c : Chip) (r : AppendRequest)
    (h : ∀ w sum, r.kind ≠ .windowSum w .interruptedReflash sum) : c.adoptionMeetsGrant r = false := by
  unfold Chip.adoptionMeetsGrant
  split
  · next hk _ => exact absurd hk (h _ _)
  · rfl

/-! ## A write lost with the supply (R21, R138) -/

/-- The low byte of two bytes joined. -/
theorem lowByte_append (high low : Byte) : lowByte (high ++ low) = low := by
  ext i hi
  have h := BitVec.getLsbD_append (x := high) (y := low) (i := i)
  simp only [hi] at h
  simpa [lowByte, hi] using h

/-- Of the last write of a record the devices keep the whole word, or a kind code that is VOID. -/
theorem Chip.keptWord_last (c : Chip) (q : AppendRequest) (t : Option Taken) (a : Addr) (w : Word)
    (h : c.engine.progress = some ⟨q, t, .slot [(a, w)]⟩) :
    c.keptWord .R = w ∨ lowByte (c.keptWord .R) = 0#8 := by
  simp only [Chip.keptWord, h]
  split
  · exact .inl rfl
  · exact .inr (lowByte_append _ _)

/-- Of the first of a record's 17 writes they keep a kind code that is VOID. -/
theorem Chip.keptWord_first (c : Chip) (q : AppendRequest) (t : Option Taken) (ws : List (Addr × Word))
    (h : c.engine.progress = some ⟨q, t, .slot ws⟩) (hn : ws.length = 17) : lowByte (c.keptWord .R) = 0#8 := by
  match ws, hn with
  | x :: y :: rest, hn =>
    simp only [Chip.keptWord, h, hn, if_true]
    exact lowByte_append _ _

/-! ## Changes made together (R136) -/

/-- Changes made in order keep what each of them keeps. -/
theorem Chip.inOrder_keeps (P : Chip → Prop) (fs : List (Chip → Chip)) (hf : ∀ f ∈ fs, ∀ c, P c → P (f c)) :
    ∀ c, P c → P (c.inOrder fs) := by
  induction fs with
  | nil => exact fun c hc => hc
  | cons f fs ih =>
    exact fun c hc =>
      ih (fun g hg => hf g (List.mem_cons_of_mem f hg)) (f c) (hf f List.mem_cons_self c hc)

/-- Two chains of changes made together keep what each change keeps, whatever the free values say, if drawing a free value
keeps it. -/
theorem Chip.together_keeps (P : Chip → Prop) (hd : ∀ c, P c → P c.drawn) (n : Nat) :
    ∀ (fs gs : List (Chip → Chip)), (∀ f ∈ fs ++ gs, ∀ c, P c → P (f c)) → ∀ c, P c → P (Chip.together n fs gs c) := by
  induction n with
  | zero => exact fun fs gs hf c hc => by simpa [Chip.together] using Chip.inOrder_keeps P _ hf c hc
  | succ n ih =>
    intro fs gs hf c hc
    match fs, gs with
    | [], gs => simpa [Chip.together] using Chip.inOrder_keeps P _ hf c hc
    | f :: fs, [] => simpa [Chip.together] using Chip.inOrder_keeps P _ hf c hc
    | f :: fs, g :: gs =>
      have hc' := hd c hc
      unfold Chip.together
      split
      · exact ih (f :: fs) gs (fun k hk => hf k (by simp at hk ⊢; tauto)) _ (hf g (by simp) _ hc')
      · exact ih fs (g :: gs) (fun k hk => hf k (by simp at hk ⊢; tauto)) _ (hf f (by simp) _ hc')

/-- A sum with one requester is handed to it alone, and no free value is drawn (R170). -/
theorem Chip.deliver_one (c : Chip) (w : Win) (sum : DWord) (client : SumClient) :
    c.deliver w sum [client] = c.inOrder (client.takes w sum) := by
  cases client <;> rfl

/-! ## End causes (R67, R75–R79) -/

/-- The entry to ENDING with a commit in flight waits for it (R77). -/
theorem Chip.beginEnding_of_commit (c : Chip) (reason : EndReason) (h : c.commitInFlight = true) :
    c.beginEnding reason = { c with grant := { c.grant with
      state := .ending
      step := .commit
      record := { c.grant.record with endReason := some reason, suspendRemaining := none } } } := by
  simp [Chip.beginEnding, h]

/-- An end cause ends a grant in force (R75). -/
theorem Chip.endCause_of_inForce (c : Chip) (reason : EndReason)
    (h : c.grant.state = .active ∨ c.grant.state = .suspended) : c.endCause reason = c.beginEnding reason := by
  rcases h with h | h <;> simp [Chip.endCause, h]

/-- An end cause becomes the pending end reason of a grant in OPENING that has none (R67). -/
theorem Chip.endCause_of_opening (c : Chip) (reason : EndReason) (h : c.grant.state = .opening) :
    c.endCause reason = { c with grant := { c.grant with record := { c.grant.record with
      pendingEnd := if c.grant.record.pendingEnd = none then some reason else c.grant.record.pendingEnd } } } := by
  obtain ⟨pins, bus, map, params, monitor, grant, adu, overlay, engine, scanner, supply, link, draws⟩ := c
  obtain ⟨state, record, step, lastEnd, view, strikes, decay⟩ := grant
  subst h
  simp only [Chip.endCause]
  split <;> rfl

/-- An end cause has no effect without a grant, or with one that ends already (R75). -/
theorem Chip.endCause_of_idle (c : Chip) (reason : EndReason)
    (h : c.grant.state = .idle ∨ c.grant.state = .ending) : c.endCause reason = c := by
  rcases h with h | h <;> simp [Chip.endCause, h]

/-- With no closing sum left the GRANT_END append is queued (R79). -/
theorem Chip.closeWindows_nil (c : Chip) :
    c.closeWindows [] = { c with grant := { c.grant with step := .grantEnd } }.append .grant c.grant.record.endAppend :=
  rfl

/-- With windows left the first one's sum is still to be asked for (R78). -/
theorem Chip.closeWindows_cons (c : Chip) (w : Win) (ws : List Win) :
    c.closeWindows (w :: ws) = { c with grant := { c.grant with step := .closing (w :: ws) false } } := rfl

/-! ## Cycles -/

/-- A cycle given up before ready follows the table of R13. -/
theorem Chip.dropCycle_bus (c : Chip) : c.dropCycle.bus = c.bus.dropped := by
  obtain ⟨pins, bus, map, params, monitor, grant, adu, overlay, engine, scanner, supply, link, draws⟩ := c
  unfold Chip.dropCycle BusPath.dropped
  cases bus.port with
  | held y why => cases why <;> simp
  | _ => simp

/-- The end of parking changes the memory port alone (R16). -/
theorem Chip.unpark_bus (c : Chip) : c.unpark.bus = { c.bus with memPort := c.bus.memPort.unparked } := by
  obtain ⟨pins, bus, map, params, monitor, grant, adu, overlay, engine, scanner, supply, link, draws⟩ := c
  unfold Chip.unpark MemPort.unparked
  cases hm : bus.memPort <;> simp [← hm]

/-- A served-write report for a window in the scope of a grant in force restarts its idle timer (R72). -/
theorem Chip.reportServed_of_scope (c : Chip) (w : Win) (h : c.grant.state = .active ∨ c.grant.state = .suspended)
    (hw : hasWin c.grant.record.scope w = true) :
    c.reportServed (.window w) = { c with grant := { c.grant with record := { c.grant.record with
      idleRemaining := 15 * 2 ^ c.grant.record.idleChoice } } } := by
  simp [Chip.reportServed, h, hw, idleLimit]

/-! ## Page words (R108) -/

/-- The page that has been set. -/
theorem Chip.setPage_get_self (c : Chip) (p : PageNo) (page : Page) : (c.setPage p page).overlay.pages[p] = page := by
  simp [Chip.setPage]

/-- Every other page stays as it was. -/
theorem Chip.setPage_get_ne (c : Chip) (p q : PageNo) (page : Page) (h : q ≠ p) :
    (c.setPage p page).overlay.pages[q] = c.overlay.pages[q] := by
  have hv : p.val ≠ q.val := fun e => h (Fin.ext e.symm)
  simp [Chip.setPage, hv]

/-- A page word other than the one set stays as it was. -/
theorem Page.word_setWord_ne (p : Page) (n m : Nat) (w : PageWord) (h : m ≠ n) :
    (p.setWord n w).word m = p.word m := Sparse.get_set_ne PageWord.cleared p.words n m w h

/-- A page word that has been set to something other than the cleared word reads as that. -/
theorem Page.word_setWord_self (p : Page) (n : Nat) (w : PageWord) (h : w ≠ PageWord.cleared) :
    (p.setWord n w).word n = w := Sparse.get_set_self_of_ne PageWord.cleared p.words n w h

/-- Setting a page word leaves the page's state. -/
@[simp] theorem Page.setWord_state (p : Page) (n : Nat) (w : PageWord) : (p.setWord n w).state = p.state := rfl

/-! ## Judgements (R163) -/

/-- A window that the skip condition names is SKIPPED. -/
theorem Chip.judge_of_skips (c : Chip) (w : Win) (found : DWord) (h : c.skips w = true) :
    c.judge w found = (c.enterResult w .skipped none, none) := by
  simp [Chip.judge, h]

/-- A window without a mark whose sum is its reference is a MATCH. -/
theorem Chip.judge_of_match (c : Chip) (w : Win) (found : DWord) (h : c.skips w = false)
    (hm : hasWin c.scanner.marks w = false) (hr : c.scanner.references[w] = some found) :
    c.judge w found = (c.enterResult w .matched (some found), none) := by
  have hr' : c.scanner.references[w.val] = some found := hr
  simp [Chip.judge, h, hm, hr']

/-- A window with a reflash mark is ADOPTED, and its judgement waits for the append. -/
theorem Chip.judge_of_mark (c : Chip) (w : Win) (found : DWord) (h : c.skips w = false)
    (hm : hasWin c.scanner.marks w = true) :
    c.judge w found
      = ((c.enterResult w .adopted (some found)).adopt w found, some (.adopting c.scanner.tickets)) := by
  simp [Chip.judge, h, hm]

/-- Without a grant in force or in OPENING, what tamper brings about is the set, the notice and the TAMPER request: the
tamper cause has no effect, in whichever order the two are made (R75, R171). -/
theorem Chip.tamperFound_of_idle (c : Chip) (w : Win) (found : DWord)
    (h : c.grant.state = .idle ∨ c.grant.state = .ending) :
    c.tamperFound w found =
      (({ c with scanner := { c.scanner with
            tamper := addWin c.scanner.tamper w, tickets := c.scanner.tickets + 1 } }.notify .tamperFound).drawn.requestAppend
          ⟨.tamper w c.scanner.references[w] found, .scanner, false, c.scanner.tickets⟩, c.queueHasPlace) := by
  have hcause : ∀ d : Chip, d.grant = c.grant → d.tamperCause = d := fun d hd => by
    unfold Chip.tamperCause
    split
    · rfl
    · exact Chip.endCause_of_idle d .tamper (by rwa [hd])
  have hreq : ∀ (d : Chip) (r : AppendRequest), (d.requestAppend r).grant = d.grant := fun d r => by
    unfold Chip.requestAppend
    split <;> rfl
  have hc : ({ c with scanner := { c.scanner with
      tamper := addWin c.scanner.tamper w, tickets := c.scanner.tickets + 1 } }.notify .tamperFound).drawn.grant
        = c.grant := rfl
  simp only [Chip.tamperFound, hcause _ hc, hcause _ ((hreq _ _).trans hc)]
  split <;> rfl

/-- A pass with no window left completes (R165). -/
theorem Chip.passOn_nil (c : Chip) : Chip.passOn [] c = c.passComplete := rfl

end Sys2Proof.Machine
end

