-- ==== Sys2Proof/Laws/Link.lean ====
section
/-! SUPPORT. What the rise of SEL_N can do (R191–R193, R196), said once for every request. -/

namespace Sys2Proof.Machine

/-- The rise of SEL_N of a transaction with a snapshot. -/
theorem Chip.rise_of_snapshot (c : Chip) (snap : Snapshot) (n : Nat) (h : c.link.transaction = some ⟨some snap⟩) :
    c.rise c.current n = { c with link := c.link.risen snap n } := by
  simp [Chip.rise, Chip.current, h, Link.risen, Transaction.sent, Transaction.clearsOverrun]

/-- The rise of SEL_N of a transaction whose receiver was STOPPED at the fall: only FFh was sent. -/
theorem Chip.rise_of_stopped (c : Chip) (n : Nat) (h : c.link.transaction = some ⟨none⟩) :
    c.rise c.current n
      = { c with link := { c.link with transaction := none, sdo := List.replicate n 0xFF#8 } } := by
  simp [Chip.rise, Chip.current, h, Transaction.sent, Transaction.clearsOverrun]

/-- A request taken by a listening link reaches its owner, after the rise (R193 row 6). -/
theorem Chip.request_of_listening (c : Chip) (snap : Snapshot) (length filler : Nat) (owner : Chip → Chip)
    (h : c.listening snap) :
    c.request length filler owner = owner { c with link := c.link.risen snap (length + 3 + filler) } := by
  have hs : c.current.snapshot.isSome = true := by simp [Chip.current, h.1]
  simp only [Chip.request, c.rise_of_snapshot snap _ h.1, hs, if_true, Chip.takeRequest, frameBytes]
  simp [Link.risen, h.2]

/-- A request that finds a reply PENDING is lost with the overrun flag set (R193 row 2). -/
theorem Chip.request_of_pending (c : Chip) (snap : Snapshot) (length filler : Nat) (owner : Chip → Chip)
    (h : c.link.transaction = some ⟨some snap⟩) (hp : c.link.reply.code = .pending) :
    c.request length filler owner
      = { c with link := { c.link.risen snap (length + 3 + filler) with overrun := true } } := by
  have hs : c.current.snapshot.isSome = true := by simp [Chip.current, h]
  simp only [Chip.request, c.rise_of_snapshot snap _ h, hs, if_true, Chip.takeRequest, frameBytes]
  simp [Link.risen, hp]

/-- No request is taken in a transaction whose receiver was STOPPED at the fall (R191). -/
theorem Chip.request_of_stopped (c : Chip) (length filler : Nat) (owner : Chip → Chip)
    (h : c.link.transaction = some ⟨none⟩) :
    c.request length filler owner
      = { c with link := { c.link with
          transaction := none, sdo := List.replicate (length + 3 + filler) 0xFF#8 } } := by
  have hs : c.current.snapshot.isSome = false := by simp [Chip.current, h]
  simp [Chip.request, c.rise_of_stopped _ h, hs, frameBytes]

end Sys2Proof.Machine
end

