-- ==== Sys2Proof/WellFormed.lean ====
section
/-! DEFINITION. Which commands can occur as written: the checks that the syntax itself does not make. -/

namespace Sys2Proof

/-- A command as its row describes it: an arrival has a strobe (R1), and the rise that UNKNOWN stands for follows at
least one whole byte (R192, row 1: with none the frame is empty, which is TRANSACTION_END's row). -/
def Instr.wellFormed : Instr → Bool
  | .processorCycleArrival c => c.readStrobe || c.writeStrobe
  | .unknown bytes => !bytes.isEmpty
  | _ => true

end Sys2Proof
end

