-- ==== Sys2Proof/Tests/Slice0.lean ====
section
/-! SUPPORT. The tests: ill-formed commands refused, the manual's worked examples, and for every statement with
hypotheses a state and operands that meet them together. -/

namespace Sys2Proof.Tests

open Sys2Proof Sys2Proof.Machine

/-! ## Ill-formed commands (R1, R192) -/

theorem test_arrival_without_strobe_refused :
    (Instr.processorCycleArrival ⟨0#24, true, true, false, false, 0#16⟩).wellFormed = false := by decide

theorem test_empty_unknown_refused : (Instr.unknown []).wellFormed = false := by decide

theorem test_arrival_with_strobe_wellFormed :
    (Instr.processorCycleArrival ⟨0#24, true, true, true, false, 0#16⟩).wellFormed = true := by decide

/-! ## The manual's worked examples -/

/-- Section 8.8.1: the sum of four words, in three orders. -/
theorem test_windowSum_example : windowSum [0x0102#16, 0x0304#16, 0xFFFF#16, 0x0000#16] = 0x0D160406#32
    ∧ windowSum [0x0000#16, 0xFFFF#16, 0x0304#16, 0x0102#16] = 0x070B0406#32
    ∧ windowSum [0x0102#16, 0x0304#16, 0x0000#16] = 0x09110407#32 := by decide

/-- Section 3.8.2: the speed cases. -/
theorem test_engineSpeed_example : engineSpeed Params.default.engine 2036 = 491
    ∧ engineSpeed ⟨.mhz1, .both, 4, 60⟩ 5000 = 400 ∧ engineSpeed Params.default.engine 61 = 16383
    ∧ engineSpeed Params.default.engine 62 = 16129 := by decide
theorem test_roadSpeed_example : roadSpeed Params.default.road 900 = 312 ∧ roadSpeed Params.default.road 131071 = 2
    ∧ (⟨true, 0#16, 2, none, .high, 0, some 0#16, 2⟩ : CaptureChannel).captureSpeed (roadSpeed Params.default.road) = some 0
    := by decide

/-- Section 3.8.2, first case: the period from counter 65000 to counter 1500 after one wrap. -/
theorem test_period_example :
    (⟨true, 1500#16, 1, none, .high, 0, none, 0⟩ : CaptureChannel).period 65000#16 = 2036 := by decide

/-- Section 6.9.1: limit records 4 to 7. -/
def limit4 : LimitRecord := ⟨0x000000C8FF38010100410901#96, .enabled, none⟩
def limit5 : LimitRecord := ⟨0x00647FFF8000010100420901#96, .enabled, none⟩
def limit6 : LimitRecord := ⟨0x003202EE0226020000430901#96, .enabled, none⟩
def limit7 : LimitRecord := ⟨0x0000FF9C0064010100460901#96, .enabled, none⟩

/-- Section 6.9.3, cases A to D: the merge of the lanes, and the bounds of a SIGNED record. -/
theorem test_limit_signed_example :
    (captureCycle ⟨0#24, false, true, false, true, 0x0155#16⟩).merge 0x0064#16 = 0x0164#16
    ∧ limit4.apply 0x0164#16 0x0064#16 = 0x00C8#16 ∧ limit4.apply 0xFF64#16 0x0064#16 = 0xFF64#16
    ∧ limit4.apply 0xFFC8#16 0x0064#16 = 0xFFC8#16 ∧ limit4.apply 0x8000#16 0x0064#16 = 0xFF38#16 := by decide

/-- Section 6.9.3, cases E and F: the step range does not wrap. -/
theorem test_limit_step_example : limit5.apply 0x8000#16 0x7FF0#16 = 0x7F8C#16
    ∧ limit5.apply 0x7FFF#16 0x7FF0#16 = 0x7FFF#16 := by decide

/-- Section 6.9.3, cases G to I: the bounds prevail over the step. -/
theorem test_limit_bounds_example : limit6.apply 0x0316#16 0x0320#16 = 0x02EE#16
    ∧ limit6.apply 0x0320#16 0x0320#16 = 0x02EE#16 ∧ limit6.apply 0x0258#16 0x0320#16 = 0x02EE#16 := by decide

/-- Section 6.9.1: record 7 is frozen, records 4 and 6 are not. -/
theorem test_frozen_example : limit7.frozen = true ∧ limit4.frozen = false ∧ limit6.frozen = false := by decide

/-- Chapter 11, section 11.4: a frame of three zero bytes is a well-formed NOP. -/
theorem test_zero_frame_is_nop : frameOf 0x00#8 [] = [0#8, 0#8, 0#8] := by decide

/-! ## A part in use, for the witnesses

ACTIVE with the gate open and the survey over; TRIM window 5 (page 0) at 010000h, CALIBRATION window 4 from 000000h,
KEYS window 0 at 040000h, the image at 020000h and the record area at 021000h. -/

def trimRaw : BitVec 64 := 0x00010000800A0301#64
def calibrationRaw : BitVec 64 := 0x00000000000A0201#64
def keysRaw : BitVec 64 := 0x00040000000A0501#64

def map0 : WindowMap where
  descriptors := (((Vector.replicate 24 (⟨0#64, .switchedOff, none⟩ : Descriptor)).set 0 ⟨keysRaw, .enabled, none⟩).set 4
    ⟨calibrationRaw, .enabled, none⟩).set 5 ⟨trimRaw, .enabled, none⟩
  imageBase := some 0x020000#24
  record := some ⟨0x021000#24, 12⟩
  background := .openWindow
  bindings := (Vector.replicate 8 none).set 0 (some 5)
  scanGroup := [4]
  loadFaults := []

def snap0 : Snapshot := ⟨⟨.empty, 0#8, []⟩, false⟩

def chip0 : Chip :=
  let c := Chip.powerOn .reset 0
  { c with
    bus := { c.bus with gate := ⟨false, false, false⟩ }
    map := map0
    params := { c.params with image := .valid }
    supply := { c.supply with
      power := .active, filtered := .on, stability := false, startUp := { c.supply.startUp with phase := .ended } }
    scanner := { c.scanner with cycleChecked := true }
    link := { c.link with transaction := some ⟨some snap0⟩ } }

/-- The state of a chip in use. -/
def run (c : Chip) : State := { State.reset with chip := c }

/-- The part with a grant in force, every window in its scope. -/
def granted (l : Level) : Chip :=
  { chip0 with grant := { chip0.grant with
      state := .active
      view := ⟨.stopped, .stationary, .applied⟩
      record := { GrantRecord.empty with
        level := some l, scope := 0xFFFFFF#24, duration := 60, idleChoice := 2, remaining := 3600, idleRemaining := 60,
        beginSeq := 1 } } }

/-- The part with the port carrying a transfer. -/
def busy (who : Requester) (t : Transfer) (c : Chip) : Chip :=
  { c with bus := { c.bus with memPort := .busy who t true } }

/-- With the supply up, a busy or settled port and a power state other than AFTER_RUN, a state is calm. -/
theorem calm_of (c : Chip) (h : c.supply.power ≠ .afterRun)
    (hr : c.bus.requestP = none ∧ c.bus.requestR = none ∧ c.bus.requestL = none ∧ c.bus.requestS = none) :
    (run c).calm := ⟨rfl, fun _ => hr, fun hp => absurd hp h⟩

theorem settled_of (c : Chip)
    (hr : c.bus.requestP = none ∧ c.bus.requestR = none ∧ c.bus.requestL = none ∧ c.bus.requestS = none) : c.settled :=
  fun _ => hr

theorem staysUp_of (c : Chip) (h : c.supply.power ≠ .afterRun) : c.staysUp := fun hp => absurd hp h

/-! ## The map of the part in use, by the rules of chapter 2 -/

theorem test_trim_word_resolves : map0.resolve 0x010004#24 = ⟨.window 5, .site .trim, some 0, 2, false⟩ := by decide
theorem test_calibration_word_resolves : map0.resolve 0x000004#24 = ⟨.window 4, .site .calibration, none, 0, false⟩ := by
  decide
theorem test_first_served_word : chip0.servedAt 0 0 = some (0, 0x010000#24) := by rfl
theorem test_no_word_above_the_span : chip0.servedAt 0 512 = none := by decide

/-! ## Witnesses: the invariants -/

theorem witness_step : (({ run chip0 with pending := [.secondTick, .nop 0] } : State).pending = [.secondTick, .nop 0]) := rfl

theorem witness_boundary : (run chip0).boundary := fun _ => ⟨settled_of _ (by decide), by decide⟩

/-- A PASS read in TRANSFER, the strike count at 3, one refusal, and a grant in force: every invariant holds. -/
def chip1 : Chip :=
  let y : CycleRecord := ⟨0x000004#24, true, true, .read, 0#16, some ⟨.pass, none, none, false, map0.resolve 0x000004#24⟩⟩
  let c := granted .adjust
  { c with
    bus := { c.bus with port := .transfer y false, memPort := .busy .P ⟨0x000004#24, .read⟩ true, starvation := 3 }
    grant := { c.grant with strikes := 3 }
    adu := { c.adu with refusals := [⟨.window 0, .read, .hidden, 0x040000#24, 2, none⟩] } }

theorem witness_portsAgree : chip1.portsAgree := ⟨rfl, true, rfl⟩
theorem witness_refusalsOk : chip1.refusalsOk := by unfold Chip.refusalsOk; decide
theorem witness_lockoutSound : chip1.lockoutSound := by unfold Chip.lockoutSound; decide
theorem witness_inRanges : chip1.inRanges := by unfold Chip.inRanges; decide
theorem witness_memoryWf : ({ run chip1 with memory := [(4, 0x12#8), (5, 0x34#8)] } : State).memoryWf := by
  unfold State.memoryWf; decide
theorem witness_archiveMark : chip1.supply.startUp.phase = .ended
    ∧ (∀ n, Waiter.archived n ∈ chip1.engine.waiting → chip1.engine.mark ≤ n)
    ∧ exec .strobeRelease (run chip1) = .next ((run chip1).onChip Chip.strobeReleased) :=
  ⟨rfl, fun n h => absurd (show Waiter.archived n ∈ ([] : List Waiter) from h) List.not_mem_nil, rfl⟩

/-! ## Witnesses: the Bus Path -/

/-- A FREE port with a request of L and one of S pending, and P waiting with the starvation count at its limit. -/
def chipWaiting (starvation : Nat) : Chip :=
  let y : CycleRecord := ⟨0x000004#24, true, true, .read, 0#16, none⟩
  { chip0 with bus := { chip0.bus with
      port := .held y .memoryPort, requestP := some ⟨0x000004#24, .read⟩, requestL := some ⟨0x010000#24, .read⟩,
      requestS := some ⟨0x000000#24, .read⟩, starvation := starvation } }

theorem witness_arbiter_processor : (chipWaiting 63).bus.memPort = .free
    ∧ (chipWaiting 63).bus.requestP = some ⟨0x000004#24, .read⟩
    ∧ (chipWaiting 63).bus.starvation < (chipWaiting 63).params.starvationLimit := by decide
theorem witness_arbiter_internal : (chipWaiting 64).bus.memPort = .free
    ∧ (chipWaiting 64).params.starvationLimit ≤ (chipWaiting 64).bus.starvation
    ∧ (chipWaiting 64).bus.requestR = none ∧ (chipWaiting 64).bus.requestL = some ⟨0x010000#24, .read⟩ := by decide

/-- A PASS cycle in TRANSFER, and its transfer in flight. -/
def cycle0 (dir : Direction) : CycleRecord :=
  ⟨0x000004#24, true, true, dir, 0x1234#16, some ⟨.pass, none, none, false, ⟨.window 4, .site .calibration, none, 0, false⟩⟩⟩

def passing (dir : Direction) (orphan : Bool) : Chip :=
  let c := granted .reflash
  busy .P (cycle0 dir).transfer { c with
    bus := { c.bus with port := .transfer (cycle0 dir) orphan }, pins := { c.pins with chipSelect := true } }

theorem witness_transfer : (run (passing .write false)).memoryWf ∧ (run (passing .write false)).supplied = true
    ∧ (passing .write false).bus.memPort = .busy .P ⟨0x000004#24, .write true true 0x1234#16⟩ true := ⟨rfl, rfl, rfl⟩
theorem witness_passTransfer (dir : Direction) (orphan : Bool) : (run (passing dir orphan)).supplied = true
    ∧ (passing dir orphan).staysUp ∧ (passing dir orphan).bus.port = .transfer (cycle0 dir) orphan
    ∧ (cycle0 dir).decision = some ⟨.pass, none, none, false, ⟨.window 4, .site .calibration, none, 0, false⟩⟩
    ∧ (passing dir orphan).bus.memPort = .busy .P (cycle0 dir).transfer true :=
  ⟨rfl, staysUp_of _ (by cases dir <;> cases orphan <;> decide), rfl, rfl, rfl⟩

/-- A page loading, with the loader's read of its second word in flight. -/
def loading (burst : Nat) : Chip :=
  let c := granted .adjust
  busy .L ⟨0x010002#24, .read⟩ { c with
    bus := { c.bus with burst := burst }
    overlay := { c.overlay with pages := c.overlay.pages.set 0 ⟨.loading, []⟩, queue := [0], loadWord := 510 } }

theorem witness_loader (burst : Nat) : (run (loading burst)).supplied = true
    ∧ (loading burst).supply.power = .active
    ∧ (loading burst).bus.memPort = .busy .L ⟨0x010002#24, .read⟩ true ∧ (loading burst).overlay.queue = 0 :: []
    ∧ (loading burst).servedAt 0 ((loading burst).overlay.loadWord + 1) = some (511, 0x0103FE#24) :=
  ⟨rfl, rfl, rfl, rfl, by
    show chip0.servedAt 0 511 = _
    decide⟩

/-- The loader at its last word of page 0, with this processor port. -/
def lastLoad (p : Port) : Chip :=
  let c := loading 1
  busy .L ⟨0x0103FE#24, .read⟩ { c with
    bus := { c.bus with port := p }, overlay := { c.overlay with loadWord := 511 } }

/-- A write to page word 2 held for PAGE LOADING, as decided. -/
def heldWrite : CycleRecord :=
  ⟨0x010004#24, true, true, .write, 0x0007#16,
    some ⟨.overlayWrite none, none, some .pageLoading, false, ⟨.window 5, .site .trim, some 0, 2, false⟩⟩⟩

theorem witness_lastLoad (p : Port) : (run (lastLoad p)).supplied = true ∧ (lastLoad p).staysUp
    ∧ (lastLoad p).bus.memPort = .busy .L ⟨0x0103FE#24, .read⟩ true ∧ (lastLoad p).bus.requestL = none
    ∧ (lastLoad p).overlay.queue = 0 :: [] ∧ (lastLoad p).servedAt 0 ((lastLoad p).overlay.loadWord + 1) = none
    ∧ (lastLoad p).bus.port = p ∧ (lastLoad p).grant.state = .active :=
  ⟨rfl, staysUp_of _ (fun h => nomatch (show PowerState.active = .afterRun from h)), rfl, rfl, rfl,
    (show chip0.servedAt 0 512 = none from test_no_word_above_the_span), rfl, rfl⟩
/-- The write's window lies in the scope of the grant, which is ACTIVE (`witness_lastLoad`). -/
theorem witness_heldWrite : (Port.held heldWrite .pageLoading) = .held heldWrite .pageLoading
    ∧ heldWrite.direction = .write ∧ heldWrite.decision = some ⟨.overlayWrite none, none, some .pageLoading, false,
      ⟨.window 5, .site .trim, some 0, 2, false⟩⟩ ∧ hasWin (granted .adjust).grant.record.scope 5 = true := by decide
theorem witness_noHeldWrite (y : CycleRecord) : Port.idle ≠ .held y .pageLoading := fun h => nomatch h

/-- The same without a held write, with page 1, of window 8, next in the load queue. -/
def nextLoad : Chip :=
  let c := lastLoad .idle
  { c with
    map := { c.map with
      descriptors := c.map.descriptors.set 8 ⟨0x00011000810A0301#64, .enabled, none⟩, bindings := c.map.bindings.set 1 (some 8) }
    overlay := { c.overlay with queue := [0, 1], pages := c.overlay.pages.set 1 ⟨.loading, []⟩ } }

theorem witness_nextLoad : nextLoad.overlay.queue = 0 :: [1] ∧ (1 : PageNo) ≠ 0
    ∧ nextLoad.servedAt 0 (nextLoad.overlay.loadWord + 1) = none ∧ nextLoad.servedAt 1 0 = some (0, 0x011000#24) := by
  decide

/-- A pass at the last word of its last window, TRIM window 5, with this reference: memory reads as FFFFh there, and the
sum comes to 00000000h. -/
def lastWord (reference : DWord) : Chip :=
  busy .S ⟨0x0103FE#24, .read⟩ { chip0 with scanner := { chip0.scanner with
    pass := some ⟨[], .summing 5⟩, sum := some ⟨5, 511, 1#16, 0#16, .pass⟩,
    references := chip0.scanner.references.set 5 (some reference) } }

theorem witness_lastWord : (run (lastWord 0#32)).supplied = true ∧ (lastWord 0#32).supply.power = .active
    ∧ (lastWord 0#32).bus.memPort = .busy .S ⟨0x0103FE#24, .read⟩ true ∧ (lastWord 0#32).bus.requestS = none
    ∧ (lastWord 0#32).scanner.sum = some ⟨5, 511, 1#16, 0#16, .pass⟩ ∧ (lastWord 0#32).map.ownedAt 5 512 = none
    ∧ (lastWord 0#32).scanner.pass = some ⟨[], .summing 5⟩ ∧ (lastWord 0#32).skips 5 = false
    ∧ hasWin (lastWord 0#32).scanner.marks 5 = false
    ∧ (lastWord 0#32).scanner.references[(5 : Win)] = some 0#32 := by decide
theorem witness_lastWord_sum :
    (0#16 + (1#16 + (run (lastWord 0#32)).memory.readWord 0x0103FE#24))
      ++ (1#16 + (run (lastWord 0#32)).memory.readWord 0x0103FE#24) = 0#32 := by decide
theorem witness_mismatch : (0#32 : DWord) ≠ 7#32 ∧ hasWin (lastWord 7#32).scanner.tamper 5 = false
    ∧ (lastWord 7#32).engine.queue.length < 7 ∧ (lastWord 7#32).grant.state = .idle := by decide
/-- The same with these windows left, this sum request waiting or none, these marks and tamper set, and this reference. -/
def midPass (left : List Win) (queue : List SumRequest) (marks tamper : WindowSet) (reference : Option DWord) : Chip :=
  let c := lastWord 0#32
  { c with scanner := { c.scanner with
    pass := some ⟨left, .summing 5⟩, queue := queue, marks := marks, tamper := tamper
    references := c.scanner.references.set 5 reference } }

/-- The hypotheses of the judgement for windows left, one of them with a sum request waiting. -/
theorem witness_midPass : (run (midPass [4] [] 0#24 0#24 none)).supplied = true
    ∧ (midPass [4] [] 0#24 0#24 none).supply.power = .active ∧ (midPass [4] [] 0#24 0#24 none).bus.requestS = none
    ∧ (midPass [4] [] 0#24 0#24 none).bus.memPort = .busy .S ⟨0x0103FE#24, .read⟩ true
    ∧ (midPass [4] [] 0#24 0#24 none).scanner.sum = some ⟨5, 511, 1#16, 0#16, .pass⟩
    ∧ (midPass [4] [] 0#24 0#24 none).map.ownedAt 5 512 = none
    ∧ (midPass [4] [] 0#24 0#24 none).scanner.pass = some ⟨4 :: [], .summing 5⟩
    ∧ (midPass [4] [] 0#24 0#24 none).skips 4 = false
    ∧ (midPass [4] [⟨5, [.commit]⟩] 0#24 0#24 none).scanner.queue ≠ [] := by decide
theorem witness_midPass_next : (midPass [4] [] 0#24 0#24 none).map.ownedAt 4 0 = some 0 :=
  (show map0.ownedAt 4 0 = some 0 by rfl)
/-- A marked window, an unknown reference, and a window in the tamper set with a reference that differs; and one whose page is
COMMITTING. -/
theorem witness_judgements : hasWin (midPass [4] [] 0x20#24 0#24 none).scanner.marks 5 = true
    ∧ (midPass [4] [] 0x20#24 0#24 none).skips 5 = false
    ∧ (midPass [4] [] 0#24 0#24 none).scanner.references[(5 : Win)] = none
    ∧ hasWin (midPass [4] [] 0#24 0#24 none).scanner.tamper 5 = false
    ∧ hasWin (midPass [4] [] 0#24 0x20#24 (some 7#32)).scanner.tamper 5 = true
    ∧ (midPass [4] [] 0#24 0x20#24 (some 7#32)).scanner.references[(5 : Win)] ≠ some 0#32
    ∧ (midPass [4] [] 0#24 0#24 none).engine.queue.length < 8
    ∧ ({ midPass [] [] 0#24 0#24 none with overlay := { chip0.overlay with
          pages := chip0.overlay.pages.set 0 ⟨.committing, []⟩ } } : Chip).skips 5 = true := by decide
/-- R163, R164: a marked window is ADOPTED and the pass waits; R162: the next window's read continues S's burst. -/
theorem test_adopted : ((midPass [4] [] 0x20#24 0#24 none).passSum 5 0#32).scanner.pass = some ⟨[4], .adopting 0⟩
    ∧ ((midPass [4] [] 0x20#24 0#24 none).passSum 5 0#32).engine.queue
      = [⟨.windowSum 5 .interruptedReflash 0#32, .scanner, false, 0⟩] := by decide

/-- A sum of window 4 at its word 3, with the next word left. -/
def midSum : Chip :=
  busy .S ⟨0x000006#24, .read⟩ { chip0 with scanner := { chip0.scanner with
    pass := some ⟨[], .summing 4⟩, sum := some ⟨4, 3, 1#16, 0#16, .pass⟩ } }
theorem witness_midSum : (run midSum).supplied = true ∧ midSum.supply.power ≠ .afterRun ∧ midSum.bus.requestS = none
    ∧ midSum.bus.memPort = .busy .S ⟨0x000006#24, .read⟩ true ∧ midSum.scanner.sum = some ⟨4, 3, 1#16, 0#16, .pass⟩ := by
  decide
theorem witness_midSum_next : midSum.map.ownedAt 4 (3 + 1) = some 4 := (show map0.ownedAt 4 4 = some 4 by rfl)

/-- The same under an ACTIVE grant of a level, and with one in OPENING. -/
def lastWordUnder (l : Level) (g : GrantState) : Chip :=
  { lastWord 7#32 with grant := { (granted l).grant with state := g } }
theorem witness_mismatch_grants : (lastWordUnder .reflash .active).grant.state = .active
    ∧ (lastWordUnder .reflash .active).grant.record.level ≠ some .factory
    ∧ (lastWordUnder .reflash .active).engine.commit = none
    ∧ (lastWordUnder .reflash .active).grant.record.rewritten = 0#24
    ∧ (lastWordUnder .factory .active).grant.record.level = some .factory
    ∧ (lastWordUnder .adjust .opening).grant.state = .opening
    ∧ (lastWordUnder .adjust .opening).grant.record.pendingEnd = none
    ∧ (lastWordUnder .reflash .active).skips 5 = false
    ∧ (lastWordUnder .reflash .active).scanner.references[(5 : Win)] = some 7#32 := by decide

/-- The last write of a GRANT_BEGIN in flight, its GRANT pending, with page 0 closed. -/
def beginWritten (v : MotionView) : Chip :=
  let c := granted .adjust
  busy .R ⟨0x021000#24, .write true true 0x0101#16⟩ { c with
    grant := { c.grant with state := .opening, view := v }
    overlay := { c.overlay with pages := c.overlay.pages.set 0 ⟨.closed, []⟩ }
    engine := { c.engine with
      progress := some ⟨⟨.grantBegin .adjust 0#32 0#32 0xFFFFFF#24 60 2, .grant, false, 0⟩, none,
        .slot [(0x021000#24, 0x0101#16)]⟩ }
    link := { c.link with reply := ⟨.pending, 2#8, []⟩ } }

theorem witness_grantBegin (v : MotionView) (h : v.road ≠ .moving) : (run (beginWritten v)).supplied = true
    ∧ (beginWritten v).staysUp ∧ (beginWritten v).bus.memPort = .busy .R ⟨0x021000#24, .write true true 0x0101#16⟩ true
    ∧ (beginWritten v).grant.state = .opening ∧ (beginWritten v).grant.record.level = some .adjust
    ∧ (beginWritten v).grant.record.pendingEnd = none ∧ (beginWritten v).grant.view.road ≠ .moving
    ∧ (beginWritten v).link.reply = ⟨.pending, 0x02#8, []⟩
    ∧ (beginWritten v).bus.requestR = none ∧ (beginWritten v).bus.requestL = none ∧ (beginWritten v).overlay.queue = []
    ∧ (beginWritten v).engine.progress = some
      ⟨⟨.grantBegin .adjust 0#32 0#32 0xFFFFFF#24 60 2, .grant, false, 0⟩, none, .slot [(0x021000#24, 0x0101#16)]⟩ :=
  ⟨rfl, staysUp_of _ (fun hp => nomatch (show PowerState.active = .afterRun from hp)), rfl, rfl, rfl, rfl, h, rfl, rfl, rfl,
    rfl, rfl⟩
/-- The same with a pending end reason; and with ROAD MOVING. -/
def beginEnded : Chip :=
  let c := beginWritten ⟨.stopped, .stationary, .applied⟩
  { c with grant := { c.grant with record := { c.grant.record with pendingEnd := some .revoked } } }
theorem witness_grantBegin_ends : (run beginEnded).supplied = true ∧ beginEnded.supply.power = .active
    ∧ beginEnded.bus.memPort = .busy .R ⟨0x021000#24, .write true true 0x0101#16⟩ true
    ∧ beginEnded.grant.state = .opening ∧ beginEnded.grant.record.level = some .adjust
    ∧ beginEnded.grant.record.pendingEnd = some .revoked ∧ beginEnded.engine.queue.length < 8
    ∧ beginEnded.link.reply = ⟨.pending, 0x02#8, []⟩ ∧ beginEnded.bus.requestR = none ∧ beginEnded.bus.requestL = none
    ∧ beginEnded.overlay.queue = [] ∧ beginEnded.engine.commit = none ∧ beginEnded.grant.record.rewritten = 0#24
    ∧ (beginWritten ⟨.turning, .moving, .unknown⟩).grant.record.pendingEnd = none
    ∧ (beginWritten ⟨.turning, .moving, .unknown⟩).grant.view.road = .moving := by decide
theorem witness_grantBegin_pages :
    (beginWritten ⟨.turning, .creeping, .unknown⟩).overlay.pages[(0 : PageNo)].state = .closed
    ∧ (beginWritten ⟨.turning, .creeping, .unknown⟩).map.bindings[(0 : PageNo)] = some 5
    ∧ (∀ p : PageNo, (beginWritten ⟨.turning, .creeping, .unknown⟩).overlay.pages[p].state = .closed → p = 0)
    ∧ ((beginWritten ⟨.turning, .creeping, .unknown⟩).servedAt 0 0).isSome = true := by decide

/-! ## Witnesses: records written -/

/-- The last write of a record in flight, under a grant or its ending. -/
def written (q : AppendRequest) (taken : Option Taken) (c : Chip) : Chip :=
  busy .R ⟨0x021000#24, .write true true 0x0101#16⟩ { c with
    engine := { c.engine with progress := some ⟨q, taken, .slot [(0x021000#24, 0x0101#16)]⟩ } }

theorem witness_written (q : AppendRequest) (taken : Option Taken) (c : Chip) (h : c.supply.power ≠ .afterRun)
    (hr : c.bus.requestR = none) : (run (written q taken c)).supplied = true ∧ (written q taken c).staysUp
    ∧ (written q taken c).bus.memPort = .busy .R ⟨0x021000#24, .write true true 0x0101#16⟩ true
    ∧ (written q taken c).bus.requestR = none
    ∧ (written q taken c).engine.progress = some ⟨q, taken, .slot [(0x021000#24, 0x0101#16)]⟩ :=
  ⟨rfl, staysUp_of _ h, rfl, hr, rfl⟩

/-- A REFLASH grant with window 4 rewritten and a first write to it held for WINDOW OPENING. -/
def announcing : Chip :=
  let c := granted .reflash
  { c with
    grant := { c.grant with record := { c.grant.record with rewritten := 0x10#24 } }
    bus := { c.bus with port := .held (cycle0 .write) .windowOpening } }

theorem witness_windowOpened : hasWin announcing.grant.record.rewritten 4 = true
    ∧ announcing.bus.port = .held (cycle0 .write) .windowOpening
    ∧ (cycle0 .write).decision = some ⟨.pass, none, none, false, ⟨.window 4, .site .calibration, none, 0, false⟩⟩
    ∧ announcing.supply.power ≠ .afterRun ∧ announcing.bus.requestR = none := by decide
theorem witness_windowSum : (granted .reflash).map.imageBase = some 0x020000#24
    ∧ SumCause.reflash ≠ .interruptedReflash ∧ SumCause.rebase ≠ .interruptedReflash
    ∧ (granted .reflash).supply.power ≠ .afterRun := by decide

/-- A pass that waits for an adoption with this ticket, with these windows left, while its WINDOW_SUM is written. -/
def adoptionWritten (left : List Win) (queue : List SumRequest) : Chip :=
  written ⟨.windowSum 5 .interruptedReflash 7#32, .scanner, false, 3⟩ none { chip0 with scanner := { chip0.scanner with
    pass := some ⟨left, .adopting 3⟩, queue := queue, marks := 0x20#24, tickets := 4 } }

theorem witness_adoptionWritten : (adoptionWritten [] []).scanner.pass = some ⟨[], .adopting 3⟩
    ∧ (adoptionWritten [4] []).scanner.pass = some ⟨4 :: [], .adopting 3⟩ ∧ (adoptionWritten [4] []).scanner.queue = []
    ∧ (adoptionWritten [4] []).scanner.sum = none ∧ (adoptionWritten [4] []).skips 4 = false
    ∧ (adoptionWritten [4] [⟨4, [.commit]⟩]).scanner.queue ≠ [] ∧ (adoptionWritten [4] []).supply.power ≠ .afterRun
    ∧ (adoptionWritten [4] []).map.imageBase = some 0x020000#24 ∧ (adoptionWritten [4] []).bus.requestR = none := by decide
theorem witness_adoptionWritten_next : (adoptionWritten [4] []).map.ownedAt 4 0 = some 0 :=
  (show map0.ownedAt 4 0 = some 0 by rfl)

/-- The engine at a stage of a request, a write in flight. -/
def atStage (q : AppendRequest) (taken : Option Taken) (stage : AppendStage) (c : Chip) : Chip :=
  busy .R ⟨0x021000#24, .write true true 0x0101#16⟩ { c with
    engine := { c.engine with progress := some ⟨q, taken, stage⟩ } }

theorem witness_atStage (q : AppendRequest) (taken : Option Taken) (stage : AppendStage) (c : Chip)
    (h : c.supply.power ≠ .afterRun) (hr : c.bus.requestR = none) : (run (atStage q taken stage c)).supplied = true
    ∧ (atStage q taken stage c).staysUp ∧ (atStage q taken stage c).bus.requestR = none
    ∧ (atStage q taken stage c).bus.memPort = .busy .R ⟨0x021000#24, .write true true 0x0101#16⟩ true
    ∧ (atStage q taken stage c).engine.progress = some ⟨q, taken, stage⟩ :=
  ⟨rfl, staysUp_of _ h, hr, rfl, rfl⟩

/-- A grant at the GRANT_END of its ending. -/
def ended : Chip :=
  let c := granted .reflash
  { c with grant := { c.grant with
      state := .ending, step := .grantEnd, record := { c.grant.record with endReason := some .revoked } } }

theorem witness_grantEnd : ended.grant.record.endReason = some .revoked ∧ ended.grant.state = .ending
    ∧ ended.supply.power ≠ .afterRun ∧ ended.bus.requestR = none := by decide

/-- A commit of page 0 running, under a grant in this state. -/
def sequencing (g : GrantState) : Chip :=
  let c := granted .adjust
  { c with
    grant := { c.grant with state := g }
    overlay := { c.overlay with pages := c.overlay.pages.set 0 ⟨.committing, [(2, ⟨61#16, 60#16, true, false, false⟩)]⟩ }
    engine := { c.engine with commit := some ⟨1#8, [(0, 2)], [], 1⟩, claimed := 1 } }

theorem witness_commitEnd (g : GrantState) : (sequencing g).engine.commit = some ⟨1#8, [(0, 2)], [], 1⟩
    ∧ (sequencing g).grant.state = g ∧ (sequencing g).grant.record.rewritten = 0#24
    ∧ (sequencing g).engine.queue.length < 8 ∧ (sequencing g).bus.requestL = none ∧ (sequencing g).bus.port = .idle
    ∧ (sequencing g).supply.power ≠ .afterRun ∧ hasPage 1#8 0 = true
    ∧ (sequencing g).overlay.pages[(0 : PageNo)].state = .committing :=
  ⟨rfl, rfl, rfl, (by decide : 0 < 8), rfl, rfl, (fun h => nomatch (show PowerState.active = .afterRun from h)),
    (by decide : hasPage 1#8 0 = true), rfl⟩

/-! ## Witnesses: the Window Map, the image and the limit table -/

/-- The map of the part in use, with an IDENTITY window 9 over TRIM window 5. -/
def mapOver : WindowMap := { map0 with descriptors := map0.descriptors.set 9 ⟨0x00010000000A0401#64, .enabled, none⟩ }

/-- R28: a site of a higher index ranks above one of a lower. -/
theorem test_higher_site_owns : mapOver.resolve 0x010004#24 = ⟨.window 9, .site .identity, none, 0, false⟩ := by decide

/-- R28: an anchor ranks above every site. -/
theorem test_anchor_owns :
    ({ mapOver with descriptors := mapOver.descriptors.set 2 ⟨0x00010000000A0501#64, .enabled, none⟩ } : WindowMap).resolve
      0x010004#24 = ⟨.window 2, .site .keys, none, 0, false⟩ := by decide

/-- Window `w` is enabled, and its range contains the address. -/
abbrev holdsAt (m : WindowMap) (a : Addr) (w : Win) : Prop :=
  m.descriptors[w].standing = .enabled ∧ m.descriptors[w].base.toNat ≤ a.toNat
    ∧ a.toNat < m.descriptors[w].base.toNat + 2 ^ m.descriptors[w].exponent

theorem witness_resolve_fixed : mapOver.imageBase = some 0x020000#24
    ∧ (0x020000#24).toNat ≤ (0x020280#24).toNat ∧ (0x020280#24).toNat < (0x020000#24).toNat + 4096
    ∧ mapOver.record = some ⟨0x021000#24, 12⟩ ∧ (0x021000#24).toNat ≤ (0x021010#24).toNat
    ∧ (0x021010#24).toNat < (0x021000#24).toNat + 2 ^ 12 ∧ ¬ (0x021010#24).toNat < (0x020000#24).toNat + 4096 := by decide
theorem witness_resolve_window : holdsAt mapOver 0x010004#24 9 ∧ holdsAt mapOver 0x010004#24 5
    ∧ (∀ v, holdsAt mapOver 0x010004#24 v → ¬ ((v.val < 4 ∧ 4 ≤ 9) ∨ ((v.val < 4 ↔ 9 < 4) ∧ 9 < v.val)))
    ∧ mapOver.descriptors[(9 : Win)].siteClass = some .identity ∧ (0x010004#24).toNat < (0x020000#24).toNat := by decide
theorem witness_resolve_background : (∀ w, ¬ holdsAt mapOver 0x0A0000#24 w)
    ∧ ¬ (0x0A0000#24).toNat < (0x021000#24).toNat + 2 ^ 12 := by decide

/-- The checked part of an image: RECORD at 021000h with 2^12 bytes, the background class CALIBRATION, and TRIM windows 4
and 6 that name page 0. -/
def img0 : List Word :=
  [1#16, 0x1000#16, 0x0C02#16, 2#16] ++ List.replicate 28 0#16 ++ [0x0301#16, 0x800A#16, 0#16, 1#16]
    ++ List.replicate 4 0#16 ++ [0x0301#16, 0x800A#16, 0#16, 2#16] ++ List.replicate 260 0#16

theorem witness_map : chip0.map.imageBase = some 0x020000#24 ∧ chip0.params.image = .valid
    ∧ (img0.getD 2 0#16).toNat / 256 = 12 ∧ (img0.getD 1 0#16).toNat = 0x1000 ∧ (img0.getD 2 0#16).toNat % 256 = 2
    ∧ (0x020000#24).toNat + 4096 ≤ 0x021000 ∧ 0x021000 % 2 ^ 12 = 0 ∧ (img0.getD 3 0#16).toNat % 256 = 2
    ∧ (checkDescriptor (imgDescriptor img0 4)).isTrim = true ∧ (checkDescriptor (imgDescriptor img0 6)).isTrim = true
    ∧ (checkDescriptor (imgDescriptor img0 4)).pageRead = (checkDescriptor (imgDescriptor img0 6)).pageRead
    ∧ State.reset.chip.params.image ≠ .valid := by decide

/-- R34: the higher index keeps the page, and the lower is FAULTED with PAGE_TAKEN. -/
theorem test_page_taken : (checkDescriptor (imgDescriptor img0 4)).fault = none
    ∧ (chip0.loadMap img0).map.descriptors[(4 : Win)].fault = some .pageTaken
    ∧ (chip0.loadMap img0).map.bindings[(0 : PageNo)] = some 6 := by decide

theorem witness_image : (([1#16, 0x0010#16] : List Word).map BitVec.toNat).sum % 65536 ≠ 0
    ∧ (([1#16, 0xFFFF#16] : List Word).map BitVec.toNat).sum % 65536 = 0
    ∧ (([2#16, 0xFFFE#16] : List Word).map BitVec.toNat).sum % 65536 = 0 ∧ ([2#16, 0xFFFE#16] : List Word).getD 0 0#16 ≠ 1#16 := by
  decide

/-- The image read with these words taken, newest first. -/
def imaging (got : List Word) : Chip :=
  busy .R ⟨0x020006#24, .read⟩ { chip0 with supply := { chip0.supply with
    power := .start, startUp := { chip0.supply.startUp with phase := .image got } } }

theorem witness_imageWord (got : List Word) : (run (imaging got)).supplied = true ∧ (imaging got).staysUp
    ∧ (imaging got).bus.memPort = .busy .R ⟨0x020006#24, .read⟩ true ∧ (imaging got).bus.requestR = none
    ∧ (imaging got).engine.progress = none ∧ (imaging got).supply.startUp.phase = .image got
    ∧ (imaging got).map.imageBase = some 0x020000#24 ∧ (imaging got).grant.state = .idle :=
  ⟨rfl, staysUp_of _ (fun h => nomatch (show PowerState.start = .afterRun from h)), rfl, rfl, rfl, rfl, rfl, rfl⟩
theorem witness_imageWord_counts : (List.replicate 399 (0#16 : Word)).length + 1 = 304 + 96
    ∧ (List.replicate 303 (0#16 : Word)).length + 1 < 304 + 96 := by
  rw [List.length_replicate, List.length_replicate]
  decide

/-- Limit records of window 5, at page word 2, and their faulted forms. -/
theorem witness_limits : (checkLimit map0 0x000000640032010000020501#96).standing = .enabled
    ∧ (checkLimit map0 0x000000640032010000020500#96).standing = .switchedOff
    ∧ (checkLimit map0 0x000000640032030000020501#96).fault = some .code
    ∧ (checkLimit map0 0x000000640032010000020401#96).fault = some .window
    ∧ (checkLimit map0 0x000000640032010002000501#96).fault = some .offset
    ∧ (checkLimit mapOver 0x000000640032010000020501#96).fault = some .notOwned
    ∧ (checkLimit map0 0x800000640032010000020501#96).fault = some .step := by decide

/-! ## Witnesses: the start-up survey -/

/-- A part whose survey has read these records and no entries. -/
def surveying (found : List SlotRecord) : Chip :=
  { chip0 with supply := { chip0.supply with
      power := .start, startUp := { chip0.supply.startUp with phase := .slots 127 [], found := found } } }

/-- A record area with a cut-off grant, an opened window, a cut-off commit, a tamper and a lockout that did not end. -/
def cutOff : List SlotRecord :=
  [⟨2, 0x09#8, 0#8, []⟩, ⟨3, 0x01#8, 1#8, [7#16, 0#16, 9#16, 0#16]⟩, ⟨4, 0x03#8, 4#8, []⟩, ⟨5, 0x05#8, 0#8, [1#16, 1#16]⟩,
   ⟨6, 0x06#8, 5#8, [2#16, 60#16, 61#16, 0#16, 30#16]⟩, ⟨7, 0x08#8, 4#8, []⟩, ⟨8, 0x0B#8, 0#8, [3#16, 0#16]⟩]

/-- A record area in which everything that began ended. -/
def whole : List SlotRecord :=
  [⟨1, 0x09#8, 0#8, []⟩, ⟨2, 0x0A#8, 0#8, []⟩, ⟨3, 0x01#8, 1#8, []⟩, ⟨4, 0x05#8, 0#8, [1#16, 1#16]⟩,
   ⟨5, 0x07#8, 0#8, [1#16, 0#16]⟩, ⟨6, 0x02#8, 1#8, []⟩, ⟨7, 0x04#8, 4#8, [1#16, 0#16, 0#16, 0#16, 5#16, 6#16]⟩]

theorem witness_survey : (∀ r ∈ cutOff, 1 ≤ r.seq ∧ r.seq ≤ 8) ∧ (∃ r ∈ cutOff, r.seq = 8)
    ∧ cutOff.Pairwise (fun a b => a.seq ≠ b.seq)
    ∧ (∀ n ∈ [2, 3, 4, 5, 6, 7, 8], ∃ r ∈ cutOff, r.seq = n) ∧ (∀ r ∈ cutOff, r.seq ≠ 1)
    ∧ (surveying cutOff).supply.startUp.found = cutOff ∧ (surveying cutOff).engine.queue.length < 8
    ∧ (surveying cutOff).map.descriptors[(5 : Win)].standing = .enabled
    ∧ (surveying cutOff).map.descriptors[(5 : Win)].classCode = 3 := by decide
theorem witness_survey_whole : (∀ r ∈ whole, 1 ≤ r.seq ∧ r.seq ≤ 7) ∧ (∃ r ∈ whole, r.seq = 7)
    ∧ whole.Pairwise (fun a b => a.seq ≠ b.seq) ∧ (∀ n ∈ [1, 2, 3, 4, 5, 6, 7], ∃ r ∈ whole, r.seq = n)
    ∧ (∀ r ∈ whole, r.seq ≠ 0) := by decide

/-- R153–R157 on the cut-off area: the head, the archive mark, the tamper set, the marks and the strike count. -/
theorem test_survey_findings : (surveying cutOff).settleFindings.engine.head = 9
    ∧ (surveying cutOff).settleFindings.engine.mark = 3 ∧ (surveying cutOff).settleFindings.scanner.tamper = 0x10#24
    ∧ (surveying cutOff).settleFindings.scanner.marks = 0x10#24 ∧ (surveying cutOff).settleFindings.grant.strikes = 6
    ∧ (surveying cutOff).settleFindings.grant.lastEnd = .powerLoss := by decide

/-- The survey at a phase, with this transfer of R in flight. -/
def atPhase (t : Transfer) (phase : StartPhase) (rollback : Option (List SlotRecord)) : Chip :=
  busy .R t { chip0 with supply := { chip0.supply with
    power := .start, startUp := { chip0.supply.startUp with phase := phase, rollback := rollback } } }

theorem witness_atPhase (t : Transfer) (phase : StartPhase) (rollback : Option (List SlotRecord)) :
    (run (atPhase t phase rollback)).supplied = true ∧ (atPhase t phase rollback).staysUp
    ∧ (atPhase t phase rollback).bus.memPort = .busy .R t true ∧ (atPhase t phase rollback).bus.requestR = none
    ∧ (atPhase t phase rollback).engine.progress = none ∧ (atPhase t phase rollback).scanner.queue = []
    ∧ (atPhase t phase rollback).supply.startUp.phase = phase
    ∧ (atPhase t phase rollback).supply.startUp.rollback = rollback
    ∧ (atPhase t phase rollback).supply.startUp.owed = 0 ∧ (atPhase t phase rollback).supply.startUp.found = []
    ∧ (atPhase t phase rollback).map.descriptors[(5 : Win)].standing = .enabled
    ∧ (atPhase t phase rollback).map.descriptors[(5 : Win)].classCode = 3
    ∧ hasWin (atPhase t phase rollback).scanner.tamper 5 = false :=
  ⟨rfl, staysUp_of _ (fun h => nomatch (show PowerState.start = .afterRun from h)), rfl, rfl, rfl, rfl, rfl, rfl, rfl, rfl,
    rfl, (by decide : (⟨trimRaw, .enabled, none⟩ : Descriptor).classCode = 3), (by decide : hasWin 0#24 5 = false)⟩
theorem witness_lastSlot : (List.replicate 14 (0xFFFF#16)).length = 14 ∧ (0xFF00#16).extractLsb' 0 8 = 0#8
    ∧ 127 + 1 = chip0.capacity := by decide

/-- The words of a GRANT_BEGIN's slot, all but the last read, newest first; the last reads as FFFFh. -/
def slotWords : List Word := 4#16 :: List.replicate 13 9#16 ++ [0x0201#16]
theorem witness_slotWords : (0xFFFF#16 :: slotWords).reverse = [0x0201#16] ++ List.replicate 13 9#16 ++ [4#16, 0xFFFF#16]
    ∧ (List.replicate 13 9#16 : List Word).length = 13 ∧ chip0.map.record = some ⟨0x021000#24, 12⟩
    ∧ (4 + 65536 * 0xFFFF - 1) % chip0.capacity = 3 ∧ 3 + 1 < chip0.capacity ∧ 127 + 1 = chip0.capacity
    ∧ ([] : List Word).length < 15 := by decide
/-- R133: the slot is complete, and its record joins those found; in another slot it is not. -/
theorem test_slot_joins : (chip0.surveyWord 3 slotWords 0xFFFF#16).supply.startUp.found
      = [⟨0xFFFF0004, 0x01#8, 0x02#8, List.replicate 13 9#16⟩]
    ∧ (chip0.surveyWord 4 slotWords 0xFFFF#16).supply.startUp.found = [] := by decide
/-- The last slot: a cut-off grant to close, a cut-off commit alone with and without words, and nothing to carry out. -/
theorem witness_settled : ((surveying cutOff).settleFindings).supply.startUp.closure.isSome = true
    ∧ ((surveying whole).settleFindings).supply.startUp.closure = none
    ∧ ((surveying whole).settleFindings).supply.startUp.rollback = none
    ∧ ((surveying [⟨1, 0x05#8, 0#8, []⟩]).settleFindings).supply.startUp.closure = none
    ∧ ((surveying [⟨1, 0x05#8, 0#8, []⟩]).settleFindings).supply.startUp.rollback = some []
    ∧ (((surveying [⟨1, 0x05#8, 0#8, []⟩, ⟨2, 0x06#8, 5#8, []⟩]).settleFindings).supply.startUp.rollback).isSome = true := by
  decide
/-- R156: window 4's entry, not consistent, is rewritten with the sum of its WINDOW_SUM. -/
theorem test_survey_rewrites : surveyEntryWrites (runOf whole) [] (Vector.replicate 24 (some 0x00060005#32)) 0x020000#24
    = [(0x0202A0#24, 6#16), (0x0202A4#24, 5#16), (0x0202A2#24, 0xFFF9#16), (0x0202A6#24, 0xFFFA#16)] := by decide
/-- The run is in falling order. -/
theorem witness_run : (runOf whole).Pairwise (fun a b => b.seq < a.seq) := by decide

/-- The survey at a phase with appends owed, the grant IDLE. -/
def owing (phase : StartPhase) (owed : Nat) : Chip :=
  { chip0 with supply := { chip0.supply with
    power := .start, startUp := { chip0.supply.startUp with phase := phase, owed := owed } } }

theorem witness_owing (phase : StartPhase) (owed : Nat) : (owing phase owed).supply.power ≠ .afterRun
    ∧ (owing phase owed).supply.startUp.phase = phase ∧ (owing phase owed).supply.startUp.owed = owed
    ∧ (owing phase owed).grant.state = .idle ∧ (owing phase owed).engine.progress = none
    ∧ (owing phase owed).engine.waiting = [] ∧ (owing phase owed).bus.requestR = none
    ∧ StartPhase.closeGrant.usesR = false ∧ StartPhase.drain.usesR = false :=
  ⟨(fun h => nomatch (show PowerState.start = .afterRun from h)), rfl, rfl, rfl, rfl, rfl, rfl, rfl, rfl⟩
/-- R157, R140: with the last append finished and nothing to rewrite the survey ends. -/
theorem test_survey_ends : (owing .drain 1).surveyFinished.supply.startUp.phase = .ended
    ∧ (owing .drain 2).surveyFinished.supply.startUp.phase = .drain
    ∧ (owing .closeGrant 1).surveyFinished.supply.startUp.phase = .ended := by decide

/-- A TRIM_CHANGE of window 5 with these old and new values; memory reads as FFFFh. -/
def trimOf (old new : Word) : SlotRecord := ⟨6, 0x06#8, 5#8, [2#16, old, new, 0#16, 0#16]⟩

theorem witness_compare : (run chip0).memory.readWord 0x010004#24 = (trimOf 60#16 0xFFFF#16).word 2
    ∧ (run chip0).memory.readWord 0x010004#24 = (trimOf 0xFFFF#16 61#16).word 1 ∧ (0xFFFF#16 : Word) ≠ 61#16
    ∧ (0xFFFF#16 : Word) ≠ 60#16 ∧ (trimOf 60#16 61#16).word 1 = 60#16 ∧ (trimOf 60#16 61#16).word 2 = 61#16
    ∧ (trimOf 60#16 61#16).aux.toNat = (5 : Win).val
    ∧ trimOf 0xFFFF#16 61#16 ∈ [trimOf 0xFFFF#16 61#16] := by decide

/-- The rollback's sum of window 5 at its last word, with these windows left to sum. -/
def rollingBack (left : List Win) (altered : WindowSet) : Chip :=
  busy .S ⟨0x0103FE#24, .read⟩ { chip0 with
    supply := { chip0.supply with
      power := .start, startUp := { chip0.supply.startUp with phase := .sums left, altered := altered } }
    scanner := { chip0.scanner with sum := some ⟨5, 511, 1#16, 0#16, .request [.survey]⟩ } }

theorem witness_rollbackSum (left : List Win) (altered : WindowSet) : (run (rollingBack left altered)).supplied = true
    ∧ (rollingBack left altered).staysUp ∧ (rollingBack left altered).bus.requestS = none
    ∧ (rollingBack left altered).bus.memPort = .busy .S ⟨0x0103FE#24, .read⟩ true
    ∧ (rollingBack left altered).scanner.sum = some ⟨5, 511, 1#16, 0#16, .request [.survey]⟩
    ∧ (rollingBack left altered).map.ownedAt 5 512 = none ∧ (rollingBack left altered).engine.queue = []
    ∧ (rollingBack left altered).scanner.queue = [] ∧ (rollingBack left altered).supply.startUp.phase = .sums left :=
  ⟨rfl, staysUp_of _ (fun h => nomatch (show PowerState.start = .afterRun from h)), rfl, rfl, rfl,
    (show map0.ownedAt 5 512 = none by decide), rfl, rfl, rfl⟩

/-! ## Witnesses: processor cycles -/

theorem calm0 : (run chip0).calm := calm_of _ (by decide) (by decide)
theorem calmGranted (l : Level) : (run (granted l)).calm := calm_of _ (by cases l <;> decide) ⟨rfl, rfl, rfl, rfl⟩

def read (a : Addr) : BusCycle := ⟨a, true, true, true, false, 0#16⟩
def write (a : Addr) (w : Word) : BusCycle := ⟨a, true, true, false, true, w⟩

/-- Dormant, the channels halted and the receiver stopped. -/
def dormant : Chip :=
  { chip0 with
    supply := { chip0.supply with power := .dormant, filtered := .off }
    link := { chip0.link with transaction := none, receiving := false } }

theorem witness_undecided_wake : (run dormant).supplied = true ∧ dormant.settled ∧ dormant.bus.port = .idle
    ∧ ((read 4#24).readStrobe || (read 4#24).writeStrobe) = true ∧ dormant.supply.power = .dormant :=
  ⟨rfl, settled_of _ (by decide), rfl, rfl, rfl⟩
theorem witness_undecided_start : State.reset.supplied = true ∧ State.reset.chip.settled
    ∧ State.reset.chip.bus.port = .idle ∧ State.reset.chip.bus.gate.isOpen = false :=
  ⟨rfl, settled_of _ (by decide), rfl, by decide⟩
theorem witness_undecided_empty : chip0.settled ∧ chip0.bus.port = .idle ∧ chip0.supply.power ≠ .dormant
    ∧ chip0.bus.gate.isOpen = true := ⟨settled_of _ (by decide), rfl, by decide, by decide⟩

/-- With TRIM page 0 open, page word 2 at 60 of 50–100 by record 3. -/
def opened (l : Level) : Chip :=
  let c := granted l
  { c with overlay := { c.overlay with
      pages := c.overlay.pages.set 0 ⟨.opened, [(2, ⟨60#16, 60#16, true, false, false⟩)]⟩
      limits := c.overlay.limits.set 3 ⟨0x000000640032010000020501#96, .enabled, none⟩ } }

theorem witness_reads : (granted .adjust).settled ∧ (granted .adjust).bus.port = .idle
    ∧ (granted .adjust).supply.power ≠ .dormant ∧ (granted .adjust).bus.gate.isOpen = true
    ∧ ((granted .adjust).decision (captureCycle (read 4#24))).service = .pass
    ∧ ((granted .adjust).decision (captureCycle (read 0x040000#24))).service = .fill
    ∧ ((granted .factory).decision (captureCycle (read 0x040000#24))).service = .pass
    ∧ ((granted .factory).decision (captureCycle (read 0x020280#24))).service = .fill
    ∧ ((opened .adjust).decision (captureCycle (read 0x010004#24))).service = .overlayRead
    ∧ ((opened .adjust).decision (captureCycle (read 0x010004#24))).resolution.page = some 0 :=
  ⟨settled_of _ (by decide), rfl, by decide, by decide, by decide, by decide, by decide, by decide, by decide, by decide⟩

/-- Limit record `j` governs page word 2 of TRIM window 5. -/
abbrev governsWord2 (c : Chip) (j : LimitNo) : Prop :=
  c.overlay.limits[j].window = 5 ∧ c.overlay.limits[j].standing = .enabled ∧ c.overlay.limits[j].offset = 2

theorem witness_writes_trim : (captureCycle (write 0x010004#24 7#16)).direction = .write
    ∧ (opened .adjust).grant.record.level = some .adjust
    ∧ (opened .adjust).map.resolve 0x010004#24 = ⟨.window 5, .site .trim, some 0, 2, false⟩
    ∧ governsWord2 (opened .adjust) 3 ∧ (∀ i : LimitNo, i < 3 → ¬ governsWord2 (opened .adjust) i)
    ∧ (∀ j, ¬ governsWord2 (granted .adjust) j) := by decide

/-- R93: the reason of the first check that fails; R97: a first reflash write waits for its announcement. -/
theorem test_write_order :
    ((opened .adjust).decision (captureCycle (write 0x021010#24 7#16))).refusal = some .cls
    ∧ (chip0.decision (captureCycle (write 0x000004#24 7#16))).refusal = some .noGrant
    ∧ ((granted .adjust).decision (captureCycle (write 0x000004#24 7#16))).refusal = some .level
    ∧ ((granted .reflash).decision (captureCycle (write 0x000004#24 7#16))).hold = some .windowOpening
    ∧ ((granted .factory).decision (captureCycle (write 0x020000#24 7#16))).service = .pass
    ∧ ((opened .adjust).decision (captureCycle (write 0x010004#24 7#16))).service = .overlayWrite (some 3) := by decide

def refusal0 : Refused := ⟨.window 4, .write, .noGrant, 0x000004#24, 255, none⟩

theorem witness_refusals : ∃ list : List Refused, list = [] ++ [refusal0] ∧ list.length ≤ 8 ∧ noRepeats list = true
    ∧ refusal0.owner = Owner.window 4 ∧ (recordRefusal list refusal0).2 = false
    ∧ (recordRefusal list { refusal0 with kind := .read }).2 = true := ⟨_, rfl, by decide⟩

theorem witness_ungranted : chip0.settled ∧ chip0.bus.port = .idle ∧ chip0.bus.gate.isOpen = true
    ∧ chip0.grant.state = .idle ∧ chip0.grant.strikes + 1 ≠ chip0.params.lockoutThreshold
    ∧ (chip0.map.resolve (captureCycle (write 4#24 7#16)).address).cls ≠ .site .openWindow :=
  ⟨settled_of _ (by decide), rfl, by decide, rfl, by decide, by decide⟩

/-- One strike below the threshold. -/
def nearLockout : Chip :=
  let c := opened .adjust
  { c with grant := { c.grant with strikes := 5 } }

theorem witness_lockout : nearLockout.settled ∧ nearLockout.bus.port = .idle ∧ nearLockout.bus.gate.isOpen = true
    ∧ nearLockout.grant.strikes + 1 = nearLockout.params.lockoutThreshold ∧ nearLockout.grant.strikes < 15
    ∧ nearLockout.engine.queue.length < 7 ∧ nearLockout.grant.state = .active ∧ nearLockout.engine.commit = none
    ∧ nearLockout.decision (captureCycle (write 0x021000#24 7#16))
      = ⟨.drop, some .cls, none, false, nearLockout.map.resolve 0x021000#24⟩
    ∧ nearLockout.decision (captureCycle (write 0x000004#24 7#16))
      = ⟨.drop, some .level, none, false, nearLockout.map.resolve 0x000004#24⟩
    ∧ (recordRefusal nearLockout.adu.refusals
        ⟨.record, .write, .cls, 0x021000#24, 1, some .adjust⟩).2 = true :=
  ⟨settled_of _ (by decide), by decide⟩
/-- The same with the grant in another state and an entry in the list. -/
def nearLockoutIn (g : GrantState) : Chip :=
  { nearLockout with
    grant := { nearLockout.grant with state := g }
    adu := { nearLockout.adu with refusals := [refusal0] } }
theorem witness_lockout_grants (g : GrantState) (h : g = .idle ∨ g = .opening ∨ g = .ending) :
    (nearLockoutIn g).settled ∧ (nearLockoutIn g).grant.state = g
    ∧ (nearLockoutIn g).decision (captureCycle (write 0x010004#24 7#16))
      = ⟨.drop, some .noGrant, none, false, nearLockout.map.resolve 0x010004#24⟩
    ∧ (recordRefusal (nearLockoutIn g).adu.refusals
        ⟨.window 5, .write, .noGrant, 0x010004#24, 1, if g = .idle then none else some .adjust⟩).2 = true := by
  refine ⟨fun _ => ⟨rfl, rfl, rfl, rfl⟩, rfl, ?_⟩
  rcases h with rfl | rfl | rfl <;> decide
theorem witness_lockout_suspended : (nearLockoutIn .suspended).decision (captureCycle (write 0x000004#24 7#16))
      = ⟨.drop, some .level, none, false, nearLockout.map.resolve 0x000004#24⟩ := by decide
/-- R83, R75, R76: lockout ends a SUSPENDED grant with LOCKOUT, and is the pending end reason of one in OPENING. -/
theorem test_lockout_grants : (nearLockoutIn .suspended).strike.grant.record.endReason = some .lockout
    ∧ (nearLockoutIn .opening).strike.grant.record.pendingEnd = some .lockout
    ∧ (nearLockoutIn .idle).strike.engine.queue = [⟨.lockoutBegin 6 6, .grant, false, 0⟩] := by decide

theorem witness_governed : (opened .adjust).settled ∧ (opened .adjust).bus.port = .idle
    ∧ (opened .adjust).bus.gate.isOpen = true
    ∧ ((opened .adjust).map.resolve (captureCycle (write 0x010004#24 0x7FFF#16)).address)
        = ⟨.window 5, .site .trim, some 0, 2, false⟩
    ∧ (opened .adjust).overlay.pages[(0 : PageNo)].state = .opened
    ∧ (opened .adjust).writeRefusal ⟨.window 5, .site .trim, some 0, 2, false⟩ = none
    ∧ (opened .adjust).grant.record.level ≠ some .factory
    ∧ (opened .adjust).governs ⟨.window 5, .site .trim, some 0, 2, false⟩ = some 3
    ∧ (opened .adjust).overlay.limits[(3 : LimitNo)].read (opened .adjust).overlay.limits[(3 : LimitNo)].lower
      ≤ (opened .adjust).overlay.limits[(3 : LimitNo)].read (opened .adjust).overlay.limits[(3 : LimitNo)].upper :=
  ⟨settled_of _ (by decide), rfl, by decide, by decide, by decide, by decide, by decide, by decide, by decide⟩

/-- The same page COMMITTING. -/
theorem witness_governed_committing :
    ({ opened .adjust with overlay := { (opened .adjust).overlay with
        pages := (opened .adjust).overlay.pages.set 0 ⟨.committing, [(2, ⟨60#16, 60#16, true, false, false⟩)]⟩ } } :
      Chip).overlay.pages[(0 : PageNo)].state = .committing := by decide

theorem witness_firstReflash : (granted .reflash).settled ∧ (granted .reflash).bus.port = .idle
    ∧ ((granted .reflash).map.resolve (captureCycle (write 4#24 7#16)).address)
        = ⟨.window 4, .site .calibration, none, 0, false⟩
    ∧ (granted .reflash).writeRefusal ⟨.window 4, .site .calibration, none, 0, false⟩ = none
    ∧ hasWin (granted .reflash).grant.record.rewritten 4 = false ∧ (granted .reflash).engine.queue.length < 8 :=
  ⟨settled_of _ (by decide), by decide⟩

/-- Window 4 rewritten, in this announcement state. -/
def rewrittenAs (a : Announcement) : Chip :=
  let c := granted .reflash
  { c with
    grant := { c.grant with record := { c.grant.record with rewritten := 0x10#24 } }
    adu := { c.adu with announcements := c.adu.announcements.set 4 (some a) } }

/-- The clauses of a decided WRITE: PASS, held for WINDOW OPENING, OVERLAY WRITE, held for PAGE LOADING, and DROP. -/
theorem witness_writeServed :
    (rewrittenAs .announced).decision (captureCycle (write 4#24 7#16))
      = ⟨.pass, none, none, false, ⟨.window 4, .site .calibration, none, 0, false⟩⟩
    ∧ (rewrittenAs .announcing).decision (captureCycle (write 4#24 7#16))
      = ⟨.pass, none, some .windowOpening, false, ⟨.window 4, .site .calibration, none, 0, false⟩⟩
    ∧ (opened .factory).decision (captureCycle (write 0x010004#24 7#16))
      = ⟨.overlayWrite none, none, none, false, ⟨.window 5, .site .trim, some 0, 2, false⟩⟩
    ∧ (loading 1).decision (captureCycle (write 0x010004#24 7#16))
      = ⟨.overlayWrite none, none, some .pageLoading, false, ⟨.window 5, .site .trim, some 0, 2, false⟩⟩
    ∧ (opened .adjust).decision (captureCycle (write 0x021000#24 7#16))
      = ⟨.drop, some .cls, none, false, ⟨.record, .record, none, 0, false⟩⟩
    ∧ (opened .adjust).grant.strikes + 1 ≠ (opened .adjust).params.lockoutThreshold := by decide
theorem witness_writeServed_states (c : Chip)
    (h : c ∈ [rewrittenAs .announced, rewrittenAs .announcing, opened .factory, opened .adjust]) :
    c.bus.port = .idle ∧ c.bus.gate.isOpen = true ∧ c.supply.power ≠ .dormant ∧ c.bus.requestP = none
    ∧ c.bus.requestR = none ∧ c.bus.requestL = none ∧ c.bus.requestS = none := by
  revert c
  decide
theorem witness_writeLoading : (loading 1).settled ∧ (loading 1).bus.port = .idle ∧ (loading 1).bus.gate.isOpen = true :=
  ⟨settled_of _ (by decide), rfl, by decide⟩
/-- R101: FACTORY writes past the governing record's bounds. -/
theorem test_factory_write : (((opened .factory).decideLanes (captureCycle (write 0x010004#24 0x7FFF#16))).overlay.pages[(0 :
    PageNo)].word 2).value = 0x7FFF#16 := by decide
/-- R92: OPEN content, here the background's, is written without a grant. -/
theorem witness_openWrite : (chip0.map.resolve (captureCycle (write 0x0A0000#24 7#16)).address).cls = .site .openWindow
    ∧ chip0.grant.state = .idle ∧ chip0.grant.record.level = none := by decide

/-- A cycle in a port state, with the memory port parked. -/
def ported (p : Port) : Chip := { chip0 with bus := { chip0.bus with port := p, memPort := .parked } }

theorem witness_releases (p : Port) : (run (ported p)).calm :=
  calm_of _ (fun h => nomatch (show PowerState.active = .afterRun from h)) ⟨rfl, rfl, rfl, rfl⟩
theorem witness_release_done : (ported (.done (cycle0 .read) (some 5#16))).bus.port = .done (cycle0 .read) (some 5#16) := rfl
theorem witness_release_held (y : CycleRecord) (data : Option Word) :
    (ported (.held (cycle0 .read) .windowOpening)).bus.port ≠ .done y data := fun h => nomatch h

/-- The part with its grant in a state. -/
def inState (g : GrantState) : Chip :=
  let c := granted .reflash
  { c with grant := { c.grant with state := g } }

theorem witness_externalReset : (run chip0).calm ∧ chip0.pins.resetAsserted = false ∧ chip0.grant.state = .idle
    ∧ (run (granted .adjust)).calm ∧ (granted .adjust).pins.resetAsserted = false
    ∧ (granted .adjust).grant.state = .active :=
  ⟨calm0, rfl, rfl, calmGranted .adjust, rfl, rfl⟩
theorem witness_reset_states (g : GrantState) : (run (inState g)).calm ∧ (inState g).pins.resetAsserted = false
    ∧ (inState g).grant.state = g ∧ (inState g).engine.commit = none ∧ (inState g).grant.record.pendingEnd = none :=
  ⟨calm_of _ (fun h => nomatch (show PowerState.active = .afterRun from h)) ⟨rfl, rfl, rfl, rfl⟩, rfl, rfl, rfl, rfl⟩
theorem witness_reset_commit : (run (sequencing .active)).calm ∧ (sequencing .active).engine.commit ≠ none :=
  ⟨calm_of _ (by decide) (by decide), by decide⟩
/-- R86, R75, R77, R114: RESET is the pending end reason in OPENING; an ending waits for a commit, or stops the loader. -/
theorem test_reset_states : (inState .opening).resetAsserted.grant.record.pendingEnd = some .reset
    ∧ (sequencing .active).resetAsserted.grant.step = .commit
    ∧ (loading 1).resetAsserted.bus.memPort = .busy .L ⟨0x010002#24, .read⟩ false := by decide
theorem witness_resetRelease : (run { chip0 with pins := { chip0.pins with resetAsserted := true } }).calm
    ∧ ∀ y, ({ chip0 with pins := { chip0.pins with resetAsserted := true } } : Chip).bus.port ≠ .gated y :=
  ⟨calm_of _ (by decide) (by decide), fun y h => nomatch (show Port.idle = .gated y from h)⟩

/-- A write GATED under the external reset. -/
def gatedWrite : Chip :=
  { chip0 with
    pins := { chip0.pins with resetAsserted := true }
    bus := { chip0.bus with port := .gated (captureCycle (write 4#24 7#16)), gate := ⟨false, false, true⟩ } }

theorem witness_gatedRelease : (run gatedWrite).calm ∧ gatedWrite.pins.resetAsserted = true
    ∧ gatedWrite.bus.port = .gated (captureCycle (write 4#24 7#16))
    ∧ ((write 4#24 7#16).readStrobe || (write 4#24 7#16).writeStrobe) = true ∧ gatedWrite.bus.gate.start = false
    ∧ gatedWrite.bus.gate.waking = false ∧ gatedWrite.supply.power ≠ .dormant :=
  ⟨calm_of _ (by decide) (by decide), by decide⟩

/-- R9: the gate opens, and the GATED cycle is decided: here refused NO_GRANT. -/
theorem test_gated_cycle_is_decided : gatedWrite.resetReleased.adu.refusals
    = [⟨.window 4, .write, .noGrant, 4#24, 1, none⟩] := by decide

/-! ## Witnesses: the Standstill Monitor -/

/-- The channels running: ENGINE at its second high sample after low, the reference 60 ticks ago. -/
def ticking (dividerCount divider : Nat) : Chip :=
  { chip0 with
    params := { chip0.params with engine := { chip0.params.engine with divider := divider } }
    monitor := { chip0.monitor with
      engine := ⟨true, 1059#16, 0, some .high, .low, dividerCount, some 1000#16, 0⟩
      engineState := .turning
      road := ⟨true, 0xFFFF#16, 3, some .low, .low, 0, none, 12⟩ } }

theorem witness_tick : (run (ticking 0 4)).calm ∧ (ticking 0 4).monitor.engine.running = true
    ∧ ¬ ((ticking 0 4).monitor.engine.counter = 0xFFFF#16 ∧ (ticking 0 4).monitor.engine.wraps = 2)
    ∧ (ticking 0 4).monitor.engine.wraps ≤ 3 ∧ (ticking 0 4).monitor.engine.previous = some .high
    ∧ (ticking 0 4).monitor.engine.filtered = .low ∧ (ticking 0 4).params.engine.edge ≠ .falling
    ∧ (ticking 0 4).monitor.engine.dividerCount + 1 ≠ (ticking 0 4).params.engine.divider
    ∧ (ticking 0 4).monitor.road.running = true :=
  ⟨calm_of _ (by decide) (by decide), by decide⟩
/-- A channel at the tick that brings silence, under a SUSPENDED REFLASH grant, and one that does not run. -/
def silencing : Chip :=
  let c := granted .reflash
  { c with
    grant := { c.grant with
      state := .suspended, view := ⟨.turning, .stationary, .applied⟩
      record := { c.grant.record with suspendRemaining := some 7 } }
    monitor := { c.monitor with
      engine := ⟨true, 0xFFFF#16, 2, some .low, .low, 0, some 1000#16, 300⟩, engineState := .turning
      road := { CaptureChannel.powerOn with running := false } } }
theorem witness_silencing : (run silencing).calm ∧ silencing.monitor.engine.running = true
    ∧ silencing.monitor.engine.counter = 0xFFFF#16 ∧ silencing.monitor.engine.wraps = 2
    ∧ silencing.monitor.engine.previous = some .low ∧ silencing.monitor.engine.filtered = .low
    ∧ silencing.monitor.road.running = false := ⟨calm_of _ (by decide) (by decide), by decide⟩
/-- R48, R53, R69: silence sets the speed to 0 and stops the machine, and the SUSPENDED grant is ACTIVE again. -/
theorem test_silence_in_a_tick : (silencing.channelTick .engine .low).monitor.engine.speed = 0
    ∧ (silencing.channelTick .engine .low).monitor.engine.wraps = 3
    ∧ (silencing.channelTick .engine .low).monitor.engineState = .stopped
    ∧ (silencing.channelTick .engine .low).grant.state = .active := by decide
theorem witness_capture : (run (ticking 0 1)).calm ∧ (ticking 0 1).monitor.engine.running = true
    ∧ (ticking 0 1).monitor.engine.wraps ≤ 3 ∧ (ticking 0 1).monitor.engine.counter ≠ 0xFFFF#16
    ∧ (ticking 0 1).monitor.engine.previous = some .high ∧ (ticking 0 1).monitor.engine.filtered = .low
    ∧ (ticking 0 1).params.engine.edge ≠ .falling
    ∧ (ticking 0 1).monitor.engine.dividerCount + 1 = (ticking 0 1).params.engine.divider :=
  ⟨calm_of _ (by decide) (by decide), by decide⟩

/-- ROAD at a capture after `ticks` ticks, its machine in this state, under a REFLASH grant. -/
def rolling (ticks : Word) (state : RoadState) (g : GrantState) : Chip :=
  let c := granted .reflash
  { c with
    grant := { c.grant with state := g, view := ⟨.stopped, state, .applied⟩ }
    monitor := { c.monitor with
      roadState := state, road := ⟨true, 1000#16 + ticks - 1#16, 0, some .high, .low, 0, some 1000#16, 0⟩ } }

theorem witness_rolling : (run (rolling 9000#16 .stationary .active)).calm
    ∧ (rolling 9000#16 .stationary .active).monitor.road.running = true
    ∧ (rolling 9000#16 .stationary .active).monitor.road.wraps ≤ 3
    ∧ (rolling 9000#16 .stationary .active).monitor.road.counter ≠ 0xFFFF#16
    ∧ (rolling 9000#16 .stationary .active).params.road.edge ≠ .falling
    ∧ (rolling 9000#16 .stationary .active).params.road.divider = 0 + 1
    ∧ min (36000 * (rolling 9000#16 .stationary .active).params.road.rate.hz * 1 / (8000 * 1 * 9000)) 2550 = 31
    ∧ min (36000 * (rolling 9000#16 .stationary .active).params.road.rate.hz * 1 / (8000 * 1 * 900)) 2550 = 312
    ∧ (rolling 9000#16 .stationary .active).grant.state = .active :=
  ⟨calm_of _ (by decide) (by decide), by decide⟩

/-- R50, R54, R68: at 3.1 km/h ROAD creeps, and an ACTIVE grant is suspended; at 31.2 km/h ROAD moves, and the grant ends
with reason MOTION. -/
theorem test_road_capture :
    ((rolling 9000#16 .stationary .active).channelTick .road .high).monitor.road.speed = 31
    ∧ ((rolling 9000#16 .stationary .active).channelTick .road .high).grant.state = .suspended
    ∧ ((rolling 900#16 .creeping .suspended).channelTick .road .high).monitor.road.speed = 312
    ∧ ((rolling 900#16 .creeping .suspended).channelTick .road .high).grant.record.endReason = some .motion := by decide

theorem witness_motion : Params.default.stopLow < Params.default.stopHigh
    ∧ Params.default.movingLow < Params.default.movingHigh := by decide
theorem witness_silence : (run (ticking 0 1)).calm ∧ (ticking 0 1).monitor.road.running = true
    ∧ (ticking 0 1).monitor.road.wraps = 3 ∧ (ticking 0 1).monitor.engine.wraps ≠ 3 :=
  ⟨calm_of _ (by decide) (by decide), by decide⟩
/-- With the wrap count at 3 under the SUSPENDED grant of `silencing`. -/
def silent : Chip :=
  { silencing with monitor := { silencing.monitor with engine := { silencing.monitor.engine with wraps := 3 } } }
theorem witness_silence_suspended : (run silent).calm ∧ silent.monitor.engine.running = true
    ∧ silent.monitor.engine.wraps = 3 ∧ silent.grant.state = .suspended
    ∧ ({ silent.grant.view with engine := .stopped } : MotionView).meets silent.grant.record.level = true
    ∧ silent.monitor.road.running = false := ⟨calm_of _ (by decide) (by decide), by decide⟩

/-- The park brake applied before, its level now low, the debounce interval running, under a REFLASH grant. -/
def parking : Chip :=
  let c := granted .reflash
  { c with monitor := { Monitor.started true with park := .applied, debounce := true } }

theorem witness_park : (run parking).calm ∧ parking.pins.park ≠ .high ∧ parking.monitor.debounce = true
    ∧ parking.monitor.park = .applied ∧ parking.pins.park = .low ∧ parking.grant.state = .active
    ∧ parking.grant.record.level = some .reflash := ⟨calm_of _ (by decide) (by decide), by decide⟩

/-- The brake released before, its level now high, under a SUSPENDED REFLASH grant. -/
def braking : Chip :=
  let c := granted .reflash
  let c := { c with grant := { c.grant with
    state := .suspended, view := ⟨.stopped, .stationary, .released⟩
    record := { c.grant.record with suspendRemaining := some 7 } } }
  { c with pins := { c.pins with park := .high }, monitor := { Monitor.started true with park := .released, debounce := true } }

theorem witness_brake : (run braking).calm ∧ braking.monitor.debounce = true ∧ braking.monitor.park ≠ .applied
    ∧ braking.pins.park = .high ∧ braking.grant.state = .suspended ∧ braking.grant.record.level = some .reflash
    ∧ braking.grant.view.road = .stationary ∧ braking.grant.view.engine = .stopped :=
  ⟨calm_of _ (by decide) (by decide), by decide⟩

/-! ## Witnesses: the Grant Controller -/

theorem listening0 : chip0.listening snap0 := ⟨rfl, by decide⟩
theorem listeningGranted (l : Level) : (granted l).listening snap0 := ⟨rfl, fun h => nomatch (show ResultCode.empty = .pending from h)⟩

def fields0 : GrantFields := ⟨2#8, 0xFFFFFFFF#32, 0x01020304#32, 5#32, 300#16, 7#8⟩

theorem witness_admitted : (run chip0).calm ∧ chip0.listening snap0 ∧ chip0.grant.state = .idle
    ∧ chip0.scanner.cycleChecked = true ∧ chip0.params.image ≠ .invalid
    ∧ chip0.grant.strikes < chip0.params.lockoutThreshold ∧ chip0.scanner.tamper = 0#24 ∧ fields0.level = 2#8
    ∧ fields0.duration ≠ 0#16 ∧ fields0.idleChoice.toNat ≤ 7 ∧ 10 < chip0.freeSlots ∧ chip0.engine.queue.length < 8 :=
  ⟨calm0, listening0, by decide⟩
theorem witness_refused : (run (granted .adjust)).calm ∧ (granted .adjust).listening snap0
    ∧ (granted .adjust).grant.state ≠ .idle := ⟨calmGranted .adjust, listeningGranted .adjust, by decide⟩

theorem witness_secondTick : (run (granted .adjust)).calm ∧ (granted .adjust).supply.power ≠ .dormant
    ∧ (granted .adjust).engine.queue.length < 8
    ∧ (granted .adjust).grant.strikes < (granted .adjust).params.lockoutThreshold
    ∧ (granted .adjust).grant.record.suspendRemaining = none
    ∧ (granted .adjust).scanner.timer + 1 < 60 * (granted .adjust).params.scanPeriod
    ∧ dormant.supply.power = .dormant ∧ dormant.bus.requestR = none :=
  ⟨calmGranted .adjust, by decide⟩

/-- A grant in force with these timers. -/
def timed (remaining idle : Nat) (suspend : Option Nat) : Chip :=
  let c := granted .adjust
  { c with grant := { c.grant with record := { c.grant.record with
      remaining := remaining, idleRemaining := idle, suspendRemaining := suspend } } }

theorem witness_expiry (remaining idle : Nat) (suspend : Option Nat) : (run (timed remaining idle suspend)).calm
    ∧ (timed remaining idle suspend).grant.state = .active ∧ (timed remaining idle suspend).engine.commit = none
    ∧ (timed remaining idle suspend).grant.record.rewritten = 0#24
    ∧ (timed remaining idle suspend).engine.queue = [] ∧ (timed remaining idle suspend).overlay.queue = []
    ∧ (timed remaining idle suspend).bus.requestL = none ∧ (timed remaining idle suspend).bus.memPort = .free
    ∧ (timed remaining idle suspend).bus.port = .idle :=
  ⟨calm_of _ (fun h => nomatch (show PowerState.active = .afterRun from h)) ⟨rfl, rfl, rfl, rfl⟩,
    rfl, rfl, rfl, rfl, rfl, rfl, rfl, rfl⟩
theorem witness_expired : (timed 0 0 (some 0)).grant.record.remaining = 0 := rfl
theorem witness_suspendTimeout : (timed 1 0 (some 0)).grant.record.remaining ≠ 0
    ∧ (timed 1 0 (some 0)).grant.record.suspendRemaining = some 0 := by decide
theorem witness_idleExpiry : (timed 1 0 (some 1)).grant.record.remaining ≠ 0
    ∧ (timed 1 0 (some 1)).grant.record.suspendRemaining ≠ some 0
    ∧ (timed 1 0 (some 1)).grant.record.idleRemaining = 0 := by decide

/-- The same, one second before the scan period, with a pass running or none, and a scan group. -/
def timedScan (remaining : Nat) (pass : Option PassRun) (group : List Win) : Chip :=
  let c := timed remaining 5 none
  { c with scanner := { c.scanner with timer := 1799, pass := pass }, map := { c.map with scanGroup := group } }
theorem witness_tickEnds : (timed 1 5 none).grant.record.remaining - 1 = 0
    ∧ (timed 5 1 (some 1)).grant.record.suspendRemaining.map (fun n => n - 1) = some 0
    ∧ (timed 5 1 none).grant.record.idleRemaining - 1 = 0
    ∧ (timed 1 5 none).grant.strikes < (timed 1 5 none).params.lockoutThreshold
    ∧ 60 * (timedScan 1 none [4]).params.scanPeriod ≤ (timedScan 1 none [4]).scanner.timer + 1
    ∧ (timedScan 1 none [4]).params.scanPeriod ≠ 0 ∧ (timedScan 1 none [4]).supply.power = .active
    ∧ (timedScan 1 none [4]).map.scanGroup = 4 :: [] ∧ (timedScan 1 none [4]).skips 4 = false
    ∧ (timedScan 1 none []).map.scanGroup = [] ∧ (timedScan 1 (some ⟨[], .summing 4⟩) [4]).scanner.pass ≠ none := by
  decide
/-- R71, R166: one tick ends the grant and starts a pass. -/
theorem test_tick_ends : (timedScan 1 none [4]).tickTimers.grantTick.grant.record.endReason = some .expired
    ∧ (timedScan 1 none [4]).tickTimers.grantTick.periodicExpiry.scanner.pass = some ⟨[], .summing 4⟩ := by decide

theorem witness_keep_revoke (g : GrantState) : (run (inState g)).calm ∧ (inState g).listening snap0
    ∧ (inState g).grant.state = g :=
  ⟨calm_of _ (fun h => nomatch (show PowerState.active = .afterRun from h)) ⟨rfl, rfl, rfl, rfl⟩,
    ⟨rfl, fun h => nomatch (show ResultCode.empty = .pending from h)⟩, rfl⟩

/-- An ending with window 4 still to sum, and a processor port in this state. -/
def closing (p : Port) : Chip :=
  let c := granted .reflash
  { c with grant := { c.grant with state := .ending, step := .closing [4] false }
           bus := { c.bus with port := p, memPort := .parked } }

theorem witness_closing (p : Port) : (run (closing p)).calm ∧ (closing p).grant.step = .closing (4 :: []) false
    ∧ (closing p).scanner.queue = [] ∧ (closing p).bus.port = p :=
  ⟨calm_of _ (fun h => nomatch (show PowerState.active = .afterRun from h)) ⟨rfl, rfl, rfl, rfl⟩, rfl, rfl, rfl⟩
theorem witness_closing_ports : Port.idle.passWriteTo 4 = false
    ∧ (Port.transfer (cycle0 .write) true).passWriteTo 4 = true := by decide

/-- The same with its sum asked for, these windows left after 5. -/
def closingAsked (left : List Win) : Chip :=
  let c := granted .reflash
  { c with grant := { c.grant with
      state := .ending, step := .closing (5 :: left) true
      record := { c.grant.record with rewritten := 0x20#24, endReason := some .revoked } } }

/-- A requested sum of window 5 at its last word. -/
def requested (clients : List SumClient) (c : Chip) : Chip :=
  busy .S ⟨0x0103FE#24, .read⟩ { c with scanner := { c.scanner with
    sum := some ⟨5, 511, 1#16, 0#16, .request clients⟩ } }

theorem witness_requested (clients : List SumClient) (c : Chip) (h : c.supply.power ≠ .afterRun)
    (hm : c.map = map0) (hr : c.bus.requestS = none) : (run (requested clients c)).supplied = true
    ∧ (requested clients c).staysUp ∧ (requested clients c).bus.memPort = .busy .S ⟨0x0103FE#24, .read⟩ true
    ∧ (requested clients c).bus.requestS = none
    ∧ (requested clients c).scanner.sum = some ⟨5, 511, 1#16, 0#16, .request clients⟩
    ∧ (requested clients c).map.ownedAt 5 (511 + 1) = none := by
  refine ⟨rfl, staysUp_of _ h, rfl, hr, rfl, ?_⟩
  show c.map.ownedAt 5 512 = none
  rw [hm]
  decide
/-- What the requesters wait for: a closing sum, also with a commit's or a REBASE's merged. -/
theorem witness_delivered : (closingAsked []).grant.step = .closing (5 :: []) true
    ∧ (closingAsked [6]).grant.step = .closing (5 :: [6]) true ∧ (closingAsked []).map = map0
    ∧ ([.closing, .rebase] : List SumClient).Nodup ∧ SumClient.survey ∉ ([.closing, .rebase] : List SumClient)
    ∧ ([.commit] : List SumClient).length = 1 ∧ (closingAsked []).supply.power ≠ .afterRun := by decide
/-- R170, R160: the oldest request is for a window that owns no word. -/
theorem witness_emptyWindow : map0.ownedAt 7 0 = none := by decide
/-- R169: a request for a window that waits merges with the waiting one, which keeps its place. -/
theorem test_sum_merges : mergeSum 4 .closing [⟨5, [.commit]⟩, ⟨4, [.rebase]⟩, ⟨6, [.commit]⟩]
    = [⟨5, [.commit]⟩, ⟨4, [.rebase, .closing]⟩, ⟨6, [.commit]⟩] := by decide
/-- R78, R79: with the last closing sum the WINDOW_SUM and the GRANT_END are asked for. -/
theorem test_closing_delivered : (closingAsked []).deliver 5 7#32 [.closing]
    = { closingAsked [] with
        grant := { (closingAsked []).grant with step := .grantEnd }
        engine := { chip0.engine with queue := [⟨.windowSum 5 .reflash 7#32, .grant, false, 0⟩,
          ⟨.grantEnd .revoked 0#32 0 0 0x20#24 0 1 0#32, .grant, false, 0⟩] } } := by decide

/-- A strike decay that is due. -/
def decaying (strikes : Nat) : Chip :=
  { chip0 with grant := { chip0.grant with strikes := strikes, decay := 600 } }

theorem witness_decay : (run (decaying 6)).calm ∧ 0 < (decaying 6).grant.strikes
    ∧ 60 * (decaying 6).params.strikeDecay ≤ (decaying 6).grant.decay ∧ (decaying 6).engine.queue.length < 8
    ∧ (decaying 6).grant.strikes = (decaying 6).params.lockoutThreshold
    ∧ (decaying 5).grant.strikes ≠ (decaying 5).params.lockoutThreshold := ⟨calm_of _ (by decide) (by decide), by decide⟩

/-- One second before the decay, at the threshold. -/
theorem witness_tickDecays :
    60 * (decaying 6).params.strikeDecay
      ≤ ({ (decaying 6).grant with decay := 599 } : GrantController).decay + 1
    ∧ (decaying 6).supply.power = .active ∧ (decaying 6).grant.state = .idle := by decide

/-! ## Witnesses: the overlay and the Record Engine -/

theorem witness_refusalsRequest : (run chip0).calm ∧ chip0.listening snap0 := ⟨calm0, listening0⟩

/-- With page 0 open and this load queue. -/
def discarding (queue : List PageNo) : Chip :=
  let c := opened .adjust
  { c with overlay := { c.overlay with queue := queue } }

theorem witness_discard (queue : List PageNo) : (run (discarding queue)).calm ∧ (discarding queue).listening snap0
    ∧ (discarding queue).grant.state = .active ∧ (discarding queue).map.bindings[(0 : PageNo)] = some 5
    ∧ hasWin (discarding queue).grant.record.scope 5 = true
    ∧ (discarding queue).overlay.pages[(0 : PageNo)].state = .opened
    ∧ (discarding queue).servedAt 0 0 = some (0, 0x010000#24) :=
  ⟨calm_of _ (fun h => nomatch (show PowerState.active = .afterRun from h)) ⟨rfl, rfl, rfl, rfl⟩,
    ⟨rfl, fun h => nomatch (show ResultCode.empty = .pending from h)⟩, rfl, rfl,
    (show hasWin 0xFFFFFF#24 5 = true by decide), rfl, (show chip0.servedAt 0 0 = _ from test_first_served_word)⟩
/-- With page 1, of window 8, OPEN too. -/
def discardingTwo : Chip :=
  let c := discarding []
  { c with map := nextLoad.map, overlay := { c.overlay with pages := c.overlay.pages.set 1 ⟨.opened, []⟩ } }
theorem witness_discard_two : (run discardingTwo).calm ∧ discardingTwo.listening snap0 ∧ listsPages [0, 1] 3#8
    ∧ (∀ p : PageNo, hasPage 3#8 p = true → discardingTwo.overlay.pages[p].state = .opened
        ∧ ∃ w, discardingTwo.map.bindings[p] = some w ∧ hasWin discardingTwo.grant.record.scope w = true)
    ∧ discardingTwo.overlay.queue = [] ∧ discardingTwo.servedAt 0 0 = some (0, 0x010000#24) :=
  ⟨calm_of _ (by decide) (by decide), ⟨rfl, by decide⟩, ⟨by decide, by decide⟩, by decide, rfl, by decide⟩
/-- The refusals of R119: no grant; an empty set and an unbound page; and a page that is loading. -/
theorem witness_discard_refused : chip0.grant.state ≠ .active ∧ chip0.grant.state ≠ .suspended
    ∧ (discarding []).overlay.pages[(2 : PageNo)].state = .unbound
    ∧ (loading 1).overlay.pages[(0 : PageNo)].state = .loading ∧ (loading 1).grant.state = .active
    ∧ (loading 1).map.bindings[(0 : PageNo)] = some 5 ∧ hasWin (loading 1).grant.record.scope 5 = true := by decide

/-- With one append waiting in the queue, and this many slots claimed. -/
def appending (kind : AppendKind) (claimed : Nat) (state : GrantState) : Chip :=
  let c := granted .adjust
  { c with
    grant := { c.grant with state := state }
    engine := { c.engine with queue := [⟨kind, .grant, false, 0⟩], claimed := claimed }
    link := { c.link with reply := ⟨.pending, 2#8, []⟩ } }

theorem witness_append (kind : AppendKind) (claimed : Nat) (state : GrantState) :
    (run (appending kind claimed state)).calm ∧ (appending kind claimed state).engine.progress = none
    ∧ (appending kind claimed state).supply.startUp.phase = .ended
    ∧ (appending kind claimed state).engine.waiting = []
    ∧ (appending kind claimed state).engine.queue = ⟨kind, .grant, false, 0⟩ :: []
    ∧ (appending kind claimed state).engine.head < 0xFFFFFFFF
    ∧ (appending kind claimed state).map.record = some ⟨0x021000#24, 12⟩
    ∧ (appending kind claimed state).grant.state = state
    ∧ (appending kind claimed state).link.reply = ⟨.pending, 0x02#8, []⟩ :=
  ⟨calm_of _ (fun h => nomatch (show PowerState.active = .afterRun from h)) ⟨rfl, rfl, rfl, rfl⟩,
    rfl, rfl, rfl, rfl, (by decide : 1 < 0xFFFFFFFF), rfl, rfl, rfl⟩
/-- Slots free, and none: the last is also the GRANT_BEGIN that cannot be written, its GRANT pending. -/
theorem witness_append_slots : 1 ≤ (appending (.lockoutBegin 6 6) 0 .idle).freeSlots
    ∧ (appending (.lockoutBegin 6 6) 128 .idle).freeSlots = 0
    ∧ (appending (.grantBegin .adjust 0#32 0#32 0#24 1 0) 128 .opening).freeSlots = 0 := by decide

/-- With a TRIM_CHANGE of page 0's word 2 waiting, claimed. -/
def trimming : Chip :=
  let c := opened .adjust
  { c with engine := { c.engine with queue := [⟨.trimChange 0 2, .commit, true, 0⟩], claimed := 3 } }

theorem witness_trimTake : (run trimming).calm ∧ trimming.map.record = some ⟨0x021000#24, 12⟩
    ∧ trimming.engine.progress = none ∧ trimming.supply.startUp.phase = .ended ∧ trimming.engine.waiting = []
    ∧ trimming.engine.queue = [⟨.trimChange 0 2, .commit, true, 0⟩] ∧ trimming.engine.head < 0xFFFFFFFF
    ∧ trimming.engine.head - 1 - trimming.engine.mark < trimming.capacity
    ∧ trimming.map.bindings[(0 : PageNo)] = some 5 ∧ (trimming.overlay.pages[(0 : PageNo)].word 2).loaded = true :=
  ⟨calm_of _ (by decide) (by decide), by decide⟩

/-- The read of its old value in flight. -/
def readingOld : Chip :=
  let c := opened .adjust
  busy .R ⟨0x010004#24, .read⟩ { c with engine := { c.engine with
    progress := some ⟨⟨.trimChange 0 2, .commit, true, 0⟩, some ⟨5, 0x010004#24, 60#16, false, 9⟩, .readOld⟩ } }

theorem witness_readOld : (run readingOld).supplied = true ∧ readingOld.supply.power ≠ .afterRun
    ∧ readingOld.bus.memPort = .busy .R ⟨0x010004#24, .read⟩ true ∧ readingOld.bus.requestR = none
    ∧ readingOld.engine.progress = some
      ⟨⟨.trimChange 0 2, .commit, true, 0⟩, some ⟨5, 0x010004#24, 60#16, false, 9⟩, .readOld⟩ := by decide

/-- Eight appends in the queue and these waiting for a place, with a pass that waits for the TAMPER of ticket 3, and an ARCHIVED
pending. -/
def crowded (waiting : List Waiter) (left : List Win) : Chip :=
  { chip0 with
    engine := { chip0.engine with
      head := 11, mark := 4, waiting := waiting, queue := List.replicate 8 ⟨.lockoutEnd 5 6, .grant, false, 0⟩ }
    scanner := { chip0.scanner with pass := some ⟨left, .joining 3⟩ }
    link := { chip0.link with reply := ⟨.pending, 0x0A#8, []⟩ } }

theorem witness_crowded (waiting : List Waiter) (left : List Win) : (run (crowded waiting left)).calm
    ∧ (crowded waiting left).engine.progress = none ∧ (crowded waiting left).supply.startUp.phase = .ended
    ∧ (crowded waiting left).engine.queue
      = ⟨.lockoutEnd 5 6, .grant, false, 0⟩ :: List.replicate 7 ⟨.lockoutEnd 5 6, .grant, false, 0⟩
    ∧ (crowded waiting left).engine.waiting = waiting
    ∧ (crowded waiting left).scanner.pass = some ⟨left, .joining 3⟩ ∧ (crowded waiting left).scanner.queue = []
    ∧ (crowded waiting left).scanner.sum = none ∧ (crowded waiting left).link.reply = ⟨.pending, 0x0A#8, []⟩
    ∧ (crowded waiting left).engine.mark < 10 ∧ 10 ≤ (crowded waiting left).engine.head - 1
    ∧ 1 ≤ (crowded waiting left).freeSlots ∧ (crowded waiting left).engine.head < 0xFFFFFFFF :=
  ⟨calm_of _ (fun h => nomatch (show PowerState.active = .afterRun from h)) ⟨rfl, rfl, rfl, rfl⟩,
    rfl, rfl, rfl, rfl, rfl, rfl, rfl, rfl, (by decide : 4 < 10), (by decide : 10 ≤ 11 - 1),
    (by decide : 1 ≤ 2 ^ 12 / 32 - (11 - 1 - 4) - 0), (by decide : 11 < 0xFFFFFFFF)⟩
/-- R136, R144: a waiting ARCHIVED is taken when the engine begins an append. -/
theorem test_archived_joins : (crowded [.archived 10] []).beginAppend.engine.mark = 10
    ∧ (crowded [.archived 10] []).beginAppend.link.reply = ⟨.ok, 0x0A#8, []⟩
    ∧ (crowded [.archived 10] []).beginAppend.engine.queue.length = 8 := by decide
/-- R136, R171: a waiting TAMPER joins, and the pass that waited for it goes on. -/
theorem test_tamper_joins :
    (crowded [.append ⟨.tamper 5 none 7#32, .scanner, false, 3⟩] []).beginAppend.scanner.pass = none := by decide

/-- An append of a source that cannot be written: no slot is free, or the head stands at its top. -/
def unwritable (q : AppendRequest) (c : Chip) : Chip :=
  { c with engine := { c.engine with queue := [q], head := 0xFFFFFFFF, mark := 0xFFFFFFFE } }

theorem witness_unwritable (q : AppendRequest) (c : Chip) (h : c.supply.power ≠ .afterRun) (hp : c.engine.progress = none)
    (hs : c.supply.startUp.phase = .ended) (hw : c.engine.waiting = [])
    (hr : c.bus.requestP = none ∧ c.bus.requestR = none ∧ c.bus.requestL = none ∧ c.bus.requestS = none) :
    (run (unwritable q c)).calm ∧ (unwritable q c).engine.progress = none
    ∧ (unwritable q c).supply.startUp.phase = .ended ∧ (unwritable q c).engine.waiting = []
    ∧ (unwritable q c).engine.queue = q :: [] ∧ (unwritable q c).engine.head ≥ 0xFFFFFFFF :=
  ⟨calm_of _ h hr, hp, hs, hw, rfl, (by decide : 0xFFFFFFFF ≥ 0xFFFFFFFF)⟩

/-- An append of the survey's that cannot be written, beside a grant that is IDLE. -/
theorem witness_survey_unwritten (phase : StartPhase) (h : phase.usesR = false) :
    let c : Chip := unwritable ⟨.commitEnd .rolledBack 3, .survey, false, 0⟩ (owing phase 1)
    (run c).calm ∧ c.engine.progress = none ∧ c.supply.startUp.phase.usesR = false ∧ c.engine.waiting = []
    ∧ c.engine.queue = ⟨.commitEnd .rolledBack 3, .survey, false, 0⟩ :: [] ∧ c.grant.state = .idle
    ∧ 0xFFFFFFFF ≤ c.engine.head :=
  ⟨calm_of _ (fun h => nomatch (show PowerState.start = .afterRun from h)) ⟨rfl, rfl, rfl, rfl⟩,
    rfl, h, rfl, rfl, rfl, (by decide : 0xFFFFFFFF ≤ 0xFFFFFFFF)⟩

/-- The hypotheses on `c` of the last witness, for the states of its clauses. -/
theorem witness_unwritable_states (c : Chip) (h : c ∈ [chip0, granted .reflash, announcing, ended, inState .opening]) :
    c.supply.power ≠ .afterRun ∧ c.engine.progress = none ∧ c.supply.startUp.phase = .ended ∧ c.engine.waiting = []
    ∧ c.bus.requestP = none ∧ c.bus.requestR = none ∧ c.bus.requestL = none ∧ c.bus.requestS = none := by
  revert c
  decide

/-- A commit of page 0 with these words left, under an ACTIVE grant; a REBASE of windows 4 and 5; and a pass that waits for
an adoption. -/
def committingLeft (todo : List (PageNo × Nat)) : Chip :=
  let c := granted .adjust
  { c with engine := { c.engine with commit := some ⟨1#8, [(0, 2), (0, 5)], todo, 0⟩ } }
def rebasing (left : List Win) : Chip :=
  let c := granted .factory
  { c with scanner := { c.scanner with rebase := some left } }
def adopting : Chip :=
  let c := granted .adjust
  { c with scanner := { c.scanner with pass := some ⟨[], .adopting 3⟩, tickets := 4 } }

/-- The same with window 4 left. -/
def adoptingMore : Chip := { adopting with scanner := { adopting.scanner with pass := some ⟨[4], .adopting 3⟩ } }
theorem witness_unwritable_adoption : adoptingMore.scanner.pass = some ⟨4 :: [], .adopting 3⟩
    ∧ adoptingMore.scanner.queue = [] ∧ adoptingMore.scanner.sum = none ∧ adoptingMore.skips 4 = false
    ∧ adoptingMore.supply.power ≠ .afterRun ∧ adoptingMore.engine.progress = none
    ∧ adoptingMore.supply.startUp.phase = .ended ∧ adoptingMore.engine.waiting = [] ∧ adoptingMore.bus.requestS = none := by
  decide
theorem witness_unwritable_adoption_next : adoptingMore.map.ownedAt 4 0 = some 0 :=
  (show map0.ownedAt 4 0 = some 0 by rfl)

theorem witness_unwritable_commit : (committingLeft [(0, 2), (0, 5)]).engine.commit
      = some ⟨1#8, [(0, 2), (0, 5)], [(0, 2), (0, 5)], 0⟩
    ∧ (committingLeft []).grant.state = .active ∧ (committingLeft []).grant.record.rewritten = 0#24
    ∧ (committingLeft [(0, 2)]).map.bindings[(0 : PageNo)] = some 5 ∧ (committingLeft [(0, 2)]).scanner.queue = []
    ∧ (rebasing [4, 5]).scanner.rebase = some (4 :: [5]) ∧ (rebasing [4]).scanner.rebase = some (4 :: [])
    ∧ (rebasing [4, 5]).scanner.queue = [] ∧ adopting.scanner.pass = some ⟨[], .adopting 3⟩
    ∧ adopting.adoptionMeetsGrant ⟨.windowSum 4 .interruptedReflash 0#32, .scanner, false, 3⟩ = true
    ∧ announcing.grant.state = .active := by decide
/-- The states of `FinishedRequestsGoOn`: a page's next word left, its last, and another page's. -/
theorem witness_finished : (committingLeft [(0, 2), (0, 5)]).engine.commit
      = some ⟨1#8, [(0, 2), (0, 5)], (0, 2) :: [(0, 5)], 0⟩
    ∧ (committingLeft [(0, 2)]).engine.commit = some ⟨1#8, [(0, 2), (0, 5)], (0, 2) :: [], 0⟩
    ∧ (committingLeft [(0, 2), (1, 5)]).map.bindings[(0 : PageNo)] = some 5
    ∧ (rebasing [5, 4]).scanner.rebase = some (5 :: [4]) ∧ (committingLeft []).supply.power ≠ .afterRun
    ∧ (rebasing [5]).bus.requestR = none := by decide
/-- R149, R150: after a TRIM_CHANGE's word the page's next take follows, or the window's sum. -/
theorem test_trim_finished :
    ((committingLeft [(0, 2), (0, 5)]).trimFinished 0 true).engine.queue = [⟨.trimChange 0 5, .commit, true, 0⟩]
    ∧ ((committingLeft [(0, 2)]).trimFinished 0 true).scanner.queue = [⟨5, [.commit]⟩] := by decide
theorem witness_unwritable_more (c : Chip)
    (h : c ∈ [committingLeft [(0, 2), (0, 5)], committingLeft [(0, 2)], committingLeft [], rebasing [4, 5], rebasing [4],
      adopting]) : c.supply.power ≠ .afterRun ∧ c.engine.progress = none ∧ c.supply.startUp.phase = .ended
    ∧ c.engine.waiting = [] ∧ c.bus.requestP = none ∧ c.bus.requestR = none ∧ c.bus.requestL = none
    ∧ c.bus.requestS = none := by
  revert c
  decide

/-- A first write held for WINDOW OPENING while no grant is in force any more. -/
def announcingEnded : Chip := { announcing with grant := { announcing.grant with state := .ending } }

theorem witness_notOpened : announcingEnded.grant.state = .ending ∧ announcingEnded.supply.power ≠ .afterRun
    ∧ hasWin announcingEnded.grant.record.rewritten 4 = true
    ∧ announcingEnded.bus.port = .held (cycle0 .write) .windowOpening ∧ (cycle0 .write).direction = .write
    ∧ (AppendSource.grant) ≠ .survey ∧ chip0.grant.state = .idle ∧ (granted .reflash).grant.state = .active := by decide

/-- Page 0 open, with page word 2 dirty or not. -/
def committing (dirty : Bool) : Chip :=
  let c := granted .adjust
  { c with overlay := { c.overlay with
      pages := c.overlay.pages.set 0 ⟨.opened, [(2, ⟨61#16, 60#16, true, dirty, false⟩)]⟩ } }

/-- R148: the take list of the page is its one dirty word, or empty. -/
theorem witness_takeList (dirty : Bool) : (committing dirty).takeList 1#8 = if dirty then [(0, 2)] else [] := by
  cases dirty <;> decide +kernel
theorem witness_commit : (run (committing true)).calm ∧ (committing true).listening snap0
    ∧ (committing true).grant.state = .active ∧ (1#8 : PageSet) ≠ 0#8
    ∧ (∀ p : PageNo, hasPage 1#8 p = true → (committing true).overlay.pages[p].state = .opened
        ∧ ((committing true).map.bindings[p] = some 5 ∧ hasWin (committing true).grant.record.scope 5 = true))
    ∧ (committing true).engine.commit = none
    ∧ 1 + 1 + 2 + 8 ≤ (committing true).freeSlots ∧ (committing true).engine.queue.length < 8
    ∧ ((committing true).overlay.pages[(0 : PageNo)].word 2).dirty = true
    ∧ map0.ownerOf (0x010000#24 + BitVec.ofNat 24 (2 * 2)) = .window 5 :=
  ⟨calm_of _ (by decide) (by decide), ⟨rfl, by decide⟩, by decide⟩
/-- The refusals of R147 in their order: no grant, a SUSPENDED one, a page that is not OPEN, a commit that runs, and an area
with too few free slots. -/
theorem witness_commit_refused : chip0.grant.state = .idle ∧ (inState .suspended).grant.state = .suspended
    ∧ (loading 1).overlay.pages[(0 : PageNo)].state ≠ .opened
    ∧ (sequencing .active).engine.commit ≠ none
    ∧ ({ committing true with engine := { (committing true).engine with head := 120 } } : Chip).freeSlots < 4 + 8 := by
  decide

/-- Ten records written, four of them archived, and the append queue with room or full. -/
def recorded (full : Bool) : Chip :=
  { chip0 with engine := { chip0.engine with
      head := 11, mark := 4, queue := if full then List.replicate 8 ⟨.lockoutEnd 5 6, .grant, false, 0⟩ else [] } }

theorem witness_archived (full : Bool) : (run (recorded full)).calm ∧ (recorded full).listening snap0
    ∧ (recorded full).engine.mark = 4 ∧ (recorded full).engine.head - 1 = 10 :=
  ⟨calm_of _ (fun h => nomatch (show PowerState.active = .afterRun from h)) ⟨rfl, rfl, rfl, rfl⟩,
    ⟨rfl, fun h => nomatch (show ResultCode.empty = .pending from h)⟩, rfl, rfl⟩
theorem witness_archived_numbers : (4#32).toNat ≤ 4 ∧ 10 < (11#32).toNat ∧ 4 < (10#32).toNat ∧ (10#32).toNat ≤ 10
    ∧ (recorded false).engine.queue.length < 8 ∧ 8 ≤ (recorded true).engine.queue.length := by decide

/-! ## Witnesses: the Integrity Scanner -/

/-- The scanner in a state, in ACTIVE. -/
def scanning (pass : Option PassRun) (timer : Nat) (queue : List SumRequest) (sum : Option SumRun) : Chip :=
  { chip0 with scanner := { chip0.scanner with pass := pass, timer := timer, queue := queue, sum := sum } }

theorem calmScanning (pass : Option PassRun) (timer : Nat) (queue : List SumRequest) (sum : Option SumRun) :
    (run (scanning pass timer queue sum)).calm ∧ (scanning pass timer queue sum).listening snap0 :=
  ⟨calm_of _ (fun h => nomatch (show PowerState.active = .afterRun from h)) ⟨rfl, rfl, rfl, rfl⟩,
    ⟨rfl, fun h => nomatch (show ResultCode.empty = .pending from h)⟩⟩

theorem witness_periodic : 60 * (scanning none 1800 [] none).params.scanPeriod ≤ (scanning none 1800 [] none).scanner.timer
    ∧ (scanning none 1800 [] none).params.scanPeriod ≠ 0 ∧ (scanning none 1800 [] none).map.scanGroup = 4 :: []
    ∧ (scanning none 1800 [] none).skips 4 = false
    ∧ (scanning (some ⟨[4], .between⟩) 1800 [] none).scanner.pass ≠ none := by decide
theorem witness_firstWord (pass : Option PassRun) (timer : Nat) (queue : List SumRequest) (sum : Option SumRun) :
    (scanning pass timer queue sum).map.ownedAt 4 0 = some 0 :=
  (show map0.ownedAt 4 0 = some 0 by rfl)
theorem witness_passResume : (scanning (some ⟨[4], .between⟩) 0 [] none).skips 4 = false
    ∧ (scanning (some ⟨[4], .between⟩) 0 [⟨5, [.commit]⟩] none).scanner.queue ≠ [] := by decide
/-- The same, with window 4 rewritten under the grant. -/
def rewriting : Chip :=
  let c := scanning (some ⟨[4], .between⟩) 0 [] none
  { c with grant := { c.grant with record := { c.grant.record with rewritten := 0x10#24 } } }
theorem witness_passSkips : (run rewriting).calm ∧ rewriting.scanner.pass = some ⟨4 :: [], .between⟩
    ∧ hasWin rewriting.grant.record.rewritten 4 = true ∧ rewriting.scanner.queue = [] ∧ rewriting.scanner.sum = none :=
  ⟨calm_of _ (by decide) (by decide), by decide⟩
theorem witness_rescan : (scanning (some ⟨[], .summing 4⟩) 7 [] (some ⟨4, 9, 1#16, 0#16, .pass⟩)).skips 4 = false
    ∧ (scanning none 0 [] none).supply.power = .active ∧ State.reset.chip.supply.power ≠ .active := by decide
theorem witness_rescan_start : (run { chip0 with supply := { chip0.supply with power := .start } }).calm
    ∧ ({ chip0 with supply := { chip0.supply with power := .start } } : Chip).listening snap0 :=
  ⟨calm_of _ (by decide) (by decide), rfl, by decide⟩
theorem witness_sumService : (scanning none 0 [⟨4, [.commit]⟩] none).scanner.queue = ⟨4, [.commit]⟩ :: []
    ∧ (scanning (some ⟨[], .summing 4⟩) 0 [⟨4, [.commit]⟩] none).scanner.pass = some ⟨[], .summing 4⟩
    ∧ PassPhase.summing 4 ≠ .between := by decide

/-- An ACTIVE FACTORY grant with this tamper set. -/
def tampered (set : WindowSet) : Chip :=
  let c := granted .factory
  { c with scanner := { c.scanner with tamper := set } }

theorem witness_rebase (set : WindowSet) : (run (tampered set)).calm ∧ (tampered set).listening snap0
    ∧ (tampered set).grant.state = .active ∧ (tampered set).grant.record.level = some .factory
    ∧ (tampered set).scanner.rebase = none ∧ (tampered set).scanner.tamper = set ∧ (tampered set).scanner.queue = [] :=
  ⟨calm_of _ (fun h => nomatch (show PowerState.active = .afterRun from h)) ⟨rfl, rfl, rfl, rfl⟩,
    ⟨rfl, fun h => nomatch (show ResultCode.empty = .pending from h)⟩, rfl, rfl, rfl, rfl, rfl⟩
theorem witness_rebase_windows : winsOf 0x30#24 = 4 :: [5] ∧ winsOf 0#24 = [] := by decide
theorem witness_rebase_refused : (granted .adjust).grant.record.level ≠ some .factory := by decide

/-! ## Witnesses: supply, ignition, dormancy, waking -/

/-- The kind word of a record in flight: VOID at its first write, LOCKOUT_END at its last. -/
def cutting (ws : List (Addr × Word)) (w : Word) : Chip :=
  busy .R ⟨0x021000#24, .write true true w⟩ { chip0 with engine := { chip0.engine with
    progress := some ⟨⟨.lockoutEnd 5 6, .grant, false, 0⟩, none, .slot ws⟩ } }

theorem witness_cutOff : (run (cutting [(0x021000#24, 0x000A#16)] 0x000A#16)).memoryWf
    ∧ (run (cutting [(0x021000#24, 0x000A#16)] 0x000A#16)).supplied = true
    ∧ (cutting [(0x021000#24, 0x000A#16)] 0x000A#16).bus.memPort
      = .busy .R ⟨0x021000#24, .write true true 0x000A#16⟩ true
    ∧ (slotWrites 0x021000#24 0x000A#16 (List.replicate 13 0#16) 1).length = 17
    ∧ (slotWrites 0x021000#24 0x000A#16 (List.replicate 13 0#16) 1).head? = some (0x021000#24, 0#16)
    ∧ (slotWrites 0x021000#24 0x000A#16 (List.replicate 13 0#16) 1).getLast? = some (0x021000#24, 0x000A#16) := by
  unfold State.memoryWf
  decide
/-- R177, R199: asserted in START and with a grant ending, released in ACTIVE without work; ATTN_N with a notice. -/
theorem test_outputs : State.reset.holdPwr = true ∧ (run chip0).holdPwr = false ∧ (run ended).holdPwr = true
    ∧ (run chip0).attention = false ∧ (run (chip0.notify .scanDone)).attention = true := by decide

/-- START with the survey over, the filter settled at this level. -/
def starting (level : IgnitionLevel) : Chip :=
  { chip0 with
    bus := { chip0.bus with gate := ⟨true, false, false⟩ }
    map := { chip0.map with scanGroup := [] }
    supply := { chip0.supply with power := .start, filtered := level }
    scanner := { chip0.scanner with cycleChecked := false } }

theorem witness_startEnd (level : IgnitionLevel) : (run (starting level)).calm ∧ (starting level).supply.power = .start
    ∧ (starting level).supply.startUp.phase = .ended ∧ (starting level).bus.port = .idle
    ∧ (starting level).grant.state = .idle ∧ (starting level).supply.filtered = level
    ∧ (starting level).map.scanGroup = [] ∧ (starting level).scanner.sum = none :=
  ⟨calm_of _ (fun h => nomatch (show PowerState.start = .afterRun from h)) ⟨rfl, rfl, rfl, rfl⟩,
    rfl, rfl, rfl, rfl, rfl, rfl, rfl⟩

theorem witness_startEnd_early : (run chip0).calm ∧ chip0.supply.power ≠ .start ∧ (starting .unsettled).supply.filtered = .unsettled :=
  ⟨calm0, by decide⟩
/-- The same with a scan group and a GATED read, or none. -/
def startingGated (level : IgnitionLevel) (group : List Win) (p : Port) : Chip :=
  let c := starting level
  { c with map := { c.map with scanGroup := group }, bus := { c.bus with port := p } }
theorem witness_startEnd_gated (level : IgnitionLevel) (group : List Win) (p : Port) :
    (run (startingGated level group p)).calm ∧ (startingGated level group p).supply.power = .start
    ∧ (startingGated level group p).supply.startUp.phase = .ended ∧ (startingGated level group p).grant.state = .idle
    ∧ (startingGated level group p).scanner.sum = none ∧ (startingGated level group p).supply.filtered = level
    ∧ (startingGated level group p).map.scanGroup = group ∧ (startingGated level group p).scanner.queue = []
    ∧ (startingGated level group p).bus.port = p
    ∧ ({ (startingGated level group p).bus.gate with start := false } : Gate).isOpen = true :=
  ⟨calm_of _ (fun h => nomatch (show PowerState.start = .afterRun from h)) ⟨rfl, rfl, rfl, rfl⟩,
    rfl, rfl, rfl, rfl, rfl, rfl, rfl, rfl, rfl⟩
theorem witness_startEnd_word (level : IgnitionLevel) (p : Port) : (startingGated level [4] p).map.ownedAt 4 0 = some 0 :=
  (show ({ map0 with scanGroup := [4] } : WindowMap).ownedAt 4 0 = some 0 by rfl)
/-- R182, R162, R9: START ends with ON; the pass starts, and a GATED read of KEYS content is decided FILL. -/
theorem test_startEnd_gated :
    (startingGated .on [4] (.gated (captureCycle (read 0x040000#24)))).endStart.scanner.pass = some ⟨[], .summing 4⟩
    ∧ (startingGated .on [4] (.gated (captureCycle (read 0x040000#24)))).endStart.adu.refusals
      = [⟨.window 0, .read, .hidden, 0x040000#24, 1, none⟩] := by decide

/-- The stability interval running in a power state, with a filtered level and a pin level. -/
def filtering (p : PowerState) (level : IgnitionLevel) (pin : PinLevel) : Chip :=
  { chip0 with
    pins := { chip0.pins with ignition := pin }
    supply := { chip0.supply with power := p, filtered := level, stability := true } }

theorem witness_filter : (run (filtering .dormant .off .high)).calm ∧ (filtering .dormant .off .high).supply.stability = true
    ∧ (filtering .dormant .off .high).supply.filtered = .off ∧ (filtering .dormant .off .high).pins.ignition = .high
    ∧ (run (filtering .active .on .low)).calm ∧ (filtering .active .on .low).grant.state = .idle
    ∧ (filtering .active .on .low).scanner.sum = none
    ∧ (run (filtering .start .unsettled .high)).calm :=
  ⟨calm_of _ (by decide) (by decide), by decide, by decide, by decide, calm_of _ (by decide) (by decide), by decide,
    by decide, calm_of _ (by decide) (by decide)⟩
/-- The filter at OFF in ACTIVE under an ACTIVE grant, with a pass's sum in progress and its read in flight. -/
def switchedOff : Chip :=
  let c := filtering .active .on .low
  busy .S ⟨0x000012#24, .read⟩ { c with
    grant := (granted .reflash).grant
    scanner := { c.scanner with pass := some ⟨[], .summing 4⟩, sum := some ⟨4, 9, 1#16, 0#16, .pass⟩ } }
theorem witness_filter_off : (run switchedOff).calm ∧ switchedOff.supply.stability = true
    ∧ switchedOff.supply.filtered = .on ∧ switchedOff.pins.ignition = .low ∧ switchedOff.supply.power = .active
    ∧ switchedOff.grant.state = .active ∧ switchedOff.engine.queue.length < 8 ∧ switchedOff.engine.commit = none
    ∧ switchedOff.grant.record.rewritten = 0#24 ∧ switchedOff.scanner.sum = some ⟨4, 9, 1#16, 0#16, .pass⟩ :=
  ⟨calm_of _ (by decide) (by decide), by decide⟩
/-- R183, R168, R75: the grant ends with IGNITION, and the data of the pass's read will be discarded. -/
theorem test_ignition_off : switchedOff.ignitionFiltered.grant.record.endReason = some .ignition
    ∧ switchedOff.ignitionFiltered.bus.memPort = .busy .S ⟨0x000012#24, .read⟩ false
    ∧ switchedOff.ignitionFiltered.scanner.sum = none := by decide
theorem witness_filter_afterRun : (run (filtering .afterRun .off .high)).calm
    ∧ (filtering .afterRun .off .high).supply.stability = true ∧ (filtering .afterRun .off .high).supply.filtered = .off
    ∧ (filtering .afterRun .off .high).pins.ignition = .high ∧ (filtering .afterRun .off .high).supply.power = .afterRun
    ∧ (filtering .afterRun .off .high).map.scanGroup = 4 :: [] ∧ (filtering .afterRun .off .high).scanner.queue = []
    ∧ (filtering .afterRun .off .high).scanner.sum = none ∧ (filtering .afterRun .off .high).skips 4 = false
    ∧ (filtering .afterRun .off .high).map.ownedAt 4 0 = some 0 :=
  ⟨⟨rfl, settled_of _ (by decide), fun _ d h => nomatch (show (none : Option Nat) = some d from h)⟩, rfl, rfl, rfl, rfl, rfl,
    rfl, rfl, by decide, (show map0.ownedAt 4 0 = some 0 by rfl)⟩

/-- AFTER_RUN, the delay short of 500 ms, and a transaction or none in progress. -/
def afterRun (transaction : Option Transaction) : Chip :=
  { chip0 with
    supply := { chip0.supply with power := .afterRun, filtered := .off, dormancy := some 499 }
    link := { chip0.link with transaction := transaction } }

theorem witness_dormancy (transaction : Option Transaction) : (run (afterRun transaction)).calm
    ∧ (afterRun transaction).supply.power = .afterRun ∧ (afterRun transaction).supply.dormancy = some 499
    ∧ (afterRun transaction).workInFlight = false ∧ (afterRun transaction).bus.port = .idle
    ∧ (afterRun transaction).bus.memPort = .free ∧ (afterRun transaction).link.transaction = transaction :=
  ⟨⟨rfl, fun _ => ⟨rfl, rfl, rfl, rfl⟩, fun _ d h => by
      have : d = 499 := (Option.some.inj (show some 499 = some d from h)).symm
      subst this
      decide⟩, rfl, rfl, rfl, rfl, rfl, rfl⟩

/-- The settle time running after a wake by an arrival. -/
def settling : Chip :=
  { chip0 with
    bus := { chip0.bus with gate := ⟨false, true, false⟩ }
    monitor := { chip0.monitor with roadState := .moving }
    supply := { chip0.supply with power := .waking, filtered := .off, settling := true }
    link := { chip0.link with receiving := false, transaction := none } }

theorem witness_settle : (run settling).calm ∧ settling.supply.settling = true ∧ settling.supply.filtered = .off
    ∧ settling.bus.port = .idle ∧ settling.grant.state = .idle ∧ settling.scanner.sum = none :=
  ⟨calm_of _ (by decide) (by decide), by decide⟩
/-- The same with the level ON, a scan group, and a processor port. -/
def settlingOn (group : List Win) (p : Port) : Chip :=
  { settling with
    supply := { settling.supply with filtered := .on }
    map := { settling.map with scanGroup := group }
    bus := { settling.bus with port := p } }
theorem witness_settle_on (group : List Win) (p : Port) : (run (settlingOn group p)).calm
    ∧ (settlingOn group p).supply.settling = true ∧ (settlingOn group p).supply.filtered = .on
    ∧ (settlingOn group p).grant.state = .idle ∧ (settlingOn group p).scanner.sum = none
    ∧ (settlingOn group p).map.scanGroup = group ∧ (settlingOn group p).scanner.queue = []
    ∧ (settlingOn group p).bus.port = p
    ∧ ({ (settlingOn group p).bus.gate with waking := false } : Gate).isOpen = true :=
  ⟨calm_of _ (fun h => nomatch (show PowerState.waking = .afterRun from h)) ⟨rfl, rfl, rfl, rfl⟩,
    rfl, rfl, rfl, rfl, rfl, rfl, rfl, rfl⟩
theorem witness_settle_word (p : Port) : (settlingOn [4] p).map.ownedAt 4 0 = some 0 :=
  (show ({ map0 with scanGroup := [4] } : WindowMap).ownedAt 4 0 = some 0 by rfl)
/-- The ports of the witness: idle, and a GATED read. -/
theorem witness_startEnd_skips : (startingGated .on [4] .idle).skips 4 = false
    ∧ (startingGated .on [4] (.gated (captureCycle (read 0x040000#24)))).skips 4 = false
    ∧ (settlingOn [4] .idle).skips 4 = false
    ∧ (settlingOn [4] (.gated (captureCycle (read 0x040000#24)))).skips 4 = false := by decide

/-! ## Witnesses: the gateway link -/

/-- The link with a transaction and a reply code. -/
def linked (transaction : Option Transaction) (code : ResultCode) : Chip :=
  { chip0 with link := { chip0.link with transaction := transaction, reply := ⟨code, 2#8, []⟩ } }

theorem witness_link (transaction : Option Transaction) (code : ResultCode) : (run (linked transaction code)).calm
    ∧ (linked transaction code).link.transaction = transaction ∧ (linked transaction code).link.reply.code = code :=
  ⟨calm_of _ (fun h => nomatch (show PowerState.active = .afterRun from h)) ⟨rfl, rfl, rfl, rfl⟩, rfl, rfl⟩
theorem witness_requestFrame : requestFrame (.keep 2) = some ([0x03#8, 0x00#8, 0xFD#8], 2) ∧ Instr.keep 2 ≠ .nop 2 := by
  decide
theorem witness_badFrames : ([0x03#8, 0x29#8] : List Byte) = 0x03#8 :: 0x29#8 :: [] ∧ 40 < (0x29#8).toNat
    ∧ (([0x33#8, 0x00#8, 0xCD#8] : List Byte).map BitVec.toNat).sum % 256 = 0 ∧ 0x0B < (0x33#8).toNat
    ∧ (([0x05#8, 0x00#8, 0xFB#8] : List Byte).map BitVec.toNat).sum % 256 = 0
    ∧ requestLength 0x05#8 = some 1 := by decide

end Sys2Proof.Tests
end

section
/-! What the blocks behind the processor port may do to the Bus Path within a command, said once for every operation of
the model: present and give up requests of their own, complete a cycle that is held, or send one on to the memory port. -/

namespace Sys2Proof.Machine

/-! ## Inner moves of the Bus Path (R10, R11, R14) -/

/-- A hold that ends inside the part: PAGE LOADING or WINDOW OPENING. -/
def HoldReason.inner : HoldReason → Prop
  | .pageLoading => True
  | .windowOpening => True
  | .memoryPort => False

/-- From `m` to `m'` the transfer in flight is the same, or an internal requester has given it up (R14). -/
def MemPort.Disowns (m m' : MemPort) : Prop :=
  m' = m ∨ ∃ who t live, who ≠ .P ∧ m = .busy who t live ∧ m' = .busy who t false

/-- From `b` to `b'` the processor port and P's request are the same, or a held cycle has completed, or it has left its hold
towards the memory port (R10, R11). -/
def BusPath.LeavesHold (b b' : BusPath) : Prop :=
  (b'.port = b.port ∧ b'.requestP = b.requestP)
  ∨ ∃ y why, HoldReason.inner why ∧ b.port = .held y why
      ∧ ((∃ data, b'.port = .done y data) ∧ b'.requestP = b.requestP
        ∨ b'.port = .held y .memoryPort ∧ b'.requestP = some y.transfer)

/-- From `b` to `b'` the Bus Path has changed only as the blocks behind the processor port may change it: the counts and
the gate are as they were. -/
structure BusPath.Inner (b b' : BusPath) : Prop where
  memPort : b.memPort.Disowns b'.memPort
  cycle : b.LeavesHold b'
  gate : b'.gate = b.gate
  starvation : b'.starvation = b.starvation
  burst : b'.burst = b.burst

theorem BusPath.Inner.refl (b : BusPath) : b.Inner b := ⟨.inl rfl, .inl ⟨rfl, rfl⟩, rfl, rfl, rfl⟩

theorem MemPort.Disowns.trans {m m' m'' : MemPort} (h : m.Disowns m') (h' : m'.Disowns m'') : m.Disowns m'' := by
  rcases h with rfl | ⟨who, t, live, hw, hm, rfl⟩
  · exact h'
  · rcases h' with rfl | ⟨who', t', live', _, hm', rfl⟩
    · exact .inr ⟨who, t, live, hw, hm, rfl⟩
    · cases hm'
      exact .inr ⟨who, t, live, hw, hm, rfl⟩

theorem BusPath.LeavesHold.trans {b b' b'' : BusPath} (h : b.LeavesHold b') (h' : b'.LeavesHold b'') :
    b.LeavesHold b'' := by
  rcases h with ⟨hp, hr⟩ | ⟨y, why, hy, hp, hd⟩
  · unfold BusPath.LeavesHold at h' ⊢
    rwa [hp, hr] at h'
  · -- the cycle has left its hold, and its new port is no inner hold any more
    rcases h' with ⟨hp', hr'⟩ | ⟨z, why', hz, hp', _⟩
    · exact .inr ⟨y, why, hy, hp, by rwa [hp', hr']⟩
    · rcases hd with ⟨⟨data, hd⟩, _⟩ | ⟨hd, _⟩ <;> rw [hd] at hp' <;> cases hp'
      exact hz.elim

theorem BusPath.Inner.trans {b b' b'' : BusPath} (h : b.Inner b') (h' : b'.Inner b'') : b.Inner b'' :=
  ⟨h.memPort.trans h'.memPort, h.cycle.trans h'.cycle, h'.gate.trans h.gate, h'.starvation.trans h.starvation,
    h'.burst.trans h.burst⟩

/-! In what follows `b` is the Bus Path at the beginning of the operation, and each lemma says that an operation keeps
"the Bus Path has made inner moves only since `b`". -/

variable {b : BusPath} {c : Chip}

/-- An operation that leaves the Bus Path alone. -/
theorem BusPath.Inner.of_bus_eq {d : Chip} (h : b.Inner c.bus) (hd : d.bus = c.bus) : b.Inner d.bus := hd ▸ h

/-! ## Chapter 1: requests and held cycles -/

/-- An internal requester's request is its own affair (R14). -/
theorem Chip.present_inner (who : Requester) (t : Transfer) (hw : who ≠ .P) (h : b.Inner c.bus) :
    b.Inner (c.present who t).bus := by
  refine h.trans ?_
  cases who with
  | P => exact absurd rfl hw
  | R => exact ⟨.inl rfl, .inl ⟨rfl, rfl⟩, rfl, rfl, rfl⟩
  | L => exact ⟨.inl rfl, .inl ⟨rfl, rfl⟩, rfl, rfl, rfl⟩
  | S => exact ⟨.inl rfl, .inl ⟨rfl, rfl⟩, rfl, rfl, rfl⟩

theorem Chip.presentRead_inner (who : Requester) (a : Addr) (hw : who ≠ .P) (h : b.Inner c.bus) :
    b.Inner (c.presentRead who a).bus := c.present_inner who _ hw h

theorem Chip.presentWrite_inner (who : Requester) (a : Addr) (w : Word) (hw : who ≠ .P) (h : b.Inner c.bus) :
    b.Inner (c.presentWrite who a w).bus := c.present_inner who _ hw h

/-- Only the owner of the transfer in flight can give it up. -/
theorem MemPort.disowns_disown (m : MemPort) (who : Requester) (hw : who ≠ .P) : m.Disowns (m.disown who) := by
  cases m with
  | free => exact .inl rfl
  | parked => exact .inl rfl
  | busy w t live =>
    by_cases hwho : w = who
    · subst hwho
      exact .inr ⟨w, t, live, hw, rfl, by simp [MemPort.disown]⟩
    · exact .inl (by simp [MemPort.disown, hwho])

theorem Chip.giveUp_inner (who : Requester) (hw : who ≠ .P) (h : b.Inner c.bus) : b.Inner (c.giveUp who).bus := by
  refine h.trans ?_
  have hm := c.bus.memPort.disowns_disown who hw
  cases who with
  | P => exact absurd rfl hw
  | R => exact ⟨hm, .inl ⟨rfl, rfl⟩, rfl, rfl, rfl⟩
  | L => exact ⟨hm, .inl ⟨rfl, rfl⟩, rfl, rfl, rfl⟩
  | S => exact ⟨hm, .inl ⟨rfl, rfl⟩, rfl, rfl, rfl⟩

/-- A cycle in an inner hold completes. -/
theorem Chip.completeCycle_inner (y : CycleRecord) (why : HoldReason) (data : Word) (hy : why.inner)
    (hp : c.bus.port = .held y why) (h : b.Inner c.bus) : b.Inner (c.completeCycle y data).bus :=
  h.trans ⟨.inl rfl, .inr ⟨y, why, hy, hp, .inl ⟨⟨_, rfl⟩, rfl⟩⟩, rfl, rfl, rfl⟩

/-- A cycle in an inner hold asks for the memory port (R11). -/
theorem Chip.askPort_inner (y : CycleRecord) (why : HoldReason) (hy : why.inner) (hp : c.bus.port = .held y why)
    (h : b.Inner c.bus) : b.Inner (c.askPort y).bus :=
  h.trans ⟨.inl rfl, .inr ⟨y, why, hy, hp, .inr ⟨rfl, rfl⟩⟩, rfl, rfl, rfl⟩

/-- A write held for PAGE LOADING completes as a DROP (R10). -/
theorem Chip.dropHeld_inner (h : b.Inner c.bus) : b.Inner c.dropHeld.bus := by
  unfold Chip.dropHeld
  split
  · next y hp => exact Chip.completeCycle_inner y .pageLoading _ trivial hp h
  · exact h

/-! ## Chapter 6: the overlay -/

@[simp] theorem Chip.reportServed_bus (c : Chip) (owner : Owner) : (c.reportServed owner).bus = c.bus := by
  unfold Chip.reportServed
  split
  · split <;> rfl
  · rfl
  · rfl
  · rfl

@[simp] theorem Chip.storeOverlay_bus (c : Chip) (y : CycleRecord) (limit : Option LimitNo) (p : PageNo) (n : Nat) :
    (c.storeOverlay y limit p n).bus = c.bus := by
  unfold Chip.storeOverlay
  dsimp only
  split <;> rfl

@[simp] theorem Chip.take_bus (c : Chip) (p : PageNo) (n : Nat) : (c.take p n).bus = c.bus := rfl

@[simp] theorem Chip.loadOverlay_bus (c : Chip) (p : PageNo) (n : Nat) (data : Word) :
    (c.loadOverlay p n data).bus = c.bus := rfl

theorem Chip.serveOverlayWrite_bus (c : Chip) (y : CycleRecord) (limit : Option LimitNo) (r : Resolution) :
    (c.serveOverlayWrite y limit r).bus = (c.completeCycle y 0#16).bus := by
  unfold Chip.serveOverlayWrite
  split
  · rfl
  · simp [Chip.completeCycle]

/-- The write held on a page that opens is served (R113). -/
theorem Chip.serveHeld_inner (p : PageNo) (h : b.Inner c.bus) : b.Inner (c.serveHeld p).bus := by
  unfold Chip.serveHeld
  split
  · next y hp =>
    split
    · split
      · split
        · rw [Chip.serveOverlayWrite_bus]
          exact Chip.completeCycle_inner y .pageLoading _ trivial hp h
        all_goals exact h
      · exact h
    · exact h
  · exact h

theorem Chip.openPage_inner (p : PageNo) (h : b.Inner c.bus) : b.Inner (c.openPage p).bus := Chip.serveHeld_inner p h

theorem Chip.loadAlong_inner (ps : List PageNo) (n : Nat) (h : b.Inner c.bus) :
    b.Inner (Chip.loadAlong ps n c).bus := by
  induction ps generalizing n c with
  | nil => exact h
  | cons p rest ih =>
    unfold Chip.loadAlong
    split
    · exact Chip.presentRead_inner .L _ nofun h
    · exact ih 0 (Chip.openPage_inner p h)

/-- Pages set one after the other leave the Bus Path alone. -/
theorem Chip.foldl_setPage_bus (f : Chip → PageNo → Page) (ps : List PageNo) (c : Chip) :
    (ps.foldl (fun c p => c.setPage p (f c p)) c).bus = c.bus := by
  induction ps generalizing c with
  | nil => rfl
  | cons p ps ih => exact (ih _).trans rfl

theorem Chip.startLoads_inner (ps : List PageNo) (h : b.Inner c.bus) : b.Inner (c.startLoads ps).bus := by
  have h' := h.of_bus_eq (Chip.foldl_setPage_bus (fun c p => c.overlay.pages[p].enterLoading) ps c)
  unfold Chip.startLoads
  split
  · exact Chip.loadAlong_inner ps 0 h'
  · exact h'

theorem Chip.loaderRead_inner (data : Word) (h : b.Inner c.bus) : b.Inner (c.loaderRead data).bus := by
  unfold Chip.loaderRead
  split
  · exact h
  · exact Chip.loadAlong_inner _ _ h

/-- The close of the pages stops the loader (R114). -/
theorem Chip.closePages_inner (h : b.Inner c.bus) : b.Inner c.closePages.bus :=
  Chip.dropHeld_inner (Chip.giveUp_inner .L nofun h)

/-! ## Changes in order and together (R136) -/

/-- Changes made one after the other make inner moves only if each of them does. -/
theorem Chip.foldl_inner {α : Type} (f : Chip → α → Chip) (hf : ∀ (c : Chip) x, b.Inner c.bus → b.Inner (f c x).bus)
    (xs : List α) (h : b.Inner c.bus) : b.Inner (xs.foldl f c).bus := by
  induction xs generalizing c with
  | nil => exact h
  | cons x xs ih => exact ih (hf c x h)

/-- Changes made together make inner moves only if each of them does. -/
theorem Chip.together_inner (n : Nat) (fs gs : List (Chip → Chip))
    (hf : ∀ f ∈ fs ++ gs, ∀ c : Chip, b.Inner c.bus → b.Inner (f c).bus) (h : b.Inner c.bus) :
    b.Inner (Chip.together n fs gs c).bus :=
  Chip.together_keeps (fun c => b.Inner c.bus) (fun _ hc => hc) n fs gs hf c h

/-! ## Chapter 4: the Grant Controller -/

@[simp] theorem Chip.closeWindows_bus (c : Chip) (left : List Win) : (c.closeWindows left).bus = c.bus := by
  cases left with
  | nil => simp [Chip.closeWindows_nil]
  | cons w ws => rfl

theorem Chip.closeGrant_inner (h : b.Inner c.bus) : b.Inner c.closeGrant.bus :=
  (Chip.closePages_inner h).of_bus_eq (Chip.closeWindows_bus _ _)

theorem Chip.beginEnding_inner (reason : EndReason) (h : b.Inner c.bus) : b.Inner (c.beginEnding reason).bus := by
  unfold Chip.beginEnding
  dsimp only
  split
  · exact h
  · exact Chip.closeGrant_inner h

theorem Chip.endCause_inner (reason : EndReason) (h : b.Inner c.bus) : b.Inner (c.endCause reason).bus := by
  unfold Chip.endCause
  split
  · exact Chip.beginEnding_inner reason h
  · exact Chip.beginEnding_inner reason h
  · split <;> exact h
  · exact h
  · exact h

theorem Chip.tamperCause_inner (h : b.Inner c.bus) : b.Inner c.tamperCause.bus := by
  unfold Chip.tamperCause
  split
  · exact h
  · exact Chip.endCause_inner .tamper h

@[simp] theorem Chip.closingSum_bus (c : Chip) (w : Win) (sum : DWord) : (c.closingSum w sum).bus = c.bus := by
  unfold Chip.closingSum
  split
  · exact Chip.append_bus _ _ _
  · rfl

@[simp] theorem Chip.closingGoesOn_bus (c : Chip) : c.closingGoesOn.bus = c.bus := by
  unfold Chip.closingGoesOn
  split
  · exact Chip.closeWindows_bus _ _
  · rfl

@[simp] theorem Chip.askClosingSum_bus (c : Chip) : c.askClosingSum.bus = c.bus := by
  unfold Chip.askClosingSum
  split
  · split <;> rfl
  · rfl

theorem Chip.judgeMotion_inner (e : MotionEvent) (h : b.Inner c.bus) : b.Inner (c.judgeMotion e).bus := by
  unfold Chip.judgeMotion
  split
  · split
    · exact Chip.beginEnding_inner .motion h
    · split <;> exact h
  · split
    · exact Chip.beginEnding_inner .motion h
    · split <;> exact h
  all_goals exact h

theorem Chip.motionEvent_inner (e : MotionEvent) (h : b.Inner c.bus) : b.Inner (c.motionEvent e).bus :=
  Chip.judgeMotion_inner e h

theorem Chip.motionEvents_inner (es : List MotionEvent) (h : b.Inner c.bus) : b.Inner (c.motionEvents es).bus :=
  Chip.foldl_inner Chip.motionEvent (fun _ e hc => Chip.motionEvent_inner e hc) es h

theorem Chip.takeForce_inner (state : GrantState) (suspend : Option Nat) (h : b.Inner c.bus) :
    b.Inner (c.takeForce state suspend).bus := Chip.startLoads_inner _ h

theorem Chip.openingEnds_inner (seq : Nat) (h : b.Inner c.bus) : b.Inner (c.openingEnds seq).bus := by
  unfold Chip.openingEnds
  rw [Chip.completePending_bus]
  dsimp only
  split
  · exact Chip.beginEnding_inner _ h
  · split
    · exact Chip.beginEnding_inner .motion h
    · split <;> exact Chip.takeForce_inner _ _ h

theorem Chip.openingWritten_inner (seq : Nat) (h : b.Inner c.bus) : b.Inner (c.openingWritten seq).bus := by
  unfold Chip.openingWritten
  split
  · exact Chip.openingEnds_inner seq h
  · exact h

@[simp] theorem Chip.openingFailed_bus (c : Chip) : c.openingFailed.bus = c.bus := by
  unfold Chip.openingFailed
  split
  · simp
  · rfl

theorem Chip.applyExpiry_inner (h : b.Inner c.bus) : b.Inner c.applyExpiry.bus := by
  unfold Chip.applyExpiry
  split
  · exact Chip.beginEnding_inner _ h
  · exact h

theorem Chip.beginLockout_inner (h : b.Inner c.bus) : b.Inner c.beginLockout.bus :=
  Chip.endCause_inner .lockout (h.of_bus_eq (Chip.append_bus _ _ _))

theorem Chip.strike_inner (h : b.Inner c.bus) : b.Inner c.strike.bus := by
  unfold Chip.strike
  dsimp only
  split
  · exact Chip.beginLockout_inner h
  · exact h

@[simp] theorem Chip.applyDecay_bus (c : Chip) : c.applyDecay.bus = c.bus := by
  unfold Chip.applyDecay
  split
  · dsimp only
    split
    · exact Chip.append_bus _ _ _
    · rfl
  · rfl

theorem Chip.revokeGrant_inner (h : b.Inner c.bus) : b.Inner c.revokeGrant.1.bus := by
  unfold Chip.revokeGrant
  split
  · exact h
  · exact Chip.endCause_inner .revoked h

@[simp] theorem Chip.keepGrant_bus (c : Chip) : c.keepGrant.1.bus = c.bus := by
  unfold Chip.keepGrant
  split <;> rfl

/-! ## Chapter 5: hand-overs of a decision, and holds that end -/

theorem Chip.refuse_inner (y : CycleRecord) (reason : Reason) (r : Resolution) (h : b.Inner c.bus) :
    b.Inner (c.refuse y reason r).bus := by
  unfold Chip.refuse
  dsimp only
  split
  · refine Chip.strike_inner ?_
    split <;> exact h
  · split <;> exact h

@[simp] theorem Chip.openWindow_bus (c : Chip) (w : Win) : (c.openWindow w).bus = c.bus := Chip.append_bus _ _ _

theorem Chip.handOver_inner (y : CycleRecord) (d : Decision) (h : b.Inner c.bus) : b.Inner (c.handOver y d).bus := by
  unfold Chip.handOver
  dsimp only
  have h' : b.Inner (match d.refusal with
      | some reason => c.refuse y reason d.resolution
      | none => c).bus := by
    split
    · exact Chip.refuse_inner y _ _ h
    · exact h
  split
  · exact h'.of_bus_eq (Chip.openWindow_bus _ _)
  · exact h'

theorem Chip.releaseOpening_inner (w : Win) (written : Bool) (h : b.Inner c.bus) :
    b.Inner (c.releaseOpening w written).bus := by
  unfold Chip.releaseOpening
  split
  · next y hp =>
    split
    · split
      · exact Chip.askPort_inner y .windowOpening trivial hp h
      · exact Chip.completeCycle_inner y .windowOpening _ trivial hp h
    · exact h
  · exact h

theorem Chip.announced_inner (w : Win) (written : Bool) (h : b.Inner c.bus) : b.Inner (c.announced w written).bus := by
  unfold Chip.announced
  refine Chip.releaseOpening_inner w written ?_
  split <;> exact h

/-! ## Section 7.6: commits; DISCARD -/

@[simp] theorem Chip.setPages_bus (c : Chip) (ps : List PageNo) (state : PageState) :
    (c.setPages ps state).bus = c.bus :=
  Chip.foldl_setPage_bus (fun c p => { c.overlay.pages[p] with state := state }) ps c

@[simp] theorem Chip.claim_bus (c : Chip) (n : Nat) : (c.claim n).bus = c.bus := Chip.watchLow_bus _ _

@[simp] theorem Chip.takeCommit_bus (c : Chip) (pages : PageSet) : (c.takeCommit pages).1.bus = c.bus := by
  unfold Chip.takeCommit
  split
  · rfl
  · split
    · rfl
    · simp [Chip.acceptCommit]

@[simp] theorem Chip.commitNext_bus (c : Chip) : c.commitNext.bus = c.bus := by
  unfold Chip.commitNext
  split
  · rfl
  · split <;> exact Chip.appendClaimed_bus _ _

@[simp] theorem Chip.trimFinished_bus (c : Chip) (p : PageNo) (written : Bool) :
    (c.trimFinished p written).bus = c.bus := by
  unfold Chip.trimFinished
  split
  · rfl
  · dsimp only
    split
    · exact Chip.commitNext_bus _
    · rfl

@[simp] theorem Chip.commitSum_bus (c : Chip) (w : Win) (sum : DWord) : (c.commitSum w sum).bus = c.bus := by
  unfold Chip.commitSum
  split
  · exact Chip.appendClaimed_bus _ _
  · rfl

theorem Chip.leaveCommitting_inner (pages : PageSet) (h : b.Inner c.bus) : b.Inner (c.leaveCommitting pages).bus := by
  unfold Chip.leaveCommitting
  split
  · exact Chip.closeGrant_inner h
  · exact h.of_bus_eq (Chip.setPages_bus _ _ _)

theorem Chip.commitFinish_inner (h : b.Inner c.bus) : b.Inner c.commitFinish.bus := by
  unfold Chip.commitFinish
  split
  · exact h
  · exact Chip.leaveCommitting_inner _ h

theorem Chip.takeDiscard_inner (pages : PageSet) (h : b.Inner c.bus) : b.Inner (c.takeDiscard pages).1.bus := by
  unfold Chip.takeDiscard
  split
  · exact h
  · exact Chip.startLoads_inner _ h

/-! ## Chapter 8: the Integrity Scanner -/

theorem Chip.startSum_inner (w : Win) (word : Nat) (purpose : SumPurpose) (h : b.Inner c.bus) :
    b.Inner (c.startSum w word purpose).bus := Chip.presentRead_inner .S _ nofun h

theorem Chip.tamperFound_inner (w : Win) (found : DWord) (h : b.Inner c.bus) : b.Inner (c.tamperFound w found).1.bus := by
  unfold Chip.tamperFound
  dsimp only
  split
  · rw [Chip.requestAppend_bus]
    exact Chip.tamperCause_inner h
  · exact Chip.tamperCause_inner (h.of_bus_eq (Chip.requestAppend_bus _ _))

@[simp] theorem Chip.adopt_bus (c : Chip) (w : Win) (found : DWord) : (c.adopt w found).bus = c.bus :=
  Chip.requestAppend_bus _ _

theorem Chip.judgeDiffers_inner (w : Win) (result : ScanResult) (found : DWord) (h : b.Inner c.bus) :
    b.Inner (c.judgeDiffers w result found).1.bus := by
  unfold Chip.judgeDiffers
  dsimp only
  split
  · exact h
  · exact Chip.tamperFound_inner w found h

theorem Chip.judge_inner (w : Win) (found : DWord) (h : b.Inner c.bus) : b.Inner (c.judge w found).1.bus := by
  unfold Chip.judge
  split
  · exact h
  · split
    · exact h.of_bus_eq (Chip.adopt_bus _ _ _)
    · split
      · exact Chip.judgeDiffers_inner w _ found h
      · split
        · exact h
        · exact Chip.judgeDiffers_inner w _ found h

theorem Chip.passOn_inner (left : List Win) (h : b.Inner c.bus) : b.Inner (Chip.passOn left c).bus := by
  induction left generalizing c with
  | nil => exact h
  | cons w ws ih =>
    unfold Chip.passOn
    split
    · exact h
    · split
      · exact ih h
      · split
        · exact Chip.startSum_inner w _ .pass h
        · have hj := Chip.judge_inner w emptySum h
          split
          · next hd => rw [hd] at hj; exact ih hj
          · next hd => rw [hd] at hj; exact hj

theorem Chip.startPass_inner (h : b.Inner c.bus) : b.Inner c.startPass.bus := Chip.passOn_inner _ h

theorem Chip.passSum_inner (w : Win) (found : DWord) (h : b.Inner c.bus) : b.Inner (c.passSum w found).bus := by
  unfold Chip.passSum
  split
  · exact h
  · have hj := Chip.judge_inner w found h
    split
    · next hd => rw [hd] at hj; exact Chip.passOn_inner _ hj
    · next hd => rw [hd] at hj; exact hj

theorem Chip.passWaited_inner (phase : PassPhase) (h : b.Inner c.bus) : b.Inner (c.passWaited phase).bus := by
  unfold Chip.passWaited
  split
  · exact h
  · split
    · exact Chip.passOn_inner _ h
    · exact h

theorem Chip.resumePass_inner (h : b.Inner c.bus) : b.Inner c.resumePass.bus := by
  unfold Chip.resumePass
  split
  · exact h
  · exact Chip.passWaited_inner .between h

theorem Chip.dropPassSum_inner (h : b.Inner c.bus) : b.Inner c.dropPassSum.bus := by
  unfold Chip.dropPassSum
  split
  · exact Chip.giveUp_inner .S nofun h
  · exact h

theorem Chip.restartPass_inner (run : PassRun) (h : b.Inner c.bus) : b.Inner (c.restartPass run).bus := by
  unfold Chip.restartPass
  split
  · exact h
  · exact Chip.startPass_inner h
  · exact Chip.startPass_inner h
  · exact Chip.startPass_inner (Chip.dropPassSum_inner h)

theorem Chip.rescan_inner (h : b.Inner c.bus) : b.Inner c.rescan.1.bus := by
  unfold Chip.rescan
  split
  · split
    · exact Chip.startPass_inner h
    · exact Chip.restartPass_inner _ h
  · exact h

theorem Chip.abandonPass_inner (h : b.Inner c.bus) : b.Inner c.abandonPass.bus := Chip.dropPassSum_inner h

theorem Chip.periodicExpiry_inner (h : b.Inner c.bus) : b.Inner c.periodicExpiry.bus := by
  unfold Chip.periodicExpiry
  split
  · split
    · exact Chip.startPass_inner h
    · exact h
  · exact h

@[simp] theorem Chip.rebaseNext_bus (c : Chip) (left : List Win) : (c.rebaseNext left).bus = c.bus := by
  cases left <;> rfl

@[simp] theorem Chip.takeRebase_bus (c : Chip) : c.takeRebase.1.bus = c.bus := by
  unfold Chip.takeRebase
  split
  · rfl
  · exact Chip.rebaseNext_bus _ _

@[simp] theorem Chip.rebaseFinished_bus (c : Chip) : c.rebaseFinished.bus = c.bus := by
  unfold Chip.rebaseFinished
  split
  · exact Chip.rebaseNext_bus _ _
  · rfl

/-! ## Chapter 3: the Standstill Monitor -/

theorem Chip.engineUpdate_inner (v : Nat) (h : b.Inner c.bus) : b.Inner (c.engineUpdate v).bus := by
  unfold Chip.engineUpdate
  dsimp only
  split
  · exact h
  · exact Chip.motionEvent_inner _ h

theorem Chip.roadUpdate_inner (v : Nat) (h : b.Inner c.bus) : b.Inner (c.roadUpdate v).bus :=
  Chip.foldl_inner Chip.enterRoad (fun _ s hc => Chip.motionEvent_inner (.road s) hc) _ h

theorem Chip.channelTick_inner (channel : Channel) (sample : PinLevel) (h : b.Inner c.bus) :
    b.Inner (c.channelTick channel sample).bus := by
  cases channel with
  | engine =>
    simp only [Chip.channelTick]
    split
    · exact Chip.foldl_inner Chip.engineUpdate (fun _ v hc => Chip.engineUpdate_inner v hc) _ h
    · exact h
  | road =>
    simp only [Chip.channelTick]
    split
    · exact Chip.foldl_inner Chip.roadUpdate (fun _ v hc => Chip.roadUpdate_inner v hc) _ h
    · exact h

theorem Chip.silence_inner (channel : Channel) (h : b.Inner c.bus) : b.Inner (c.silence channel).bus := by
  cases channel with
  | engine =>
    simp only [Chip.silence]
    split
    · exact Chip.engineUpdate_inner 0 h
    · exact h
  | road =>
    simp only [Chip.silence]
    split
    · exact Chip.roadUpdate_inner 0 h
    · exact h

theorem Chip.enterPark_inner (s : ParkState) (h : b.Inner c.bus) : b.Inner (c.enterPark s).bus := by
  unfold Chip.enterPark
  split
  · exact h
  · exact Chip.motionEvent_inner _ h

@[simp] theorem Chip.parkInput_bus (c : Chip) (level : PinLevel) : (c.parkInput level).bus = c.bus := by
  unfold Chip.parkInput
  dsimp only
  split <;> rfl

theorem Chip.parkDebounced_inner (h : b.Inner c.bus) : b.Inner c.parkDebounced.bus := by
  unfold Chip.parkDebounced
  split
  · exact Chip.enterPark_inner _ h
  · exact h

theorem Chip.startMonitor_inner (h : b.Inner c.bus) : b.Inner c.startMonitor.bus := Chip.motionEvents_inner _ h

end Sys2Proof.Machine
end

section
/-! Inner moves of the Bus Path, continued: the start-up order, the Record Engine, the sums, and the power states. -/

namespace Sys2Proof.Machine

variable {b : BusPath} {c : Chip}

/-! ## The load of the map, the parameters and the limit table -/

@[simp] theorem Chip.addFault_bus (c : Chip) (f : LoadItem × FaultKind) : (c.addFault f).bus = c.bus := by
  unfold Chip.addFault
  dsimp only
  split <;> rfl

@[simp] theorem Chip.addFaults_bus (c : Chip) (fs : List (LoadItem × FaultKind)) : (c.addFaults fs).bus = c.bus := by
  unfold Chip.addFaults
  induction fs generalizing c with
  | nil => rfl
  | cons f fs ih => exact (ih _).trans (Chip.addFault_bus c f)

@[simp] theorem Chip.loadAnchors_bus (c : Chip) (f : FuseBlock) : (c.loadAnchors f).bus = c.bus :=
  Chip.addFaults_bus _ _

@[simp] theorem Chip.completeMap_bus (c : Chip) (ds : Vector Descriptor 24) : (c.completeMap ds).bus = c.bus :=
  Chip.addFaults_bus _ _

@[simp] theorem Chip.loadMap_bus (c : Chip) (img : List Word) : (c.loadMap img).bus = c.bus := by
  unfold Chip.loadMap
  dsimp only
  split
  · exact (Chip.completeMap_bus _ _).trans (Chip.addFaults_bus _ _)
  · exact Chip.completeMap_bus _ _

@[simp] theorem Chip.settleParams_bus (c : Chip) (img : List Word) : (c.settleParams img).bus = c.bus := by
  unfold Chip.settleParams
  split
  · exact Chip.addFault_bus _ _
  · exact Chip.addFaults_bus _ _

@[simp] theorem Chip.loadLimits_bus (c : Chip) (img : List Word) : (c.loadLimits img).bus = c.bus := by
  unfold Chip.loadLimits
  split
  · exact (Chip.addFaults_bus _ _).trans (Chip.addFaults_bus _ _)
  · rfl

@[simp] theorem Chip.takeSettleChoice_bus (c : Chip) (choice : Byte) : (c.takeSettleChoice choice).bus = c.bus := by
  unfold Chip.takeSettleChoice
  split
  · rfl
  · exact Chip.addFault_bus _ _

/-! ## The start-up order (R153–R157, R178, R179) -/

theorem Chip.fuseRead_inner (f : FuseBlock) (h : b.Inner c.bus) : b.Inner (c.fuseRead f).bus :=
  Chip.presentRead_inner .R _ nofun
    (h.of_bus_eq ((Chip.takeSettleChoice_bus _ _).trans (Chip.loadAnchors_bus c f)))

@[simp] theorem Chip.surveyEnd_bus (c : Chip) : c.surveyEnd.bus = c.bus := by
  unfold Chip.surveyEnd
  dsimp only
  split <;> rfl

theorem Chip.surveyEntries_inner (left : List (Addr × Word)) (h : b.Inner c.bus) :
    b.Inner (c.surveyEntries left).bus := by
  unfold Chip.surveyEntries
  split
  · exact h.of_bus_eq (Chip.surveyEnd_bus c)
  · exact Chip.presentWrite_inner .R _ _ nofun h

theorem Chip.surveyDrain_inner (h : b.Inner c.bus) : b.Inner c.surveyDrain.bus := by
  unfold Chip.surveyDrain
  split
  · exact Chip.surveyEntries_inner _ h
  · exact h

@[simp] theorem Chip.surveyAppend_bus (c : Chip) (kind : AppendKind) : (c.surveyAppend kind).bus = c.bus :=
  Chip.append_bus _ _ _

theorem Chip.rollbackSums_inner (left : List Win) (h : b.Inner c.bus) : b.Inner (c.rollbackSums left).bus := by
  unfold Chip.rollbackSums
  split
  · exact Chip.surveyDrain_inner (h.of_bus_eq (Chip.surveyAppend_bus _ _))
  · exact h

theorem Chip.rollbackCompare_inner (left : List SlotRecord) (h : b.Inner c.bus) :
    b.Inner (c.rollbackCompare left).bus := by
  unfold Chip.rollbackCompare
  split
  · exact Chip.rollbackSums_inner _ h
  · exact Chip.presentRead_inner .R _ nofun h

@[simp] theorem Chip.rollbackTamper_bus (c : Chip) (w : Win) : (c.rollbackTamper w).bus = c.bus := by
  unfold Chip.rollbackTamper
  split <;> rfl

theorem Chip.rollbackWord_inner (r : SlotRecord) (rest : List SlotRecord) (data : Word) (h : b.Inner c.bus) :
    b.Inner (c.rollbackWord r rest data).bus := by
  unfold Chip.rollbackWord
  split
  · exact Chip.rollbackCompare_inner _ h
  · split
    · exact Chip.presentWrite_inner .R _ _ nofun h
    · split
      · exact Chip.rollbackCompare_inner _ h
      · exact Chip.rollbackCompare_inner _ (h.of_bus_eq (Chip.rollbackTamper_bus c _))

theorem Chip.surveySum_inner (w : Win) (sum : DWord) (h : b.Inner c.bus) : b.Inner (c.surveySum w sum).bus := by
  unfold Chip.surveySum
  split
  · refine Chip.rollbackSums_inner _ (BusPath.Inner.of_bus_eq ?_ (Chip.surveyAppend_bus _ _))
    split
    · exact h.of_bus_eq (Chip.surveyAppend_bus _ _)
    · exact h
  · exact h

theorem Chip.surveyRollbackStart_inner (h : b.Inner c.bus) : b.Inner c.surveyRollbackStart.bus := by
  unfold Chip.surveyRollbackStart
  split
  · exact Chip.surveyDrain_inner h
  · exact Chip.rollbackCompare_inner _ h

theorem Chip.surveyCloseGrant_inner (h : b.Inner c.bus) : b.Inner c.surveyCloseGrant.bus := by
  unfold Chip.surveyCloseGrant
  split
  · exact Chip.surveyRollbackStart_inner h
  · exact h.of_bus_eq (Chip.surveyAppend_bus _ _)

theorem Chip.surveyFinished_inner (h : b.Inner c.bus) : b.Inner c.surveyFinished.bus := by
  unfold Chip.surveyFinished
  dsimp only
  split
  · exact Chip.surveyRollbackStart_inner h
  · exact Chip.surveyDrain_inner h
  · exact h

theorem Chip.surveyWord_inner (slot : Nat) (got : List Word) (data : Word) (h : b.Inner c.bus) :
    b.Inner (c.surveyWord slot got data).bus := by
  unfold Chip.surveyWord
  dsimp only
  split
  · exact Chip.presentRead_inner .R _ nofun h
  · split
    · refine Chip.presentRead_inner .R _ nofun ?_
      split <;> exact h
    · refine Chip.surveyCloseGrant_inner ?_
      split <;> exact h

theorem Chip.imageComplete_inner (words : List Word) (h : b.Inner c.bus) : b.Inner (c.imageComplete words).bus := by
  have started := Chip.startMonitor_inner (h.of_bus_eq (d :=
    ((c.settleParams (words.take checkedWords)).loadMap (words.take checkedWords)).loadLimits
      (words.take checkedWords)) (by simp))
  unfold Chip.imageComplete
  dsimp only
  generalize Chip.startMonitor _ = d at started ⊢
  exact Chip.presentRead_inner .R _ nofun started

theorem Chip.imageWord_inner (got : List Word) (data : Word) (h : b.Inner c.bus) :
    b.Inner (c.imageWord got data).bus := by
  unfold Chip.imageWord
  dsimp only
  split
  · exact Chip.presentRead_inner .R _ nofun h
  · exact Chip.imageComplete_inner _ h

theorem Chip.startUpDone_inner (data : Word) (h : b.Inner c.bus) : b.Inner (c.startUpDone data).bus := by
  unfold Chip.startUpDone
  split
  · exact Chip.imageWord_inner _ data h
  · exact Chip.surveyWord_inner _ _ data h
  · exact Chip.surveyEntries_inner _ h
  · exact Chip.rollbackWord_inner _ _ data h
  · exact Chip.rollbackCompare_inner _ h
  all_goals exact h

/-! ## Chapter 7: appends and ARCHIVED -/

@[simp] theorem Chip.takeArchived_bus (c : Chip) (n : Nat) : (c.takeArchived n).bus = c.bus := Chip.watchLow_bus _ _

@[simp] theorem Chip.requestArchived_bus (c : Chip) (n : Nat) : (c.requestArchived n).1.bus = c.bus := by
  unfold Chip.requestArchived
  split
  · rfl
  · split
    · exact Chip.takeArchived_bus c n
    · rfl

theorem Chip.waiterJoined_inner (r : AppendRequest) (h : b.Inner c.bus) : b.Inner (c.waiterJoined r).bus := by
  unfold Chip.waiterJoined
  split
  · exact Chip.passWaited_inner _ h
  all_goals exact h

theorem Chip.joinWaiter_inner (h : b.Inner c.bus) : b.Inner c.joinWaiter.bus := by
  unfold Chip.joinWaiter
  split
  · exact h
  · exact Chip.waiterJoined_inner _ h
  · exact h.of_bus_eq (by simp)

theorem Chip.adoptionEnds_inner (r : AppendRequest) (cause : SumCause) (h : b.Inner c.bus) :
    b.Inner (c.adoptionEnds r cause).bus := by
  unfold Chip.adoptionEnds
  split
  · exact Chip.passWaited_inner _ h
  · exact h

theorem Chip.tellWritten_inner (r : AppendRequest) (seq : Nat) (h : b.Inner c.bus) :
    b.Inner (c.tellWritten r seq).bus := by
  unfold Chip.tellWritten
  split
  · exact Chip.openingWritten_inner seq h
  · split <;> exact h
  · exact Chip.announced_inner _ true h
  · exact Chip.adoptionEnds_inner r _ h
  · exact h
  · split
    · exact Chip.commitFinish_inner h
    · exact h
  all_goals exact h

theorem Chip.tellNotWritten_inner (r : AppendRequest) (h : b.Inner c.bus) : b.Inner (c.tellNotWritten r).bus := by
  unfold Chip.tellNotWritten
  split
  · exact h.of_bus_eq (Chip.openingFailed_bus c)
  · split <;> exact h
  · exact Chip.announced_inner _ false h
  · refine Chip.adoptionEnds_inner r _ ?_
    split <;> exact h
  · split
    · exact Chip.commitFinish_inner h
    · exact h
  all_goals exact h

theorem Chip.requestFinished_inner (r : AppendRequest) (written : Bool) (h : b.Inner c.bus) :
    b.Inner (c.requestFinished r written).bus := by
  unfold Chip.requestFinished
  split
  · split
    · exact h.of_bus_eq (Chip.commitNext_bus c)
    · exact h.of_bus_eq (Chip.trimFinished_bus c _ written)
    · exact h.of_bus_eq (Chip.commitNext_bus c)
    all_goals exact h
  · split
    · split
      · exact h.of_bus_eq (Chip.rebaseFinished_bus c)
      · exact h
    all_goals exact h
  · exact Chip.surveyFinished_inner h
  all_goals exact h

@[simp] theorem Chip.unclaim_bus (c : Chip) (r : AppendRequest) : (c.unclaim r).bus = c.bus := by
  unfold Chip.unclaim
  split <;> rfl

theorem Chip.notWrittenTold_inner (r : AppendRequest) (h : b.Inner c.bus) : b.Inner (c.notWrittenTold r).bus := by
  unfold Chip.notWrittenTold
  split
  · exact Chip.tellNotWritten_inner r h
  · split
    · refine Chip.together_inner 1 _ _ (fun f hf d hd => ?_) h
      rcases List.mem_pair.mp hf with rfl | rfl
      · exact Chip.tellNotWritten_inner r hd
      · exact Chip.endCause_inner .recordsFull hd
    · exact Chip.endCause_inner .recordsFull (Chip.tellNotWritten_inner r h)

theorem Chip.appendNotWritten_inner (r : AppendRequest) (h : b.Inner c.bus) : b.Inner (c.appendNotWritten r).bus :=
  Chip.requestFinished_inner r false (Chip.notWrittenTold_inner r (h.of_bus_eq (Chip.unclaim_bus c r)))

theorem Chip.presentFirst_inner (ws : List (Addr × Word)) (h : b.Inner c.bus) : b.Inner (c.presentFirst ws).bus := by
  unfold Chip.presentFirst
  split
  · exact h
  · exact Chip.presentWrite_inner .R _ _ nofun h

theorem Chip.startRecord_inner (r : AppendRequest) (taken : Option Taken) (e : EngineFields) (h : b.Inner c.bus) :
    b.Inner (c.startRecord r taken e).bus := Chip.presentFirst_inner _ h

theorem Chip.startTrim_inner (r : AppendRequest) (p : PageNo) (n : Nat) (h : b.Inner c.bus) :
    b.Inner (c.startTrim r p n).bus := Chip.presentRead_inner .R _ nofun h

theorem Chip.startAppend_inner (r : AppendRequest) (h : b.Inner c.bus) : b.Inner (c.startAppend r).bus := by
  unfold Chip.startAppend
  split
  · exact Chip.startTrim_inner r _ _ h
  all_goals exact Chip.startRecord_inner r none _ h

theorem Chip.beginAppend_inner (h : b.Inner c.bus) : b.Inner c.beginAppend.bus := by
  unfold Chip.beginAppend
  split
  · split
    · exact h
    · dsimp only
      split
      · exact Chip.startAppend_inner _ (Chip.joinWaiter_inner h)
      · exact Chip.appendNotWritten_inner _ (Chip.joinWaiter_inner h)
  · exact h

theorem Chip.finishRequest_inner (p : Progress) (h : b.Inner c.bus) : b.Inner (c.finishRequest p).bus :=
  Chip.requestFinished_inner p.request true h

theorem Chip.appendComplete_inner (p : Progress) (h : b.Inner c.bus) : b.Inner (c.appendComplete p).bus := by
  have told := Chip.tellWritten_inner p.request c.engine.head (h.of_bus_eq (d := ({ c with
    engine.head := c.engine.head + 1 }.unclaim p.request).watchLow c.freeSlots) (by simp))
  unfold Chip.appendComplete
  dsimp only
  split
  · exact Chip.finishRequest_inner p told
  · exact Chip.presentFirst_inner _ told

theorem Chip.progressDone_inner (p : Progress) (data : Word) (h : b.Inner c.bus) :
    b.Inner (c.progressDone p data).bus := by
  unfold Chip.progressDone
  split
  · exact Chip.startRecord_inner _ _ _ h
  · exact Chip.presentFirst_inner _ h
  · exact Chip.appendComplete_inner p h
  · exact Chip.presentFirst_inner _ h
  · exact Chip.finishRequest_inner p h

theorem Chip.engineDone_inner (data : Word) (h : b.Inner c.bus) : b.Inner (c.engineDone data).bus := by
  unfold Chip.engineDone
  split
  · exact Chip.progressDone_inner _ data h
  · exact Chip.startUpDone_inner data h

/-! ## Sums (R160, R170) -/

@[simp] theorem Chip.rebaseSum_bus (c : Chip) (w : Win) (sum : DWord) : (c.rebaseSum w sum).bus = c.bus := by
  unfold Chip.rebaseSum
  split
  · exact Chip.append_bus _ _ _
  · rfl

/-- Each change that the delivery of a sum brings about. -/
theorem SumClient.takes_inner (w : Win) (sum : DWord) (client : SumClient) (f : Chip → Chip)
    (hf : f ∈ client.takes w sum) (h : b.Inner c.bus) : b.Inner (f c).bus := by
  cases client with
  | commit =>
    rw [List.mem_singleton.mp hf]
    exact h.of_bus_eq (Chip.commitSum_bus c w sum)
  | closing =>
    rcases List.mem_pair.mp hf with rfl | rfl
    · exact h.of_bus_eq (Chip.closingSum_bus c w sum)
    · exact h.of_bus_eq (Chip.closingGoesOn_bus c)
  | survey =>
    rw [List.mem_singleton.mp hf]
    exact Chip.surveySum_inner w sum h
  | rebase =>
    rw [List.mem_singleton.mp hf]
    exact h.of_bus_eq (Chip.rebaseSum_bus c w sum)

theorem Chip.deliver_inner (w : Win) (sum : DWord) (clients : List SumClient) (h : b.Inner c.bus) :
    b.Inner (c.deliver w sum clients).bus := by
  cases clients with
  | nil => exact h
  | cons first others =>
    refine Chip.together_inner _ _ _ (fun f hf d hd => ?_) h
    rcases List.mem_append.mp hf with hf | hf
    · exact SumClient.takes_inner w sum first f hf hd
    · obtain ⟨client, _, hf⟩ := List.mem_flatMap.mp hf
      exact SumClient.takes_inner w sum client f hf hd

theorem Chip.sumComplete_inner (r : SumRun) (h : b.Inner c.bus) : b.Inner (c.sumComplete r).bus := by
  unfold Chip.sumComplete
  dsimp only
  split
  · exact Chip.passSum_inner _ _ h
  · exact Chip.deliver_inner _ _ _ h

theorem Chip.sumRead_inner (data : Word) (h : b.Inner c.bus) : b.Inner (c.sumRead data).bus := by
  unfold Chip.sumRead
  split
  · exact h
  · dsimp only
    split
    · exact Chip.presentRead_inner .S _ nofun h
    · exact Chip.sumComplete_inner _ h

theorem Chip.serveSum_inner (h : b.Inner c.bus) : b.Inner c.serveSum.bus := by
  unfold Chip.serveSum
  split
  · exact h
  · split
    · exact h
    · dsimp only
      split
      · exact Chip.startSum_inner _ _ _ h
      · exact Chip.deliver_inner _ _ _ h

/-! ## Chapter 9: power states and second ticks -/

theorem Chip.enterActive_inner (h : b.Inner c.bus) : b.Inner c.enterActive.bus := Chip.startPass_inner h

theorem Chip.enterAfterRun_inner (h : b.Inner c.bus) : b.Inner c.enterAfterRun.bus :=
  Chip.abandonPass_inner (Chip.endCause_inner .ignition h)

theorem Chip.enterRunning_inner (h : b.Inner c.bus) : b.Inner c.enterRunning.bus := by
  unfold Chip.enterRunning
  split
  · exact Chip.enterActive_inner h
  · exact Chip.enterAfterRun_inner h
  · exact Chip.enterAfterRun_inner h

@[simp] theorem Chip.ignitionInput_bus (c : Chip) (level : PinLevel) : (c.ignitionInput level).bus = c.bus := by
  unfold Chip.ignitionInput
  dsimp only
  split <;> rfl

@[simp] theorem Chip.delayExpired_bus (c : Chip) : c.delayExpired.bus = c.bus := by
  unfold Chip.delayExpired
  split <;> rfl

theorem Chip.grantTick_inner (h : b.Inner c.bus) : b.Inner c.grantTick.bus :=
  (Chip.applyExpiry_inner h).of_bus_eq (Chip.applyDecay_bus _)

theorem Chip.secondTick_inner (h : b.Inner c.bus) : b.Inner c.secondTick.bus := by
  unfold Chip.secondTick
  split
  · exact h
  · dsimp only
    split
    · refine Chip.together_inner 1 _ _ (fun f hf d hd => ?_) h
      rcases List.mem_pair.mp hf with rfl | rfl
      · exact Chip.grantTick_inner hd
      · exact Chip.periodicExpiry_inner hd
    · exact Chip.periodicExpiry_inner (Chip.grantTick_inner h)

/-! ## Chapter 10: requests of the gateway link (R193, R194) -/

theorem Chip.ownGrant_inner (f : GrantFields) (h : b.Inner c.bus) : b.Inner (c.ownGrant f).bus := by
  unfold Chip.ownGrant
  split
  · exact h
  · exact h.of_bus_eq (Chip.append_bus _ _ _)

theorem Chip.ownKeep_inner (h : b.Inner c.bus) : b.Inner c.ownKeep.bus := h.of_bus_eq (Chip.keepGrant_bus c)

theorem Chip.ownRevoke_inner (h : b.Inner c.bus) : b.Inner c.ownRevoke.bus := Chip.revokeGrant_inner h

theorem Chip.ownCommit_inner (pages : PageSet) (h : b.Inner c.bus) : b.Inner (c.ownCommit pages).bus :=
  h.of_bus_eq (Chip.takeCommit_bus c pages)

theorem Chip.ownDiscard_inner (pages : PageSet) (h : b.Inner c.bus) : b.Inner (c.ownDiscard pages).bus :=
  Chip.takeDiscard_inner pages h

theorem Chip.ownRescan_inner (h : b.Inner c.bus) : b.Inner c.ownRescan.bus := Chip.rescan_inner h

theorem Chip.ownRebase_inner (h : b.Inner c.bus) : b.Inner c.ownRebase.bus := h.of_bus_eq (Chip.takeRebase_bus c)

theorem Chip.ownRefusals_inner (h : b.Inner c.bus) : b.Inner c.ownRefusals.bus := h

theorem Chip.ownArchived_inner (upTo : DWord) (h : b.Inner c.bus) : b.Inner (c.ownArchived upTo).bus :=
  h.of_bus_eq (Chip.requestArchived_bus c _)

theorem Chip.ownStatus_inner (h : b.Inner c.bus) : b.Inner c.ownStatus.bus := h

theorem Chip.ownDescribe_inner (kind index : Byte) (h : b.Inner c.bus) : b.Inner (c.ownDescribe kind index).bus := by
  unfold Chip.ownDescribe
  split <;> exact h

theorem Chip.forward_inner (code : Byte) (payload : List Byte) (h : b.Inner c.bus) :
    b.Inner (c.forward code payload).bus := by
  unfold Chip.forward
  split
  · exact Chip.ownStatus_inner h
  · exact Chip.ownGrant_inner _ h
  · exact Chip.ownKeep_inner h
  · exact Chip.ownRevoke_inner h
  · exact Chip.ownCommit_inner _ h
  · exact Chip.ownDiscard_inner _ h
  · exact Chip.ownRescan_inner h
  · exact Chip.ownRebase_inner h
  · exact Chip.ownRefusals_inner h
  · exact Chip.ownArchived_inner _ h
  · exact Chip.ownDescribe_inner _ _ h
  · exact h

/-- A request makes inner moves only if its owner does. -/
theorem Chip.request_inner (length filler : Nat) (owner : Chip → Chip)
    (ho : ∀ d : Chip, b.Inner d.bus → b.Inner (owner d).bus) (h : b.Inner c.bus) :
    b.Inner (c.request length filler owner).bus := by
  unfold Chip.request Chip.takeRequest
  dsimp only
  split
  · split
    · exact h
    · exact ho _ h
  · exact h

theorem Chip.takeFrame_inner (bytes : List Byte) (h : b.Inner c.bus) : b.Inner (c.takeFrame bytes).bus := by
  unfold Chip.takeFrame
  split
  · exact h
  · split <;> exact h
  · split
    · exact h
    · split
      · exact h
      · split
        · exact h
        · split
          · exact Chip.forward_inner _ _ h
          · exact h

theorem Chip.requestBytes_inner (bytes : List Byte) (h : b.Inner c.bus) : b.Inner (c.requestBytes bytes).bus := by
  unfold Chip.requestBytes
  dsimp only
  split
  · exact Chip.takeFrame_inner bytes h
  · exact h

@[simp] theorem Chip.transactionEnd_bus (c : Chip) (clocked : Nat) : (c.transactionEnd clocked).bus = c.bus := by
  unfold Chip.transactionEnd
  split <;> rfl

end Sys2Proof.Machine
end

section
/-! The commands as a table of operations, said once: what every command answers, and the statements about every command
and every step. -/

namespace Sys2Proof

open Machine

/-! ## Every command's operation -/

/-- The operation by which a supplied part takes a command; none for the memory's ready and for the supply's commands. -/
def Instr.operation : Instr → Option (Chip → Chip)
  | .powerOnReset => none
  | .startEnd => some Chip.endStart
  | .processorCycleArrival cycle => some (Chip.cycleArrives cycle)
  | .strobeRelease => some Chip.strobeReleased
  | .cycleWithdrawn cause => some (Chip.cycleWithdrawn cause)
  | .chipSelectRelease => some Chip.chipSelectReleased
  | .memoryTransferComplete _ => none
  | .resetNAssert => some Chip.resetAsserted
  | .resetNRelease => some Chip.resetReleased
  | .channelTick channel sample => some (Chip.channelTick channel sample)
  | .silence channel => some (Chip.silence channel)
  | .parkInputChange level => some (Chip.parkInput level)
  | .parkDebounceComplete => some Chip.parkDebounced
  | .grant fields filler => some (Chip.request 16 filler (Chip.ownGrant fields))
  | .secondTick => some Chip.secondTick
  | .grantTimerExpiry => some Chip.applyExpiry
  | .keep filler => some (Chip.request 0 filler Chip.ownKeep)
  | .revoke filler => some (Chip.request 0 filler Chip.ownRevoke)
  | .closingSumRequest => some Chip.askClosingSum
  | .strikeDecay => some Chip.applyDecay
  | .refusals filler => some (Chip.request 0 filler Chip.ownRefusals)
  | .discard pages filler => some (Chip.request 1 filler (Chip.ownDiscard pages))
  | .appendBegin => some Chip.beginAppend
  | .commit pages filler => some (Chip.request 1 filler (Chip.ownCommit pages))
  | .archived upTo filler => some (Chip.request 4 filler (Chip.ownArchived upTo))
  | .periodicScanExpiry => some Chip.periodicExpiry
  | .passResume => some Chip.resumePass
  | .rescan filler => some (Chip.request 0 filler Chip.ownRescan)
  | .sumRequestService => some Chip.serveSum
  | .rebase filler => some (Chip.request 0 filler Chip.ownRebase)
  | .ignitionInputChange level => some (Chip.ignitionInput level)
  | .ignitionFilterComplete => some Chip.ignitionFiltered
  | .dormancyDelayExpiry => some Chip.delayExpired
  | .settleTimeEnd => some Chip.settleEnds
  | .transactionStart => some Chip.transactionStart
  | .nop filler => some (Chip.requestNop filler)
  | .status filler => some (Chip.request 0 filler Chip.ownStatus)
  | .describe kind index filler => some (Chip.request 2 filler (Chip.ownDescribe kind index))
  | .unknown bytes => some (Chip.requestBytes bytes)
  | .supplyLoss => none
  | .transactionEnd clocked => some (Chip.transactionEnd clocked)

/-- What a command does to the levels of the input pins, also of a part without supply. -/
def Instr.movePins : Instr → Pins → Pins
  | .cycleWithdrawn .chipSelect => fun p => { p with chipSelect := false }
  | .chipSelectRelease => fun p => { p with chipSelect := false }
  | .resetNAssert => fun p => { p with resetAsserted := true }
  | .resetNRelease => fun p => { p with resetAsserted := false }
  | .parkInputChange level => fun p => { p with park := level }
  | .ignitionInputChange level => fun p => { p with ignition := level }
  | _ => id

end Sys2Proof

namespace Sys2Proof.Machine

/-- A command with an operation answers by it alone. -/
theorem exec_of_operation (i : Instr) (f : Chip → Chip) (s : State) (h : i.operation = some f) :
    exec i s = .next (s.onPin i.movePins f) := by
  cases i
  case powerOnReset => cases h
  case supplyLoss => cases h
  case memoryTransferComplete => cases h
  case cycleWithdrawn cause => cases cause <;> (cases h; rfl)
  all_goals cases h; rfl

/-- The commands without an operation. -/
theorem operation_eq_none (i : Instr) (h : i.operation = none) :
    i = .powerOnReset ∨ i = .supplyLoss ∨ ∃ returned, i = .memoryTransferComplete returned := by
  cases i
  case powerOnReset => exact .inl rfl
  case supplyLoss => exact .inr (.inl rfl)
  case memoryTransferComplete returned => exact .inr (.inr ⟨returned, rfl⟩)
  all_goals cases h

/-- What a command can answer: the state after its operation, after a completed transfer, or after a loss or a rise of
the supply. -/
theorem exec_cases (i : Instr) (s : State) :
    (∃ f, i.operation = some f ∧ exec i s = .next (s.onPin i.movePins f))
    ∨ (∃ returned, i = .memoryTransferComplete returned ∧ exec i s = .next (s.transferComplete returned))
    ∨ (i = .supplyLoss ∧ exec i s = .next s.loseSupply)
    ∨ (i = .powerOnReset ∧ exec i s = .next s.loseSupply.raiseSupply) := by
  cases hf : i.operation with
  | some f => exact .inl ⟨f, rfl, exec_of_operation i f s hf⟩
  | none =>
    rcases operation_eq_none i hf with rfl | rfl | ⟨returned, rfl⟩
    · exact .inr (.inr (.inr ⟨rfl, rfl⟩))
    · exact .inr (.inr (.inl ⟨rfl, rfl⟩))
    · exact .inr (.inl ⟨returned, rfl, rfl⟩)

/-- A step on an empty queue changes nothing. -/
theorem step_of_empty (s : State) (h : s.pending = []) : step s = .next s := by
  unfold step
  rw [h]

/-- A step carries out the front command. -/
theorem step_of_command (s : State) (i : Instr) (rest : List Instr) (h : s.pending = i :: rest) :
    step s = exec i { s with pending := rest } := by
  unfold step
  rw [h]

/-- What every command keeps, whatever the queue, every step keeps. -/
theorem step_keeps (P : State → Prop) (hq : ∀ s rest, P s → P { s with pending := rest })
    (hP : ∀ i s t, P s → exec i s = .next t → P t) (s t : State) (h : P s) (hs : step s = .next t) : P t := by
  cases hp : s.pending with
  | nil =>
    rw [step_of_empty s hp] at hs
    cases hs
    exact h
  | cons i rest =>
    rw [step_of_command s i rest hp] at hs
    exact hP i _ t (hq s rest h) hs

/-! ## The state after a transfer, and after a loss or a rise of the supply -/

/-- The memory's ready with a transfer in flight. -/
theorem State.transferComplete_of_busy (s : State) (returned : Option Word) (who : Requester) (t : Transfer)
    (live : Bool) (h : s.supplied = true) (hm : s.chip.bus.memPort = .busy who t live) :
    s.transferComplete returned = { s with
      memory := (s.memory.complete t returned).1
      chip := (s.chip.transferDone who live (s.memory.complete t returned).2).finish } := by
  unfold State.transferComplete
  rw [h, hm]

/-- The memory's ready with none in flight, or without supply, changes nothing. -/
theorem State.transferComplete_of_not_busy (s : State) (returned : Option Word)
    (h : s.supplied = true → ∀ who t live, s.chip.bus.memPort ≠ .busy who t live) :
    s.transferComplete returned = s := by
  unfold State.transferComplete
  split
  · next hs hm => exact absurd hm (h hs _ _ _)
  · rfl

/-- The loss of the supply keeps the queue and the fuse block, and leaves the part at its power-on values. -/
theorem State.loseSupply_frame (s : State) :
    s.loseSupply.pending = s.pending ∧ s.loseSupply.supplied = false ∧ s.loseSupply.fuse = s.fuse
      ∧ s.loseSupply.chip = .powerOn s.chip.pins s.loseSupply.chip.draws := by
  unfold State.loseSupply
  split <;> exact ⟨rfl, rfl, rfl, rfl⟩

@[simp] theorem State.loseSupply_pending (s : State) : s.loseSupply.pending = s.pending := s.loseSupply_frame.1
@[simp] theorem State.loseSupply_supplied (s : State) : s.loseSupply.supplied = false := s.loseSupply_frame.2.1
@[simp] theorem State.loseSupply_fuse (s : State) : s.loseSupply.fuse = s.fuse := s.loseSupply_frame.2.2.1
theorem State.loseSupply_chip (s : State) :
    s.loseSupply.chip = .powerOn s.chip.pins s.loseSupply.chip.draws := s.loseSupply_frame.2.2.2

/-! ## Every command answers a next state -/

/-- A completed transfer keeps the queue and the fuse block. -/
theorem State.transferComplete_frame (s : State) (returned : Option Word) :
    (s.transferComplete returned).pending = s.pending ∧ (s.transferComplete returned).fuse = s.fuse := by
  unfold State.transferComplete
  split <;> exact ⟨rfl, rfl⟩

/-- Settles O2, by the table of operations: the pins' and the chip's operations touch no memory. -/
theorem everyCommandAnswersNext : Obligations.EveryCommandAnswersNext := by
  intro i s
  rcases exec_cases i s with ⟨f, _, he⟩ | ⟨returned, hi, he⟩ | ⟨hi, he⟩ | ⟨hi, he⟩
  · exact ⟨_, he, State.onPin_pending _ f s, State.onPin_fuse _ f s, fun _ _ _ a => by rw [State.onPin_memory]⟩
  · obtain ⟨hp, hf⟩ := s.transferComplete_frame returned
    exact ⟨_, he, hp, hf, fun h _ _ => absurd hi (h returned)⟩
  · exact ⟨_, he, s.loseSupply_pending, s.loseSupply_fuse, fun _ _ h => absurd hi h⟩
  · exact ⟨_, he, s.loseSupply_pending, s.loseSupply_fuse, fun _ h _ => absurd hi h⟩

/-! ## Nothing grantable is left waiting -/

/-- A command's end meets the boundary (R15, R185). -/
theorem State.boundary_of_finish (s : State) (c : Chip) (h : s.chip = c.finish) : s.boundary := by
  intro _
  rw [h]
  exact ⟨c.finish_settled, c.finish_mayGoDormant⟩

theorem State.boundary_of_unsupplied (s : State) (h : s.supplied = false) : s.boundary := by
  intro hs
  rw [h] at hs
  cases hs

theorem exec_keeps_boundary (i : Instr) (s t : State) (hb : s.boundary) (h : exec i s = .next t) : t.boundary := by
  rcases exec_cases i s with ⟨f, _, he⟩ | ⟨returned, _, he⟩ | ⟨_, he⟩ | ⟨_, he⟩ <;> (rw [he] at h; cases h)
  · cases hs : s.supplied with
    | true =>
      rw [State.onPin_of_supplied _ f s hs]
      exact State.boundary_of_finish _ _ rfl
    | false => exact State.boundary_of_unsupplied _ (by rw [State.onPin_supplied, hs])
  · unfold State.transferComplete
    split
    · exact State.boundary_of_finish _ _ rfl
    · exact hb
  · exact State.boundary_of_unsupplied _ s.loseSupply_supplied
  · exact State.boundary_of_finish _ _ rfl

/-- Settles O4: every command but those that find no supply or no transfer ends with the arbitration and the dormancy
check. -/
theorem nothingGrantableIsLeftWaiting : Obligations.NothingGrantableIsLeftWaiting :=
  step_keeps State.boundary (fun _ _ h => h) exec_keeps_boundary

end Sys2Proof.Machine
end

section
/-! The processor port and the arbiter in agreement (R3, R12–R14, R20). -/

namespace Sys2Proof.Machine

/-! ## What agreement says, by the port's state -/

/-- The port holds no cycle that waits for the memory port or uses it. -/
def Port.quiet : Port → Prop
  | .held _ .memoryPort => False
  | .transfer _ _ => False
  | _ => True

/-- P has no request pending and no transfer in flight. -/
def BusPath.noPass (b : BusPath) : Prop := b.requestP = none ∧ ∀ t live, b.memPort ≠ .busy .P t live

theorem Chip.portsAgree_quiet (c : Chip) (h : c.bus.port.quiet) : c.portsAgree ↔ c.bus.noPass := by
  unfold Chip.portsAgree BusPath.noPass
  split
  · next hp => rw [hp] at h; exact h.elim
  · next hp => rw [hp] at h; exact h.elim
  · exact Iff.rfl

theorem Chip.portsAgree_waiting (c : Chip) (y : CycleRecord) (h : c.bus.port = .held y .memoryPort) :
    c.portsAgree ↔ c.bus.requestP = some y.transfer ∧ ∀ t live, c.bus.memPort ≠ .busy .P t live := by
  unfold Chip.portsAgree
  rw [h]

theorem Chip.portsAgree_transfer (c : Chip) (y : CycleRecord) (orphan : Bool) (h : c.bus.port = .transfer y orphan) :
    c.portsAgree ↔ c.bus.requestP = none ∧ ∃ live, c.bus.memPort = .busy .P y.transfer live := by
  unfold Chip.portsAgree
  rw [h]

/-- Agreement reads the port, P's request, and P's transfer in flight alone. -/
theorem Chip.portsAgree_congr (c d : Chip) (hp : d.bus.port = c.bus.port) (hr : d.bus.requestP = c.bus.requestP)
    (hm : ∀ t live, d.bus.memPort = .busy .P t live ↔ c.bus.memPort = .busy .P t live) (h : c.portsAgree) :
    d.portsAgree := by
  unfold Chip.portsAgree at h ⊢
  rw [hp]
  split <;> simp_all

/-- A requester other than P that gives up its transfer leaves P's transfer as it is. -/
theorem MemPort.Disowns.busyP {m m' : MemPort} (h : m.Disowns m') (t : Transfer) (live : Bool) :
    m' = .busy .P t live ↔ m = .busy .P t live := by
  rcases h with rfl | ⟨who, t', live', hw, rfl, rfl⟩
  · exact Iff.rfl
  · constructor <;> (intro h; cases h; exact absurd rfl hw)

theorem BusPath.Inner.noPass {b b' : BusPath} (h : b.Inner b') (hr : b'.requestP = b.requestP) (hb : b.noPass) :
    b'.noPass := ⟨hr.trans hb.1, fun t live => mt (h.memPort.busyP t live).mp (hb.2 t live)⟩

theorem Port.quiet_of_inner (y : CycleRecord) (why : HoldReason) (h : why.inner) : (Port.held y why).quiet := by
  cases why with
  | memoryPort => exact h.elim
  | pageLoading => trivial
  | windowOpening => trivial

/-- Inner moves keep the processor port and the arbiter in agreement. -/
theorem Chip.portsAgree_of_inner (c d : Chip) (hi : c.bus.Inner d.bus) (h : c.portsAgree) : d.portsAgree := by
  rcases hi.cycle with ⟨hp, hr⟩ | ⟨y, why, hw, hp, hd⟩
  · exact Chip.portsAgree_congr c d hp hr hi.memPort.busyP h
  · have quiet : c.bus.noPass := (c.portsAgree_quiet (hp ▸ Port.quiet_of_inner y why hw)).mp h
    rcases hd with ⟨⟨data, hd⟩, hr⟩ | ⟨hd, hr⟩
    · exact (d.portsAgree_quiet (by rw [hd]; trivial)).mpr (hi.noPass hr quiet)
    · exact (d.portsAgree_waiting y hd).mpr ⟨hr, fun t live => mt (hi.memPort.busyP t live).mp (quiet.2 t live)⟩

/-! ## The end of a command -/

/-- The winner of an arbitration and its request. -/
theorem Chip.arbitrate_cases (c : Chip) :
    c.arbitrate = c ∨ ∃ who t, c.bus.memPort = .free ∧ c.bus.request who = some t
      ∧ c.arbitrate = { c with bus := c.bus.grantTo who } := by
  unfold Chip.arbitrate
  split
  · next hm =>
    split
    · next who hw =>
      obtain ⟨t, ht⟩ := Option.isSome_iff_exists.mp (c.bus.request_of_winner _ who hw)
      exact .inr ⟨who, t, hm, ht, rfl⟩
    · exact .inl rfl
  · exact .inl rfl
  · exact .inl rfl

/-- A request of P is that of the cycle held for MEMORY PORT. -/
theorem Chip.held_of_requestP (c : Chip) (h : c.portsAgree) (t : Transfer) (hr : c.bus.requestP = some t) :
    ∃ y, c.bus.port = .held y .memoryPort ∧ t = y.transfer := by
  unfold Chip.portsAgree at h
  split at h
  · next y hp => exact ⟨y, hp, Option.some.inj (hr.symm.trans h.1)⟩
  · exact absurd (hr.symm.trans h.1) nofun
  · exact absurd (hr.symm.trans h.1) nofun

/-- An internal requester that is granted a FREE port leaves P's side alone. -/
theorem BusPath.grantTo_internal (b : BusPath) (who : Requester) (hw : who ≠ .P) :
    (b.grantTo who).port = b.port ∧ (b.grantTo who).requestP = b.requestP := by
  unfold BusPath.grantTo
  cases who with
  | P => exact absurd rfl hw
  | R => split <;> exact ⟨rfl, rfl⟩
  | L => split <;> exact ⟨rfl, rfl⟩
  | S => split <;> exact ⟨rfl, rfl⟩

/-- P's cycle that is granted a FREE port enters TRANSFER (R12). -/
theorem BusPath.grantTo_P (b : BusPath) (y : CycleRecord) (t : Transfer) (hp : b.port = .held y .memoryPort)
    (hr : b.requestP = some t) :
    b.grantTo .P = { b with
      port := .transfer y false
      memPort := .busy .P t true
      requestP := none
      starvation := if b.internalPending then b.starvation + 1 else b.starvation
      burst := 0 } := by
  simp [BusPath.grantTo, BusPath.request, BusPath.setRequest, hr, hp, Port.granted]

theorem Chip.arbitrate_keeps_portsAgree (c : Chip) (h : c.portsAgree) : c.arbitrate.portsAgree := by
  rcases c.arbitrate_cases with he | ⟨who, t, hm, hr, he⟩ <;> rw [he]
  · exact h
  · have free : ∀ t live, c.bus.memPort ≠ .busy .P t live := fun t live e => nomatch hm.symm.trans e
    by_cases hw : who = .P
    · subst hw
      obtain ⟨y, hp, rfl⟩ := c.held_of_requestP h t hr
      rw [c.bus.grantTo_P y _ hp hr]
      exact (Chip.portsAgree_transfer _ y false rfl).mpr ⟨rfl, true, rfl⟩
    · obtain ⟨hp, hrP⟩ := c.bus.grantTo_internal who hw
      refine Chip.portsAgree_congr c _ hp hrP (fun t' live => ?_) h
      rw [c.bus.grantTo_memPort who t hr]
      exact ⟨fun e => absurd (by cases e; rfl) hw, fun e => absurd e (free t' live)⟩

@[simp] theorem Chip.checkDormancy_bus (c : Chip) : c.checkDormancy.bus = c.bus := by
  unfold Chip.checkDormancy
  split <;> rfl

theorem Chip.finish_keeps_portsAgree (c : Chip) (h : c.portsAgree) : c.finish.portsAgree := by
  have hb : c.finish.bus = c.arbitrate.bus := Chip.checkDormancy_bus _
  exact Chip.portsAgree_congr _ _ (by rw [hb]) (by rw [hb]) (by simp [hb]) (c.arbitrate_keeps_portsAgree h)

/-! ## Operations at the processor port -/

theorem Chip.unpark_keeps_portsAgree (c : Chip) (h : c.portsAgree) : c.unpark.portsAgree := by
  refine Chip.portsAgree_congr c _ (by rw [c.unpark_bus]) (by rw [c.unpark_bus]) (fun t live => ?_) h
  rw [c.unpark_bus]
  cases hm : c.bus.memPort <;> simp [MemPort.unparked]

theorem Chip.dropCycle_keeps_portsAgree (c : Chip) (h : c.portsAgree) : c.dropCycle.portsAgree := by
  unfold Chip.dropCycle
  split
  · next hp => exact (Chip.portsAgree_quiet _ (by trivial)).mpr ((c.portsAgree_quiet (by rw [hp]; trivial)).mp h)
  · next y hp => exact (Chip.portsAgree_quiet _ (by trivial)).mpr ⟨rfl, ((c.portsAgree_waiting y hp).mp h).2⟩
  · next hp => exact (Chip.portsAgree_quiet _ (by trivial)).mpr ((c.portsAgree_quiet (by rw [hp]; trivial)).mp h)
  · next hp => exact (Chip.portsAgree_quiet _ (by trivial)).mpr ((c.portsAgree_quiet (by rw [hp]; trivial)).mp h)
  · next y orphan hp =>
    exact (Chip.portsAgree_transfer _ y true rfl).mpr ((c.portsAgree_transfer y orphan hp).mp h)
  · exact h
  · exact h

theorem Chip.strobeReleased_keeps_portsAgree (c : Chip) (h : c.portsAgree) : c.strobeReleased.portsAgree := by
  unfold Chip.strobeReleased
  split
  · next hp => exact (Chip.portsAgree_quiet _ (by trivial)).mpr ((c.portsAgree_quiet (by rw [hp]; trivial)).mp h)
  · exact h
  all_goals exact c.dropCycle_keeps_portsAgree h

theorem Chip.chipSelectReleased_keeps_portsAgree (c : Chip) (h : c.portsAgree) : c.chipSelectReleased.portsAgree :=
  Chip.unpark_keeps_portsAgree _ (Chip.dropCycle_keeps_portsAgree _ h)

theorem Chip.cycleWithdrawn_keeps_portsAgree (c : Chip) (cause : WithdrawCause) (h : c.portsAgree) :
    (c.cycleWithdrawn cause).portsAgree := by
  cases cause with
  | strobe => exact c.dropCycle_keeps_portsAgree h
  | chipSelect => exact c.chipSelectReleased_keeps_portsAgree h

/-- The end of a cycle in DONE at the external reset. -/
theorem Chip.afterReset_keeps_portsAgree (c : Chip) (h : c.portsAgree) :
    ({ c with bus.port := c.bus.port.afterReset } : Chip).portsAgree := by
  unfold Port.afterReset
  split
  · next hp => exact (Chip.portsAgree_quiet _ (by trivial)).mpr ((c.portsAgree_quiet (by rw [hp]; trivial)).mp h)
  · exact h

theorem Chip.resetAsserted_keeps_portsAgree (c : Chip) (h : c.portsAgree) : c.resetAsserted.portsAgree := by
  unfold Chip.resetAsserted
  split
  · exact h
  · have dropped := Chip.dropCycle_keeps_portsAgree
      { c with pins.resetAsserted := true, bus.gate.reset := true } h
    exact Chip.portsAgree_of_inner _ _ (Chip.endCause_inner .reset (BusPath.Inner.refl _))
      (Chip.unpark_keeps_portsAgree _ (Chip.afterReset_keeps_portsAgree _ dropped))

/-- A decided cycle that is carried out while P has neither a request nor a transfer holds, completes, or is P's one
request. -/
theorem Chip.carryOut_portsAgree (c : Chip) (y : CycleRecord) (d : Decision) (h : c.bus.noPass) :
    (c.carryOut y d).portsAgree := by
  unfold Chip.carryOut
  split
  · exact (Chip.portsAgree_quiet _ (by trivial)).mpr h
  · exact (Chip.portsAgree_quiet _ (by trivial)).mpr h
  · exact (Chip.portsAgree_quiet _ (by trivial)).mpr h
  · exact (Chip.portsAgree_quiet _ (by trivial)).mpr h
  · have hb := c.serveOverlayWrite_bus y
    refine (Chip.portsAgree_quiet _ ?_).mpr ?_ <;> rw [hb]
    · trivial
    · exact h
  · exact (Chip.portsAgree_quiet _ (by trivial)).mpr h
  · exact (Chip.portsAgree_waiting _ y rfl).mpr ⟨rfl, h.2⟩

/-- A cycle decided in IDLE or GATED leaves the port and the arbiter in agreement: what it hands over makes inner moves
only, and no cycle is held meanwhile. -/
theorem Chip.decideCycle_keeps_portsAgree (c : Chip) (y : CycleRecord)
    (hp : c.bus.port = .idle ∨ ∃ z, c.bus.port = .gated z) (h : c.portsAgree) : (c.decideCycle y).portsAgree := by
  have free : c.bus.noPass := (c.portsAgree_quiet (by rcases hp with hp | ⟨z, hp⟩ <;> rw [hp] <;> trivial)).mp h
  unfold Chip.decideCycle
  split
  · exact (Chip.portsAgree_quiet _ (by trivial)).mpr free
  · have handed := Chip.handOver_inner y (c.decision y) (BusPath.Inner.refl c.bus)
    refine Chip.unpark_keeps_portsAgree _ (Chip.carryOut_portsAgree _ _ _ ?_)
    rcases handed.cycle with ⟨_, hr⟩ | ⟨_, _, _, hp', _⟩
    · exact handed.noPass hr free
    · rcases hp with hp | ⟨z, hp⟩ <;> cases hp.symm.trans hp'

theorem Chip.gateChanged_keeps_portsAgree (c : Chip) (h : c.portsAgree) : c.gateChanged.portsAgree := by
  unfold Chip.gateChanged
  split
  · next y hp =>
    split
    · exact c.decideCycle_keeps_portsAgree y (.inr ⟨y, hp⟩) h
    · exact h
  · exact h

theorem Chip.resetReleased_keeps_portsAgree (c : Chip) (h : c.portsAgree) : c.resetReleased.portsAgree := by
  unfold Chip.resetReleased
  split
  · exact Chip.gateChanged_keeps_portsAgree _ h
  · exact h

/-- An arrival's report to the power state leaves the port and the arbiter alone. -/
theorem Chip.arrivalReported_bus (c : Chip) :
    c.arrivalReported.bus = { c.bus with
      gate := if c.supply.power = .dormant then { c.bus.gate with waking := true } else c.bus.gate } := by
  unfold Chip.arrivalReported
  split <;> next hp => simp [hp, Chip.startWake]

theorem Chip.admitCycle_keeps_portsAgree (c : Chip) (y : CycleRecord) (hp : c.bus.port = .idle) (h : c.portsAgree) :
    (c.admitCycle y).portsAgree := by
  unfold Chip.admitCycle
  split
  · exact c.decideCycle_keeps_portsAgree y (.inl hp) h
  · refine Chip.unpark_keeps_portsAgree _ ((Chip.portsAgree_quiet _ (by trivial)).mpr ?_)
    exact (c.portsAgree_quiet (by rw [hp]; trivial)).mp h

theorem Chip.cycleArrives_keeps_portsAgree (c : Chip) (b : BusCycle) (h : c.portsAgree) :
    (c.cycleArrives b).portsAgree := by
  unfold Chip.cycleArrives
  split
  · next hp =>
    split
    · have hb := Chip.arrivalReported_bus { c with pins.chipSelect := true }
      exact Chip.admitCycle_keeps_portsAgree _ _ (by rw [hb]; exact hp)
        (Chip.portsAgree_congr c _ (by rw [hb]) (by rw [hb]) (by simp [hb]) h)
    · exact h
  all_goals exact h

/-! ## Operations of the power states -/

theorem Chip.enterRunning_keeps_portsAgree (c : Chip) (h : c.portsAgree) : c.enterRunning.portsAgree :=
  Chip.portsAgree_of_inner c _ (Chip.enterRunning_inner (BusPath.Inner.refl _)) h

theorem Chip.endStart_keeps_portsAgree (c : Chip) (h : c.portsAgree) : c.endStart.portsAgree := by
  unfold Chip.endStart
  split
  · exact Chip.gateChanged_keeps_portsAgree _ (Chip.enterRunning_keeps_portsAgree _ h)
  · exact h

theorem Chip.settleEnds_keeps_portsAgree (c : Chip) (h : c.portsAgree) : c.settleEnds.portsAgree := by
  unfold Chip.settleEnds
  split
  · refine Chip.gateChanged_keeps_portsAgree _ (Chip.enterRunning_keeps_portsAgree _ ?_)
    exact Chip.portsAgree_of_inner { c with
      bus.gate.waking := false, supply.settling := false, link.receiving := true } _
      (Chip.startMonitor_inner (BusPath.Inner.refl _)) h
  · exact h

theorem Chip.ignitionEvent_keeps_portsAgree (c : Chip) (level : IgnitionLevel) (h : c.portsAgree) :
    (c.ignitionEvent level).portsAgree := by
  unfold Chip.ignitionEvent
  split
  · exact Chip.portsAgree_of_inner c _ (Chip.enterAfterRun_inner (BusPath.Inner.refl _)) h
  · exact Chip.portsAgree_of_inner c _ (Chip.enterActive_inner (BusPath.Inner.refl _)) h
  · exact h
  · exact h

theorem Chip.ignitionFiltered_keeps_portsAgree (c : Chip) (h : c.portsAgree) : c.ignitionFiltered.portsAgree := by
  unfold Chip.ignitionFiltered
  split
  · dsimp only
    split
    · exact h
    · exact Chip.ignitionEvent_keeps_portsAgree _ _ h
  · exact h

/-! ## Every operation -/

/-- Operations that make inner moves only, whatever the chip. -/
theorem operation_inner (i : Instr) (f : Chip → Chip) (h : i.operation = some f) :
    (∀ c : Chip, c.bus.Inner (f c).bus) ∨ ∀ c : Chip, c.portsAgree → (f c).portsAgree := by
  have refl := fun c : Chip => BusPath.Inner.refl c.bus
  cases i <;> cases h
  case startEnd => exact .inr Chip.endStart_keeps_portsAgree
  case processorCycleArrival cycle => exact .inr fun c => c.cycleArrives_keeps_portsAgree cycle
  case strobeRelease => exact .inr Chip.strobeReleased_keeps_portsAgree
  case cycleWithdrawn cause => exact .inr fun c => c.cycleWithdrawn_keeps_portsAgree cause
  case chipSelectRelease => exact .inr Chip.chipSelectReleased_keeps_portsAgree
  case resetNAssert => exact .inr Chip.resetAsserted_keeps_portsAgree
  case resetNRelease => exact .inr Chip.resetReleased_keeps_portsAgree
  case ignitionFilterComplete => exact .inr Chip.ignitionFiltered_keeps_portsAgree
  case settleTimeEnd => exact .inr Chip.settleEnds_keeps_portsAgree
  case channelTick channel sample => exact .inl fun c => Chip.channelTick_inner channel sample (refl c)
  case silence channel => exact .inl fun c => Chip.silence_inner channel (refl c)
  case parkInputChange level => exact .inl fun c => (refl c).of_bus_eq (c.parkInput_bus level)
  case parkDebounceComplete => exact .inl fun c => Chip.parkDebounced_inner (refl c)
  case grant fields filler =>
    exact .inl fun c => Chip.request_inner _ _ _ (fun _ => Chip.ownGrant_inner fields) (refl c)
  case secondTick => exact .inl fun c => Chip.secondTick_inner (refl c)
  case grantTimerExpiry => exact .inl fun c => Chip.applyExpiry_inner (refl c)
  case keep filler => exact .inl fun c => Chip.request_inner _ _ _ (fun _ => Chip.ownKeep_inner) (refl c)
  case revoke filler => exact .inl fun c => Chip.request_inner _ _ _ (fun _ => Chip.ownRevoke_inner) (refl c)
  case closingSumRequest => exact .inl fun c => (refl c).of_bus_eq c.askClosingSum_bus
  case strikeDecay => exact .inl fun c => (refl c).of_bus_eq c.applyDecay_bus
  case refusals filler => exact .inl fun c => Chip.request_inner _ _ _ (fun _ => Chip.ownRefusals_inner) (refl c)
  case discard pages filler =>
    exact .inl fun c => Chip.request_inner _ _ _ (fun _ => Chip.ownDiscard_inner pages) (refl c)
  case appendBegin => exact .inl fun c => Chip.beginAppend_inner (refl c)
  case commit pages filler =>
    exact .inl fun c => Chip.request_inner _ _ _ (fun _ => Chip.ownCommit_inner pages) (refl c)
  case archived upTo filler =>
    exact .inl fun c => Chip.request_inner _ _ _ (fun _ => Chip.ownArchived_inner upTo) (refl c)
  case periodicScanExpiry => exact .inl fun c => Chip.periodicExpiry_inner (refl c)
  case passResume => exact .inl fun c => Chip.resumePass_inner (refl c)
  case rescan filler => exact .inl fun c => Chip.request_inner _ _ _ (fun _ => Chip.ownRescan_inner) (refl c)
  case sumRequestService => exact .inl fun c => Chip.serveSum_inner (refl c)
  case rebase filler => exact .inl fun c => Chip.request_inner _ _ _ (fun _ => Chip.ownRebase_inner) (refl c)
  case ignitionInputChange level => exact .inl fun c => (refl c).of_bus_eq (c.ignitionInput_bus level)
  case dormancyDelayExpiry => exact .inl fun c => (refl c).of_bus_eq c.delayExpired_bus
  case transactionStart => exact .inl refl
  case nop filler => exact .inl refl
  case status filler => exact .inl fun c => Chip.request_inner _ _ _ (fun _ => Chip.ownStatus_inner) (refl c)
  case describe kind index filler =>
    exact .inl fun c => Chip.request_inner _ _ _ (fun _ => Chip.ownDescribe_inner kind index) (refl c)
  case unknown bytes => exact .inl fun c => Chip.requestBytes_inner bytes (refl c)
  case transactionEnd clocked => exact .inl fun c => (refl c).of_bus_eq (c.transactionEnd_bus clocked)

theorem operation_keeps_portsAgree (i : Instr) (f : Chip → Chip) (hf : i.operation = some f) (c : Chip)
    (h : c.portsAgree) : (f c).portsAgree := by
  rcases operation_inner i f hf with hi | hk
  · exact Chip.portsAgree_of_inner c _ (hi c) h
  · exact hk c h

/-! ## The completion of a transfer -/

/-- P's completed transfer ends its cycle, and P has nothing more at the memory port. -/
theorem Chip.passTransfer_keeps_portsAgree (c : Chip) (live : Bool) (t : Transfer) (data : Word)
    (hm : c.bus.memPort = .busy .P t live) (h : c.portsAgree) : (c.transferDone .P live data).portsAgree := by
  -- a transfer of P in flight is that of the cycle in TRANSFER
  obtain ⟨y, orphan, hp⟩ : ∃ y orphan, c.bus.port = .transfer y orphan := by
    unfold Chip.portsAgree at h
    split at h
    · exact absurd hm (h.2 t live)
    · next y orphan hp => exact ⟨y, orphan, hp⟩
    · exact absurd hm (h.2 t live)
  have hr := ((c.portsAgree_transfer y orphan hp).mp h).1
  have ended : (c.passDone data).bus.port.quiet ∧ (c.passDone data).bus.requestP = none := by
    unfold Chip.passDone
    rw [hp]
    cases orphan with
    | true => exact ⟨trivial, hr⟩
    | false =>
      dsimp only
      split
      · rw [Chip.reportServed_bus]
        exact ⟨trivial, hr⟩
      · exact ⟨trivial, hr⟩
      · exact ⟨trivial, hr⟩
  refine (Chip.portsAgree_quiet (c.passDone data).endPass ended.1).mpr ⟨ended.2, fun t live e => ?_⟩
  change (if _ then MemPort.parked else .free) = _ at e
  split at e <;> cases e

/-- What the completion of an internal requester's transfer brings about makes inner moves only. -/
theorem Chip.requesterDone_inner (c : Chip) (who : Requester) (live : Bool) (data : Word) (hw : who ≠ .P) :
    c.bus.Inner (c.requesterDone who live data).bus := by
  have refl := BusPath.Inner.refl c.bus
  cases live with
  | false =>
    cases who with
    | P => exact absurd rfl hw
    | R => exact refl
    | L => exact refl
    | S => exact refl
  | true =>
    cases who with
    | P => exact absurd rfl hw
    | R => exact Chip.engineDone_inner data refl
    | L => exact Chip.loaderRead_inner data refl
    | S => exact Chip.sumRead_inner data refl

/-- An internal requester's request is none of P's affair. -/
theorem BusPath.setRequest_passSide (b : BusPath) (who : Requester) (t : Option Transfer) (hw : who ≠ .P) :
    (b.setRequest who t).port = b.port ∧ (b.setRequest who t).requestP = b.requestP := by
  cases who with
  | P => exact absurd rfl hw
  | R => exact ⟨rfl, rfl⟩
  | L => exact ⟨rfl, rfl⟩
  | S => exact ⟨rfl, rfl⟩

/-- The end of an internal requester's transfer leaves P's side alone, and the port not to P. -/
theorem Chip.endInternal_passSide (c : Chip) (who : Requester) (hw : who ≠ .P) :
    (c.endInternal who).bus.port = c.bus.port ∧ (c.endInternal who).bus.requestP = c.bus.requestP
      ∧ ∀ t live, (c.endInternal who).bus.memPort ≠ .busy .P t live := by
  unfold Chip.endInternal
  split
  · split
    · have side := c.bus.setRequest_passSide who none hw
      exact ⟨side.1, side.2, fun t live e => hw (by cases e; rfl)⟩
    · exact ⟨rfl, rfl, nofun⟩
  · exact ⟨rfl, rfl, nofun⟩

theorem Chip.internalTransfer_keeps_portsAgree (c : Chip) (who : Requester) (live : Bool) (t : Transfer) (data : Word)
    (hw : who ≠ .P) (hm : c.bus.memPort = .busy who t live) (h : c.portsAgree) :
    (c.transferDone who live data).portsAgree := by
  have inner := c.requesterDone_inner who live data hw
  have done := Chip.portsAgree_of_inner c _ inner h
  have he : c.transferDone who live data = (c.requesterDone who live data).endInternal who := by
    cases who with
    | P => exact absurd rfl hw
    | R => rfl
    | L => rfl
    | S => rfl
  obtain ⟨hp, hr, hn⟩ := (c.requesterDone who live data).endInternal_passSide who hw
  rw [he]
  refine Chip.portsAgree_congr _ _ hp hr (fun t' live' => ⟨fun e => absurd e (hn t' live'), fun e => ?_⟩) done
  -- the transfer in flight was the internal requester's
  have := hm.symm.trans ((inner.memPort.busyP t' live').mp e)
  cases this
  exact absurd rfl hw

/-! ## Every command -/

theorem Chip.powerOn_portsAgree (pins : Pins) (draws : Nat) : (Chip.powerOn pins draws).portsAgree :=
  (Chip.portsAgree_quiet _ (by trivial)).mpr ⟨rfl, nofun⟩

theorem exec_keeps_portsAgree (i : Instr) (s t : State) (h : s.chip.portsAgree) (he : exec i s = .next t) :
    t.chip.portsAgree := by
  rcases exec_cases i s with ⟨f, hf, hx⟩ | ⟨returned, _, hx⟩ | ⟨_, hx⟩ | ⟨_, hx⟩ <;> (rw [hx] at he; cases he)
  · cases hs : s.supplied with
    | true =>
      rw [State.onPin_of_supplied _ f s hs]
      exact Chip.finish_keeps_portsAgree _ (operation_keeps_portsAgree i f hf s.chip h)
    | false =>
      rw [State.onPin_of_unsupplied _ f s hs]
      exact h
  · unfold State.transferComplete
    split
    · next who t live _ hm =>
      refine Chip.finish_keeps_portsAgree _ ?_
      by_cases hw : who = .P
      · subst hw
        exact Chip.passTransfer_keeps_portsAgree _ live t _ hm h
      · exact Chip.internalTransfer_keeps_portsAgree _ who live t _ hw hm h
    · exact h
  · rw [s.loseSupply_chip]
    exact Chip.powerOn_portsAgree _ _
  · exact Chip.finish_keeps_portsAgree _ (Chip.portsAgree_of_inner _ _
      (Chip.fuseRead_inner _ (BusPath.Inner.refl _)) (Chip.powerOn_portsAgree _ _))

/-- Settles O5: every operation makes inner moves only or is one at the processor port, and a completed transfer ends its
requester's own. -/
theorem stepKeepsPortsInAgreement : Obligations.StepKeepsPortsInAgreement :=
  step_keeps (fun s => s.chip.portsAgree) (fun _ _ h => h) exec_keeps_portsAgree

end Sys2Proof.Machine
end

section
/-! The state after reset, the arbiter's grants, and completed transfers (R5, R8, R12–R17). -/

namespace Sys2Proof.Machine

/-! ## The state after reset -/

/-- Settles O8: the power-on values are small enough to be evaluated, block by block. -/
theorem resetMeetsTheInvariants : Obligations.ResetMeetsTheInvariants := by
  have memory : State.reset.memoryWf := rfl
  have boundary : State.reset.boundary := fun _ => ⟨fun _ => ⟨rfl, rfl, rfl, rfl⟩, rfl⟩
  have refusals : State.reset.chip.refusalsOk := ⟨Nat.zero_le _, rfl⟩
  have lockout : State.reset.chip.lockoutSound := by
    unfold Chip.lockoutSound
    decide
  have ranges : State.reset.chip.inRanges := by
    unfold Chip.inRanges
    decide
  exact ⟨memory, boundary, Chip.powerOn_portsAgree _ _, refusals, lockout, ranges⟩

/-! ## The arbiter's grants (R15, R17) -/

/-- A FREE port is granted to the winner. -/
theorem Chip.arbitrate_of_winner (c : Chip) (who : Requester) (hm : c.bus.memPort = .free)
    (hw : c.bus.winner c.params.starvationLimit = some who) :
    c.arbitrate = { c with bus := c.bus.grantTo who } := by
  simp [Chip.arbitrate, hm, hw]

theorem BusPath.internalPending_eq_false (b : BusPath) :
    b.internalPending = false ↔ b.requestR = none ∧ b.requestL = none ∧ b.requestS = none := by
  simp [BusPath.internalPending, and_assoc]

/-- P wins below the starvation limit, and where no internal request is pending. -/
theorem BusPath.winner_P (b : BusPath) (limit : Nat) (t : Transfer) (hP : b.requestP = some t)
    (h : b.starvation < limit ∨ b.requestR = none ∧ b.requestL = none ∧ b.requestS = none) :
    b.winner limit = some .P := by
  rcases h with h | ⟨hR, hL, hS⟩
  · simp [BusPath.winner, hP, h]
  · simp [BusPath.winner, hP, hR, hL, hS]

/-- Where P does not win by its rank, the internal requesters stand in the order R, L, S. -/
theorem BusPath.winner_internal (b : BusPath) (limit : Nat) (h : b.requestP = none ∨ limit ≤ b.starvation) :
    (∀ t, b.requestR = some t → b.winner limit = some .R)
    ∧ (∀ t, b.requestR = none → b.requestL = some t → b.winner limit = some .L)
    ∧ ∀ t, b.requestR = none → b.requestL = none → b.requestS = some t → b.winner limit = some .S := by
  have notP : ¬ (b.requestP.isSome ∧ b.starvation < limit) := by
    rintro ⟨hP, hs⟩
    rcases h with h | h
    · simp [h] at hP
    · omega
  refine ⟨fun t hR => ?_, fun t hR hL => ?_, fun t hR hL hS => ?_⟩ <;> unfold BusPath.winner <;> rw [if_neg notP]
  · simp [hR]
  · simp [hR, hL]
  · simp [hR, hL, hS]

/-- Settles O10: the winner by rank, and what its grant makes of the Bus Path. -/
theorem arbiterGrantsByRank : Obligations.ArbiterGrantsByRank := by
  intro c hm
  refine ⟨fun y t hp hr hs => ?_, fun h => ?_⟩
  · rw [c.arbitrate_of_winner .P hm (c.bus.winner_P _ t hr hs), c.bus.grantTo_P y t hp hr]
    by_cases hi : c.bus.requestR = none ∧ c.bus.requestL = none ∧ c.bus.requestS = none
    · rw [if_pos hi, c.bus.internalPending_eq_false.mpr hi]
      rfl
    · have pending : c.bus.internalPending = true := by
        simpa using mt c.bus.internalPending_eq_false.mp hi
      rw [if_neg hi, pending]
      rfl
  · obtain ⟨wR, wL, wS⟩ := c.bus.winner_internal c.params.starvationLimit h
    refine ⟨fun t hR => ?_, fun t hR hL => ?_, fun t hR hL hS => ?_⟩
    · rw [c.arbitrate_of_winner .R hm (wR t hR)]
      simp [BusPath.grantTo, BusPath.request, BusPath.setRequest, hR]
    · rw [c.arbitrate_of_winner .L hm (wL t hR hL)]
      simp [BusPath.grantTo, BusPath.request, BusPath.setRequest, hL]
    · rw [c.arbitrate_of_winner .S hm (wS t hR hL hS)]
      simp [BusPath.grantTo, BusPath.request, BusPath.setRequest, hS]

/-! ## What a transfer leaves in memory (R5) -/

/-- The byte-wise content of memory after a completed transfer. -/
theorem Memory.readByte_complete (m : Memory) (tr : Transfer) (returned : Option Word) (a : Addr) (hwf : m.wf = true) :
    (m.complete tr returned).1.readByte a = (tr.leaves returned a).getD (m.readByte a) := by
  obtain ⟨address, action⟩ := tr
  have odd_ne := oddByte_ne_wordAddress address
  cases action with
  | write lowLane highLane w =>
    rw [Memory.complete_write, Memory.readByte_writeLanes m _ _ _ _ _ hwf]
    simp only [Transfer.leaves]
    by_cases hl : a = wordAddress address
    · cases lowLane <;> cases highLane <;> simp [hl, odd_ne.symm]
    · by_cases hh : a = oddByte address
      · cases highLane <;> simp [hh, odd_ne]
      · simp [hl, hh]
  | read =>
    cases returned with
    | none => rfl
    | some w =>
      change (m.writeLanes address true true w).readByte a = _
      rw [Memory.readByte_writeLanes m _ _ _ _ _ hwf]
      simp only [Transfer.leaves]
      by_cases hl : a = wordAddress address
      · simp [hl, odd_ne.symm]
      · by_cases hh : a = oddByte address
        · simp [hh, odd_ne]
        · simp [hl, hh]

/-- Settles O11: the memory devices complete the transfer in flight, byte by byte. -/
theorem transferStoresItsLanesOnly : Obligations.TransferStoresItsLanesOnly := by
  intro s who tr live returned hwf hs hm
  refine ⟨_, rfl, ?_⟩
  rw [s.transferComplete_of_busy returned who tr live hs hm]
  exact ⟨rfl, hs, rfl, fun a => s.memory.readByte_complete tr returned a hwf⟩

/-! ## The end of a command, seen from the chip before it -/

/-- The Bus Path at a command's end is that of the operation after the arbitration. -/
theorem Chip.finish_bus (c d : Chip) (hp : d.params = c.params) : d.finish.bus = c.busAfter d.bus := by
  have h : d.finish.bus = d.arbitrate.bus := Chip.checkDormancy_bus _
  rw [h]
  exact Chip.arbitrate_bus_congr { c with bus := d.bus } d rfl (by rw [hp])

/-- The end of a command that enters no dormancy, as a change of the chip before it. -/
theorem Chip.finish_eq (c d : Chip) (hp : d.params = c.params) (hu : d.staysUp ∨ d.bus.port ≠ .idle) :
    d.finish = { d with bus := c.busAfter d.bus } := by
  have hb := Chip.finish_bus c d hp
  rcases hu with hu | hu
  · rw [d.finish_of_staysUp hu] at hb ⊢
    rw [← hb]
  · rw [d.finish_of_port hu] at hb ⊢
    rw [← hb]

/-- On a settled Bus Path the arbitration has nothing to do. -/
theorem Chip.busAfter_of_settled (c : Chip) (b : BusPath) (h : ({ c with bus := b } : Chip).settled) :
    c.busAfter b = b := by
  unfold Chip.busAfter
  rw [Chip.arbitrate_of_settled _ h]

/-! ## The completion of P's transfer (R8, R13, R16, R20, R72) -/

/-- A served-write report changes at most the idle timer. -/
theorem Chip.reportServed_eq (c : Chip) (owner : Owner) :
    c.reportServed owner = { c with grant := (c.reportServed owner).grant } := by
  unfold Chip.reportServed
  split
  · split <;> rfl
  all_goals rfl

/-- A report for anything but a window changes nothing. -/
theorem Chip.reportServed_of_no_window (c : Chip) (owner : Owner) (h : ∀ w, owner ≠ .window w) :
    c.reportServed owner = c := by
  unfold Chip.reportServed
  split
  · exact absurd rfl (h _)
  all_goals rfl

/-- A report for a window (R72). -/
theorem Chip.reportServed_window_grant (c : Chip) (w : Win) :
    (c.reportServed (.window w)).grant =
      if (c.grant.state = .active ∨ c.grant.state = .suspended) ∧ hasWin c.grant.record.scope w = true then
        { c.grant with record := { c.grant.record with idleRemaining := 15 * 2 ^ c.grant.record.idleChoice } }
      else c.grant := by
  simp only [Chip.reportServed]
  split <;> rfl

/-- The transfer of a withdrawn or abandoned cycle ends without it (R13, R20). -/
theorem Chip.passDone_orphan (c : Chip) (y : CycleRecord) (data : Word) (hp : c.bus.port = .transfer y true) :
    c.passDone data = { c with bus.port := .idle } := by
  unfold Chip.passDone
  rw [hp]

/-- The transfer of a READ completes it with the data (R8). -/
theorem Chip.passDone_read (c : Chip) (y : CycleRecord) (data : Word) (hp : c.bus.port = .transfer y false)
    (hd : y.direction = .read) : c.passDone data = { c with bus.port := .done y (some data) } := by
  unfold Chip.passDone Chip.completeCycle
  rw [hp]
  dsimp only
  rw [hd]

/-- The transfer of a decided WRITE completes it with a served-write report (R8). -/
theorem Chip.passDone_write (c : Chip) (y : CycleRecord) (d : Decision) (data : Word)
    (hp : c.bus.port = .transfer y false) (hd : y.direction = .write) (hy : y.decision = some d) :
    c.passDone data = ({ c with bus.port := .done y none } : Chip).reportServed d.resolution.owner := by
  unfold Chip.passDone Chip.completeCycle
  rw [hp]
  dsimp only
  rw [hd, hy]

/-- The chip once P's transfer has completed: the cycle's end at the processor port, the report to the Grant Controller,
and the parking of the memory port. -/
def Chip.passEnded (c : Chip) (y : CycleRecord) (orphan : Bool) (owner : Owner) (data : Word) : Chip :=
  { c with
    bus := { c.bus with
      memPort := if c.pins.chipSelect then .parked else .free
      port := if orphan then .idle else .done y (if y.direction = .read then some data else none) }
    grant := if orphan = false ∧ y.direction = .write then (c.reportServed owner).grant else c.grant }

theorem Chip.transferDone_P (c : Chip) (y : CycleRecord) (orphan live : Bool) (d : Decision) (data : Word)
    (hp : c.bus.port = .transfer y orphan) (hy : y.decision = some d) :
    c.transferDone .P live data = c.passEnded y orphan d.resolution.owner data := by
  change (c.passDone data).endPass = _
  cases orphan with
  | true =>
    rw [c.passDone_orphan y data hp]
    simp [Chip.endPass, Chip.passEnded]
  | false =>
    cases hd : y.direction with
    | read =>
      rw [c.passDone_read y data hp hd]
      simp [Chip.endPass, Chip.passEnded, hd]
    | write =>
      rw [c.passDone_write y d data hp hd hy]
      have hg : ({ c with bus.port := .done y none } : Chip).reportServed d.resolution.owner
          = { c.reportServed d.resolution.owner with bus.port := .done y none } := by
        unfold Chip.reportServed
        split
        · dsimp only
          split <;> rfl
        all_goals rfl
      rw [hg, c.reportServed_eq]
      simp [Chip.endPass, Chip.passEnded, hd]

/-- Settles O12, from what the completion of P's transfer makes of the chip. -/
theorem passTransferEndsItsCycle : Obligations.PassTransferEndsItsCycle := by
  intro s y orphan live d hs hu hp hy hm
  have ended : (s.transferComplete none).chip =
      let e := s.chip.passEnded y orphan d.resolution.owner (s.memory.complete y.transfer none).2
      { e with bus := s.chip.busAfter e.bus } := by
    rw [s.transferComplete_of_busy none .P y.transfer live hs hm]
    exact (congrArg Chip.finish (s.chip.transferDone_P y orphan live d _ hp hy)).trans
      (Chip.finish_eq s.chip _ rfl (.inl hu))
  have data : (if y.direction = .read then some (s.memory.complete y.transfer none).2 else none)
      = if y.direction = .read then some (s.memory.readWord y.address) else none := by
    cases hd : y.direction with
    | read => simp [CycleRecord.transfer, hd]
    | write => rfl
  refine ⟨_, rfl, ?_⟩
  rw [ended]
  refine ⟨fun b hb => ?_, ?_, fun h => ?_, fun w ho hd how => ?_⟩
  · cases b
    case bus => exact absurd (by simp) hb
    case grant => exact absurd (by simp) hb
    all_goals rfl
  · simp only [Chip.passEnded, data]
  · simp only [Chip.passEnded]
    rcases h with h | h | h
    · simp [h]
    · simp [h]
    · simp [Chip.reportServed_of_no_window _ _ h]
  · simp only [Chip.passEnded, ho, hd, how, and_self, if_true]
    exact s.chip.reportServed_window_grant w

end Sys2Proof.Machine
end

section
/-! Releases of the strobe and of the chip select (R8, R13, R16). -/

namespace Sys2Proof.Machine

/-- A frame, block by block. -/
theorem Chip.changesOnly_iff (blocks : List Block) (c d : Chip) : c.changesOnly blocks d ↔
    (.pins ∈ blocks ∨ d.pins = c.pins) ∧ (.bus ∈ blocks ∨ d.bus = c.bus) ∧ (.map ∈ blocks ∨ d.map = c.map)
    ∧ (.params ∈ blocks ∨ d.params = c.params) ∧ (.monitor ∈ blocks ∨ d.monitor = c.monitor)
    ∧ (.grant ∈ blocks ∨ d.grant = c.grant) ∧ (.adu ∈ blocks ∨ d.adu = c.adu)
    ∧ (.overlay ∈ blocks ∨ d.overlay = c.overlay) ∧ (.engine ∈ blocks ∨ d.engine = c.engine)
    ∧ (.scanner ∈ blocks ∨ d.scanner = c.scanner) ∧ (.supply ∈ blocks ∨ d.supply = c.supply)
    ∧ (.link ∈ blocks ∨ d.link = c.link) ∧ (.draws ∈ blocks ∨ d.draws = c.draws) := by
  constructor
  · intro h
    have each (b : Block) : b ∈ blocks ∨ c.same d b := or_iff_not_imp_left.mpr (h b)
    exact ⟨each .pins, each .bus, each .map, each .params, each .monitor, each .grant, each .adu, each .overlay,
      each .engine, each .scanner, each .supply, each .link, each .draws⟩
  · rintro ⟨pins, bus, map, params, monitor, grant, adu, overlay, engine, scanner, supply, link, draws⟩ b hb
    cases b
    case pins => exact pins.resolve_left hb
    case bus => exact bus.resolve_left hb
    case map => exact map.resolve_left hb
    case params => exact params.resolve_left hb
    case monitor => exact monitor.resolve_left hb
    case grant => exact grant.resolve_left hb
    case adu => exact adu.resolve_left hb
    case overlay => exact overlay.resolve_left hb
    case engine => exact engine.resolve_left hb
    case scanner => exact scanner.resolve_left hb
    case supply => exact supply.resolve_left hb
    case link => exact link.resolve_left hb
    case draws => exact draws.resolve_left hb

/-! ## A cycle given up before ready (R13, R20) -/

/-- A cycle given up takes away P's request at most. -/
theorem BusPath.dropped_requests (b : BusPath) :
    b.dropped.memPort = b.memPort ∧ (b.requestP = none → b.dropped.requestP = none)
      ∧ b.dropped.requestR = b.requestR ∧ b.dropped.requestL = b.requestL ∧ b.dropped.requestS = b.requestS := by
  unfold BusPath.dropped
  split
  case h_4 => exact ⟨rfl, fun _ => rfl, rfl, rfl, rfl⟩
  all_goals exact ⟨rfl, fun h => h, rfl, rfl, rfl⟩

/-- The gate has no part in what happens to a cycle given up. -/
theorem BusPath.dropped_gate (b : BusPath) (gate : Gate) :
    ({ b with gate := gate } : BusPath).dropped = { b.dropped with gate := gate } := by
  unfold BusPath.dropped
  dsimp only
  split <;> rfl

theorem Chip.dropCycle_settled (c : Chip) (h : c.settled) : c.dropCycle.settled := by
  intro hm
  rw [c.dropCycle_bus] at hm ⊢
  obtain ⟨memPort, requestP, requestR, requestL, requestS⟩ := c.bus.dropped_requests
  obtain ⟨hP, hR, hL, hS⟩ := h (memPort ▸ hm)
  exact ⟨requestP hP, requestR.trans hR, requestL.trans hL, requestS.trans hS⟩

theorem Chip.strobeReleased_of_done (c : Chip) (y : CycleRecord) (data : Option Word)
    (h : c.bus.port = .done y data) : c.strobeReleased = { c with bus.port := .idle } := by
  unfold Chip.strobeReleased
  rw [h]

/-- Before ready, the release of the strobe is the withdrawal of the cycle (R13). -/
theorem Chip.strobeReleased_of_not_done (c : Chip) (h : ∀ y data, c.bus.port ≠ .done y data) :
    c.strobeReleased = c.dropCycle := by
  unfold Chip.strobeReleased
  split
  · next hp => exact absurd hp (h _ _)
  · next hp => simp [Chip.dropCycle, hp]
  all_goals rfl

/-- The release of the chip select: a cycle before ready is given up, and parking ends (R13, R16). -/
theorem Chip.chipSelectReleased_eq (c : Chip) :
    c.chipSelectReleased = { c with
      pins := { c.pins with chipSelect := false }
      bus := { c.bus.dropped with memPort := c.bus.memPort.unparked } } := by
  unfold Chip.chipSelectReleased
  rw [Chip.unpark_eq, Chip.unpark_bus, Chip.dropCycle_eq, Chip.dropCycle_bus]
  dsimp only
  rw [c.bus.dropped_requests.1]

/-- Settles O34: the table of R13 by `Chip.dropCycle_bus`, on a Bus Path that leaves the arbitration nothing to do but where
parking ends. -/
theorem releasesEndTheCycle : Obligations.ReleasesEndTheCycle := by
  intro s ⟨hs, hset, hup⟩
  refine ⟨fun y data hp => ?_, fun hp i hi => ?_, fun i hi => ?_⟩
  · -- the cycle in DONE
    have he := s.chip.strobeReleased_of_done y data hp
    refine ⟨_, congrArg Host.Outcome.next (State.onChip_of_calm Chip.strobeReleased s hs ?_ ?_), ?_⟩
    · rw [he]; exact hset
    · rw [he]; exact hup
    · rw [he]
      exact ⟨State.changesOnly_of_chip _ s _ ((Chip.changesOnly_iff _ _ _).mpr (by simp)), rfl⟩
  · -- a cycle before ready, or none
    have dropped : exec i s = .next (s.onChip Chip.dropCycle) := by
      rcases hi with rfl | rfl
      · have he := s.chip.strobeReleased_of_not_done hp
        change Host.Outcome.next (s.onChip Chip.strobeReleased) = _
        unfold State.onChip
        rw [he]
      · rfl
    refine ⟨_, dropped.trans (congrArg Host.Outcome.next (State.onChip_of_calm _ s hs ?_ ?_)), ?_, s.chip.dropCycle_bus⟩
    · exact s.chip.dropCycle_settled hset
    · unfold Chip.staysUp
      rw [Chip.dropCycle_supply]
      exact hup
    · exact State.changesOnly_of_chip _ s _ ((Chip.changesOnly_iff _ _ _).mpr (by simp))
  · -- the chip select
    have he : exec i s = .next { s with chip := { s.chip.chipSelectReleased with
        bus := s.chip.busAfter s.chip.chipSelectReleased.bus } } := by
      rcases hi with rfl | rfl <;>
      · refine congrArg Host.Outcome.next
          ((State.onPin_of_supplied _ _ s hs).trans (congrArg (fun c => { s with chip := c }) ?_))
        refine Chip.finish_eq s.chip s.chip.chipSelectReleased (by simp [Chip.chipSelectReleased]) (.inl ?_)
        rw [s.chip.chipSelectReleased_eq]
        exact hup
    refine ⟨_, he, ?_⟩
    rw [s.chip.chipSelectReleased_eq]
    exact ⟨State.changesOnly_of_chip _ s _ ((Chip.changesOnly_iff _ _ _).mpr (by simp)), rfl, rfl⟩

end Sys2Proof.Machine
end

section
/-! The ending procedure of a grant, as a whole (R76–R79, R114, R121). -/

namespace Sys2Proof.Machine

/-- A page as a close leaves it (R121). -/
theorem Page.close_eq (p : Page) : p.close = if p.state = .unbound ∨ p.state = .closed then p else ⟨.closed, []⟩ := by
  unfold Page.close
  split <;> next h => simp [h]

/-- The loader gives up its transfer in flight, and no other's. -/
theorem MemPort.disown_L (m : MemPort) :
    m.disown .L = (match m with
      | .busy .L tr _ => .busy .L tr false
      | m => m) := by
  cases m with
  | busy who tr live => cases who <;> rfl
  | free => rfl
  | parked => rfl

/-- The close of the pages changes the overlay, and of the Bus Path the loader's side and a held write (R114, R121). -/
theorem Chip.closePages_eq (c : Chip) :
    c.closePages = { c with
      overlay := { c.overlay with pages := Vector.ofFn fun p : PageNo => c.overlay.pages[p].close, queue := [] }
      bus := { c.bus with
        requestL := none, memPort := c.bus.memPort.disown .L, port := c.closePages.bus.port } } := by
  unfold Chip.closePages Chip.dropHeld
  split <;> rfl

theorem Chip.closePages_port_of_not_held (c : Chip) (h : ∀ y, c.bus.port ≠ .held y .pageLoading) :
    c.closePages.bus.port = c.bus.port := by
  unfold Chip.closePages Chip.dropHeld
  split
  · next y hp => exact absurd hp (h y)
  · rfl

/-- A write held for PAGE LOADING completes as a DROP when the pages close (R10). -/
theorem Chip.closePages_port_of_held (c : Chip) (y : CycleRecord) (h : c.bus.port = .held y .pageLoading)
    (hd : y.direction = .write) : c.closePages.bus.port = .done y none := by
  have hg : ({ c with
     overlay.pages := Vector.ofFn fun p : PageNo => c.overlay.pages[p].close
     overlay.queue := [] }.giveUp .L).bus.port = .held y .pageLoading := h
  unfold Chip.closePages Chip.dropHeld
  rw [hg]
  simp [Chip.completeCycle, hd]

/-- The close of the pages has nothing to do with the Grant Controller. -/
theorem Chip.closePages_grant (c : Chip) (g : GrantController) :
    ({ c with grant := g } : Chip).closePages = { c.closePages with grant := g } := by
  rw [Chip.closePages_eq, c.closePages_eq]
  have hp : ({ c with grant := g } : Chip).closePages.bus.port = c.closePages.bus.port := by
    unfold Chip.closePages Chip.dropHeld
    dsimp only [Chip.giveUp, BusPath.setRequest]
    split <;> rfl
  rw [hp]

/-- A set of windows lists none exactly when it is empty. -/
theorem winsOf_eq_nil (s : WindowSet) : winsOf s = [] ↔ s = 0#24 := by
  constructor
  · intro h
    have none : ∀ w : Win, hasWin s w = false := fun w => by
      have := List.filter_eq_nil_iff.mp h w (List.mem_finRange w)
      simpa using this
    ext i hi
    simpa [hasWin, ← BitVec.getLsbD_eq_getElem] using none ⟨i, hi⟩
  · rintro rfl
    exact List.filter_eq_nil_iff.mpr fun w _ => by simp [hasWin]

/-- The Record Engine asked for an append. -/
theorem Chip.requestAppend_asked (c : Chip) (r : AppendRequest) :
    c.requestAppend r = { c with engine := c.engine.asked r } := by
  unfold Chip.requestAppend Chip.queueHasPlace RecordEngine.asked Config.appendPlaces
  simp only [decide_eq_true_eq]
  split <;> rfl

/-- The closing sums still to take, as one change of the Grant Controller and the Record Engine (R78, R79). -/
theorem Chip.closeWindows_eq (c : Chip) (s : WindowSet) :
    c.closeWindows (winsOf s) = { c with
      grant := { c.grant with step := if s = 0#24 then .grantEnd else .closing (winsOf s) false }
      engine := if s = 0#24 then c.engine.asked ⟨c.grant.record.endAppend, .grant, false, 0⟩ else c.engine } := by
  by_cases h : s = 0#24
  · rw [(winsOf_eq_nil s).mpr h, Chip.closeWindows_nil]
    unfold Chip.append
    rw [Chip.requestAppend_asked]
    simp [h]
  · obtain ⟨w, ws, hw⟩ := List.exists_cons_of_ne_nil (mt (winsOf_eq_nil s).mp h)
    rw [hw, Chip.closeWindows_cons]
    simp [h]

/-- The entry to ENDING with no commit in flight (R76–R79). -/
theorem Chip.beginEnding_of_no_commit (c : Chip) (reason : EndReason) (h : c.engine.commit = none) :
    c.beginEnding reason = { c.closePages with
      grant := c.grantEnded reason
      engine :=
        if c.grant.record.rewritten = 0#24 then
          c.engine.asked ⟨.grantEnd reason c.grant.record.workshop c.grant.record.elapsed c.grant.record.commitCount 0#24
            c.grant.record.clamped c.grant.record.beginSeq c.grant.record.timeStamp, .grant, false, 0⟩
        else c.engine } := by
  have hc : c.commitInFlight = false := by simp [Chip.commitInFlight, h]
  have begun : c.beginEnding reason = ({ c.closePages with
      grant := { c.grant with
        state := .ending
        record := { c.grant.record with endReason := some reason, suspendRemaining := none } } } : Chip).closeWindows
        (winsOf c.grant.record.rewritten) := by
    unfold Chip.beginEnding Chip.closeGrant
    simp only [Chip.commitInFlight, h, Option.isSome_none, Bool.false_eq_true, if_false]
    rw [Chip.closePages_grant]
  rw [begun, Chip.closeWindows_eq, c.closePages_eq]
  by_cases hr : c.grant.record.rewritten = 0#24
  · simp [Chip.grantEnded, GrantRecord.endAppend, h, hr]
  · simp [Chip.grantEnded, h, hr]

/-- The entry to ENDING changes the Bus Path, the Grant Controller, the overlay and the Record Engine alone. -/
theorem Chip.beginEnding_eq (c : Chip) (reason : EndReason) :
    c.beginEnding reason = { c with
      bus := (c.beginEnding reason).bus
      grant := (c.beginEnding reason).grant
      overlay := (c.beginEnding reason).overlay
      engine := (c.beginEnding reason).engine } := by
  cases h : c.engine.commit with
  | none =>
    rw [c.beginEnding_of_no_commit reason h, c.closePages_eq]
  | some run => rw [c.beginEnding_of_commit reason (by simp [Chip.commitInFlight, h])]

/-- The entry to ENDING is what the statements call the end of a grant. -/
theorem Chip.beginEnding_endedBy (c : Chip) (reason : EndReason) : c.endedBy reason (c.beginEnding reason) := by
  cases h : c.engine.commit with
  | some run =>
    rw [c.beginEnding_of_commit reason (by simp [Chip.commitInFlight, h])]
    simp [Chip.endedBy, Chip.grantEnded, Chip.overlayEnded, h]
  | none =>
    rw [c.beginEnding_of_no_commit reason h]
    have overlay : c.closePages.overlay = { c.overlay with
        pages := Vector.ofFn fun p : PageNo => c.overlay.pages[p].close, queue := [] } := by rw [c.closePages_eq]
    refine ⟨rfl, ⟨fun hc => absurd h hc, fun _ => ⟨?_, fun p => ?_⟩⟩, ?_, fun hc => absurd h hc, fun _ => ⟨?_, ?_, ?_⟩⟩
    · rw [overlay]
    · rw [overlay]
      simp [Page.close_eq]
    · simp [h]
    · exact (congrArg Chip.bus c.closePages_eq).trans (congrArg (fun m => { c.bus with
        requestL := none, memPort := m, port := c.closePages.bus.port }) c.bus.memPort.disown_L)
    · exact c.closePages_port_of_not_held
    · exact c.closePages_port_of_held

end Sys2Proof.Machine
end

section
/-! Arrivals: what an arrival makes of the chip, and that a decision and its service read neither the pins nor the power
state nor the port that the cycle leaves (R1, R4, R9, R20). -/

namespace Sys2Proof.Machine

/-! ## The arrival -/

/-- The chip at an arrival, before the cycle is gated or decided, in a power state other than DORMANT (R1, R185). -/
def Chip.arrived (c : Chip) : Chip :=
  { c with pins := { c.pins with chipSelect := true }, supply := c.supply.afterArrival }

theorem Chip.arrivalReported_of_awake (c : Chip) (h : c.supply.power ≠ .dormant) :
    ({ c with pins.chipSelect := true } : Chip).arrivalReported = c.arrived := by
  unfold Chip.arrivalReported Chip.arrived Supply.afterArrival
  dsimp only
  split <;> next hp => simp_all

/-- An arrival with the gate open is decided at once (R4). -/
theorem Chip.cycleArrives_open (c : Chip) (b : BusCycle) (hp : c.bus.port = .idle)
    (hb : (b.readStrobe || b.writeStrobe) = true) (hd : c.supply.power ≠ .dormant) (hg : c.bus.gate.isOpen = true) :
    c.cycleArrives b = c.arrived.decideCycle (captureCycle b) := by
  have open_ : c.arrived.bus.gate.isOpen = true := hg
  unfold Chip.cycleArrives Chip.admitCycle
  simp [hp, hb, c.arrivalReported_of_awake hd, open_]

/-- A command that leaves a cycle at the processor port ends with the arbitration alone. -/
theorem State.onChip_of_port (f : Chip → Chip) (s : State) (d : Chip) (hs : s.supplied = true) (hd : f s.chip = d)
    (hp : d.params = s.chip.params) (hport : d.bus.port ≠ .idle) :
    s.onChip f = { s with chip := { d with bus := s.chip.busAfter d.bus } } := by
  rw [State.onChip_of_supplied f s hs, hd, Chip.finish_eq s.chip d hp (.inr hport)]

/-! ## Strikes, refusals and overlay writes as single changes -/

/-- The chip after a strike's own count (R81). -/
def Chip.struck (c : Chip) : Chip := { c with grant.strikes := min (c.grant.strikes + 1) 15, grant.decay := 0 }

/-- A strike counts, and begins lockout where it takes the count to the threshold (R81, R83). -/
theorem Chip.strike_eq (c : Chip) :
    c.strike = if (!c.lockout && c.struck.lockout) = true then c.struck.beginLockout else c.struck := rfl

/-- The chip once a refusal stands in the list, with the notice of a list that was empty (R104, R105). -/
def Chip.listed (y : CycleRecord) (reason : Reason) (r : Resolution) (c : Chip) : Chip :=
  let c' := { c with adu.refusals := (recordRefusal c.adu.refusals (c.refusalEntry y reason r)).1 }
  if c.adu.refusals.isEmpty = true then c'.notify .refusals else c'

@[simp] theorem Chip.listed_bus (c : Chip) (y : CycleRecord) (reason : Reason) (r : Resolution) :
    (c.listed y reason r).bus = c.bus := by
  unfold Chip.listed
  dsimp only
  split <;> rfl

/-- A refusal is listed, and a new entry of a striking reason is a strike (R102, R104). -/
theorem Chip.refuse_eq (c : Chip) (y : CycleRecord) (reason : Reason) (r : Resolution) :
    c.refuse y reason r =
      if ((recordRefusal c.adu.refusals (c.refusalEntry y reason r)).2 && reason.strikes) = true then
        (c.listed y reason r).strike
      else c.listed y reason r := rfl

/-- The page word that an OVERLAY WRITE leaves (R116, R117). -/
def Chip.writtenWord (c : Chip) (y : CycleRecord) (limit : Option LimitNo) (w : PageWord) : PageWord :=
  { w with
    value := c.storedWord limit (y.merge w.value) w
    dirty := true
    clamped := c.storedWord limit (y.merge w.value) w != y.merge w.value }

/-- The store of an OVERLAY WRITE changes its page word and the clamp count alone (R61, R116, R117). -/
theorem Chip.storeOverlay_eq (c : Chip) (y : CycleRecord) (limit : Option LimitNo) (p : PageNo) (n : Nat) :
    c.storeOverlay y limit p n =
      let w := c.overlay.pages[p].word n
      { c.setPage p (c.overlay.pages[p].setWord n (c.writtenWord y limit w)) with
        grant.record.clamped :=
          if c.storedWord limit (y.merge w.value) w = y.merge w.value then c.grant.record.clamped
          else satInc c.grant.record.clamped } := by
  unfold Chip.storeOverlay
  dsimp only
  split <;> rfl

/-! ## Chips that differ beside the decision -/

/-- The chip with other pins, another supply controller and another processor port. -/
def Chip.beside (pins : Pins) (supply : Supply) (port : Port) (c : Chip) : Chip :=
  { c with pins := pins, supply := supply, bus.port := port }

/-- The port holds no write for PAGE LOADING. -/
def Port.notLoading (p : Port) : Prop := ∀ y, p ≠ .held y .pageLoading

theorem Port.notLoading_idle : Port.idle.notLoading := by
  intro y h
  cases h

variable {pins : Pins} {supply : Supply} {port : Port}

theorem Chip.notify_beside (c : Chip) (n : Notice) :
    (c.beside pins supply port).notify n = (c.notify n).beside pins supply port := rfl

theorem Chip.requestAppend_beside (c : Chip) (r : AppendRequest) :
    (c.beside pins supply port).requestAppend r = (c.requestAppend r).beside pins supply port := by
  rw [Chip.requestAppend_asked, Chip.requestAppend_asked]
  rfl

theorem Chip.append_beside (c : Chip) (source : AppendSource) (kind : AppendKind) :
    (c.beside pins supply port).append source kind = (c.append source kind).beside pins supply port :=
  c.requestAppend_beside _

/-- With no write held for PAGE LOADING the close of the pages leaves the processor port alone. -/
theorem Chip.closePages_beside (c : Chip) (hc : c.bus.port.notLoading) (hp : port.notLoading) :
    (c.beside pins supply port).closePages = c.closePages.beside pins supply port := by
  rw [Chip.closePages_eq, c.closePages_eq, c.closePages_port_of_not_held hc,
    (c.beside pins supply port).closePages_port_of_not_held hp]
  rfl

theorem Chip.beginEnding_beside (c : Chip) (reason : EndReason) (hc : c.bus.port.notLoading) (hp : port.notLoading) :
    (c.beside pins supply port).beginEnding reason = (c.beginEnding reason).beside pins supply port := by
  cases h : c.engine.commit with
  | none =>
    rw [c.beginEnding_of_no_commit reason h, (c.beside pins supply port).beginEnding_of_no_commit reason h,
      c.closePages_beside hc hp]
    rfl
  | some run =>
    rw [c.beginEnding_of_commit reason (by simp [Chip.commitInFlight, h]),
      (c.beside pins supply port).beginEnding_of_commit reason (by simp [Chip.commitInFlight, Chip.beside, h])]
    rfl

theorem Chip.endCause_beside (c : Chip) (reason : EndReason) (hc : c.bus.port.notLoading) (hp : port.notLoading) :
    (c.beside pins supply port).endCause reason = (c.endCause reason).beside pins supply port := by
  have hg : (c.beside pins supply port).grant = c.grant := rfl
  cases h : c.grant.state with
  | active =>
    rw [c.endCause_of_inForce reason (.inl h), Chip.endCause_of_inForce _ reason (.inl (hg ▸ h)),
      c.beginEnding_beside reason hc hp]
  | suspended =>
    rw [c.endCause_of_inForce reason (.inr h), Chip.endCause_of_inForce _ reason (.inr (hg ▸ h)),
      c.beginEnding_beside reason hc hp]
  | opening =>
    rw [c.endCause_of_opening reason h, Chip.endCause_of_opening _ reason (hg ▸ h)]
    rfl
  | idle => rw [c.endCause_of_idle reason (.inl h), Chip.endCause_of_idle _ reason (.inl (hg ▸ h))]
  | ending => rw [c.endCause_of_idle reason (.inr h), Chip.endCause_of_idle _ reason (.inr (hg ▸ h))]

theorem Chip.beginLockout_beside (c : Chip) (hc : c.bus.port.notLoading) (hp : port.notLoading) :
    (c.beside pins supply port).beginLockout = c.beginLockout.beside pins supply port := by
  have hc' : ∀ kind, (c.append .grant kind).bus.port.notLoading := fun kind => by
    rw [Chip.append_bus]
    exact hc
  unfold Chip.beginLockout
  rw [Chip.append_beside, Chip.endCause_beside _ .lockout (hc' _) hp, Chip.notify_beside]
  rfl

theorem Chip.strike_beside (c : Chip) (hc : c.bus.port.notLoading) (hp : port.notLoading) :
    (c.beside pins supply port).strike = c.strike.beside pins supply port := by
  have struck : (c.beside pins supply port).struck = c.struck.beside pins supply port := rfl
  rw [Chip.strike_eq, c.strike_eq, apply_ite (Chip.beside pins supply port), ← Chip.beginLockout_beside c.struck hc hp,
    struck]
  rfl

theorem Chip.refuse_beside (c : Chip) (y : CycleRecord) (reason : Reason) (r : Resolution)
    (hc : c.bus.port.notLoading) (hp : port.notLoading) :
    (c.beside pins supply port).refuse y reason r = (c.refuse y reason r).beside pins supply port := by
  have listed : (c.beside pins supply port).listed y reason r = (c.listed y reason r).beside pins supply port := by
    unfold Chip.listed
    rw [apply_ite (Chip.beside pins supply port)]
    rfl
  have hl : (c.listed y reason r).bus.port.notLoading := by
    rw [Chip.listed_bus]
    exact hc
  rw [Chip.refuse_eq, c.refuse_eq, apply_ite (Chip.beside pins supply port), ← Chip.strike_beside _ hl hp, listed]
  rfl

theorem Chip.openWindow_beside (c : Chip) (w : Win) :
    (c.beside pins supply port).openWindow w = (c.openWindow w).beside pins supply port := by
  unfold Chip.openWindow
  rw [← Chip.append_beside]
  rfl

theorem Chip.handOver_beside (c : Chip) (y : CycleRecord) (d : Decision) (hc : c.bus.port.notLoading)
    (hp : port.notLoading) :
    (c.beside pins supply port).handOver y d = (c.handOver y d).beside pins supply port := by
  unfold Chip.handOver
  cases d.refusal with
  | none =>
    dsimp only
    split
    · exact Chip.openWindow_beside _ _
    · rfl
  | some reason =>
    dsimp only
    rw [c.refuse_beside y reason _ hc hp]
    split
    · exact Chip.openWindow_beside _ _
    · rfl

theorem Chip.reportServed_beside (c : Chip) (owner : Owner) :
    (c.beside pins supply port).reportServed owner = (c.reportServed owner).beside pins supply port := by
  unfold Chip.reportServed
  split
  · rw [apply_ite (Chip.beside pins supply port)]
    rfl
  all_goals rfl

theorem Chip.storeOverlay_beside (c : Chip) (y : CycleRecord) (limit : Option LimitNo) (p : PageNo) (n : Nat) :
    (c.beside pins supply port).storeOverlay y limit p n = (c.storeOverlay y limit p n).beside pins supply port := by
  rw [Chip.storeOverlay_eq, c.storeOverlay_eq]
  rfl

/-- A cycle that completes, holds or asks for the memory port takes the processor port over. -/
theorem Chip.completeCycle_beside (c : Chip) (y : CycleRecord) (data : Word) :
    (c.beside pins supply port).completeCycle y data
      = (c.completeCycle y data).beside pins supply (c.completeCycle y data).bus.port := rfl

theorem Chip.serveOverlayWrite_beside (c : Chip) (y : CycleRecord) (limit : Option LimitNo) (r : Resolution) :
    (c.beside pins supply port).serveOverlayWrite y limit r
      = (c.serveOverlayWrite y limit r).beside pins supply (c.serveOverlayWrite y limit r).bus.port := by
  rw [Chip.serveOverlayWrite_bus]
  unfold Chip.serveOverlayWrite
  split
  · rfl
  · rw [Chip.storeOverlay_beside, Chip.completeCycle_beside, Chip.reportServed_beside]
    rfl

/-- A decided cycle is carried out alike from whatever port: it takes the port over. -/
theorem Chip.carryOut_beside (c : Chip) (y : CycleRecord) (d : Decision) :
    (c.beside pins supply port).carryOut y d = (c.carryOut y d).beside pins supply (c.carryOut y d).bus.port := by
  unfold Chip.carryOut
  split
  case h_5 => exact c.serveOverlayWrite_beside y _ _
  all_goals rfl

theorem Chip.unpark_beside (c : Chip) :
    (c.beside pins supply port).unpark = c.unpark.beside pins supply port := by
  rw [Chip.unpark_eq, c.unpark_eq, Chip.unpark_bus, c.unpark_bus]
  rfl

/-- A cycle is decided and carried out alike whatever the pins, the power state and the port before it, where none of them
holds a write for PAGE LOADING. -/
theorem Chip.decideCycle_beside (c : Chip) (y : CycleRecord) (hc : c.bus.port.notLoading) (hp : port.notLoading) :
    (c.beside pins supply port).decideCycle y
      = (c.decideCycle y).beside pins supply (c.decideCycle y).bus.port := by
  unfold Chip.decideCycle
  split
  · rfl
  · unfold Chip.decideLanes
    have hd : (c.beside pins supply port).decision y = c.decision y := rfl
    dsimp only
    rw [hd, c.handOver_beside y _ hc hp, Chip.carryOut_beside, Chip.unpark_beside, Chip.unpark_bus]

/-- A decision and its service leave the pins and the power state alone. -/
theorem Chip.decideCycle_keeps (c : Chip) (y : CycleRecord) (hc : c.bus.port.notLoading) :
    (c.decideCycle y).pins = c.pins ∧ (c.decideCycle y).supply = c.supply := by
  have same : c.decideCycle y = (c.decideCycle y).beside c.pins c.supply (c.decideCycle y).bus.port :=
    c.decideCycle_beside (pins := c.pins) (supply := c.supply) y hc hc
  exact ⟨(congrArg Chip.pins same).trans rfl, (congrArg Chip.supply same).trans rfl⟩

/-! ## The port after a decision -/

/-- A decided cycle has completed or is held. -/
def Port.decided : Port → Prop
  | .done _ _ => True
  | .held _ _ => True
  | _ => False

theorem Chip.carryOut_decided (c : Chip) (y : CycleRecord) (d : Decision) : (c.carryOut y d).bus.port.decided := by
  unfold Chip.carryOut
  split
  case h_5 =>
    rw [Chip.serveOverlayWrite_bus]
    trivial
  all_goals trivial

theorem Chip.decideCycle_decided (c : Chip) (y : CycleRecord) : (c.decideCycle y).bus.port.decided := by
  unfold Chip.decideCycle
  split
  · trivial
  · unfold Chip.decideLanes
    dsimp only
    rw [Chip.unpark_bus]
    exact Chip.carryOut_decided _ _ _

theorem Port.decided_ne_idle {p : Port} (h : p.decided) : p ≠ .idle := by
  rintro rfl
  exact h

/-- The arbiter makes no cycle GATED. -/
theorem Chip.arbitrate_port_ne_gated (c : Chip) (h : c.bus.port.decided) (y : CycleRecord) :
    c.arbitrate.bus.port ≠ .gated y := by
  have decided_ne : c.bus.port ≠ .gated y := fun hp => by
    rw [hp] at h
    exact h
  rcases c.arbitrate_cases with he | ⟨who, t, _, hr, he⟩ <;> rw [he]
  · exact decided_ne
  · by_cases hw : who = .P
    · subst hw
      unfold BusPath.grantTo
      rw [hr]
      change c.bus.port.granted ≠ _
      unfold Port.granted
      split
      · exact nofun
      · exact decided_ne
    · rw [show ({ c with bus := c.bus.grantTo who } : Chip).bus.port = c.bus.port from
        (c.bus.grantTo_internal who hw).1]
      exact decided_ne

/-! ## A GATED cycle is decided as if it arrived then (R9, R4) -/

theorem Chip.gateChanged_of_gated (c : Chip) (y : CycleRecord) (hp : c.bus.port = .gated y)
    (hg : c.bus.gate.isOpen = true) : c.gateChanged = c.decideCycle y := by
  unfold Chip.gateChanged
  rw [hp]
  simp [hg]

/-- Without a GATED cycle, or with the gate still closed, a change of the gate decides nothing. -/
theorem Chip.gateChanged_of_closed (c : Chip) (h : (∀ y, c.bus.port ≠ .gated y) ∨ c.bus.gate.isOpen = false) :
    c.gateChanged = c := by
  unfold Chip.gateChanged
  split
  · next y hp =>
    rcases h with h | h
    · exact absurd hp (h y)
    · simp [h]
  · rfl

/-- The end of a command with a cycle at the port reads neither the pins nor the power state. -/
theorem Chip.finish_beside (c : Chip) (h : c.bus.port ≠ .idle) :
    (c.beside pins supply c.bus.port).finish = { c.finish with pins := pins, supply := supply } := by
  rw [c.finish_of_port h, Chip.finish_of_port (c.beside pins supply c.bus.port) h,
    Chip.arbitrate_bus_congr c (c.beside pins supply c.bus.port) rfl rfl]
  rfl

/-- The command that opens the gate takes a GATED cycle to where its arrival at the open gate would take it. -/
theorem gateChanged_as_arrival (s : State) (c : Chip) (b : BusCycle) (hs : s.supplied = true)
    (hp : c.bus.port = .gated (captureCycle b)) (hb : (b.readStrobe || b.writeStrobe) = true)
    (hd : c.supply.power ≠ .dormant) (hg : c.bus.gate.isOpen = true) :
    ∃ u, exec (.processorCycleArrival b) { s with chip := { c with bus := { c.bus with port := .idle } } } = .next u
      ∧ { s with chip := c.gateChanged.finish }
        = { u with chip := { u.chip with pins := c.pins, supply := c.supply } }
      ∧ ∀ y, c.gateChanged.finish.bus.port ≠ .gated y := by
  have decided := c.decideCycle_decided (captureCycle b)
  have notLoading : c.bus.port.notLoading := fun y h => by
    rw [hp] at h
    cases h
  have arrived : ({ c with bus := { c.bus with port := .idle } } : Chip).cycleArrives b
      = (c.decideCycle (captureCycle b)).beside { c.pins with chipSelect := true } c.supply.afterArrival
          (c.decideCycle (captureCycle b)).bus.port := by
    have same : ({ c with bus := { c.bus with port := .idle } } : Chip).arrived
        = c.beside { c.pins with chipSelect := true } c.supply.afterArrival .idle := rfl
    rw [Chip.cycleArrives_open { c with bus := { c.bus with port := .idle } } b rfl hb hd hg, same,
      c.decideCycle_beside _ notLoading Port.notLoading_idle]
  refine ⟨_, congrArg Host.Outcome.next (State.onChip_of_supplied _ _ hs), ?_, fun y => ?_⟩
  · rw [arrived, Chip.finish_beside _ (Port.decided_ne_idle decided), c.gateChanged_of_gated _ hp hg,
      Chip.finish_of_port _ (Port.decided_ne_idle decided)]
    dsimp only
    rw [(c.decideCycle_keeps _ notLoading).1, (c.decideCycle_keeps _ notLoading).2]
  · rw [c.gateChanged_of_gated _ hp hg, Chip.finish_of_port _ (Port.decided_ne_idle decided)]
    exact Chip.arbitrate_port_ne_gated _ decided y

end Sys2Proof.Machine
end

section
/-! External reset (R20, R86, R9). -/

namespace Sys2Proof.Machine

/-- The Bus Path at the assertion of RESET_N: the gate closed, the cycle given up, one in DONE over, and parking ended
(R20). -/
def BusPath.abandoned (b : BusPath) : BusPath :=
  { b.dropped with
    port := b.dropped.port.afterReset
    gate := { b.gate with reset := true }
    memPort := b.memPort.unparked }

/-- The chip at the assertion of RESET_N, before the end cause. -/
def Chip.abandoned (c : Chip) : Chip :=
  { c with pins := { c.pins with resetAsserted := true }, bus := c.bus.abandoned }

/-- The assertion of RESET_N abandons the cycle and is an end cause (R20, R86). -/
theorem Chip.resetAsserted_eq (c : Chip) (h : c.pins.resetAsserted = false) :
    c.resetAsserted = c.abandoned.endCause .reset := by
  unfold Chip.resetAsserted
  rw [if_neg (by simp [h])]
  dsimp only
  rw [Chip.unpark_eq, Chip.unpark_bus, Chip.dropCycle_eq, Chip.dropCycle_bus, BusPath.dropped_gate]
  dsimp only
  rw [c.bus.dropped_requests.1]
  rfl

/-- The entry to ENDING leaves the power state and the parameters alone. -/
theorem Chip.beginEnding_keeps (c : Chip) (reason : EndReason) :
    (c.beginEnding reason).supply = c.supply ∧ (c.beginEnding reason).params = c.params := by
  rw [c.beginEnding_eq]
  exact ⟨rfl, rfl⟩

/-- The assertion of RESET_N, for what the end cause makes of the abandoned chip. -/
theorem exec_resetNAssert (s : State) (d : Chip) (hs : s.supplied = true) (hu : s.chip.staysUp)
    (h : s.chip.pins.resetAsserted = false) (hd : s.chip.abandoned.endCause .reset = d) (hp : d.params = s.chip.params)
    (hsu : d.supply = s.chip.supply) :
    exec .resetNAssert s = .next { s with chip := { d with bus := s.chip.busAfter d.bus } } := by
  refine congrArg Host.Outcome.next ((State.onPin_of_supplied _ _ s hs).trans ?_)
  have up : d.staysUp := by
    unfold Chip.staysUp
    rw [hsu]
    exact hu
  rw [s.chip.resetAsserted_eq h, hd, Chip.finish_eq s.chip d hp (.inl up)]

/-- The chip with RESET out of the gate's set and RESET_N released. -/
def Chip.released (c : Chip) : Chip :=
  { c with pins := { c.pins with resetAsserted := false }, bus := { c.bus with gate := { c.bus.gate with reset := false } } }

theorem Chip.resetReleased_eq (c : Chip) (h : c.pins.resetAsserted = true) :
    c.resetReleased = c.released.gateChanged := by
  unfold Chip.resetReleased
  rw [if_pos h]
  rfl

theorem exec_resetNRelease (s : State) (hs : s.supplied = true) (h : s.chip.pins.resetAsserted = true) :
    exec .resetNRelease s = .next { s with chip := s.chip.released.gateChanged.finish } := by
  refine congrArg Host.Outcome.next ((State.onPin_of_supplied _ _ s hs).trans ?_)
  rw [s.chip.resetReleased_eq h]

/-- Settles O35: the assertion is an end cause of the abandoned chip, by the grant's state; the release opens the gate, and
a GATED cycle is decided as if it arrived (`gateChanged_as_arrival`). -/
theorem externalResetAbandonsTheCycle : Obligations.ExternalResetAbandonsTheCycle := by
  intro s ⟨hs, hset, hup⟩ g abandoned
  refine ⟨fun h hst => ?_, fun h hst => ?_, fun h hst => ?_, fun h hcl => ?_, fun b h hp hbs hstart hwake hd => ?_⟩
  · -- no grant that can end
    refine ⟨_, exec_resetNAssert s _ hs hup h (s.chip.abandoned.endCause_of_idle .reset hst) rfl rfl, ?_, rfl, rfl⟩
    exact State.changesOnly_of_chip _ s _ ((Chip.changesOnly_iff _ _ _).mpr (by simp [Chip.abandoned]))
  · -- a grant in OPENING
    refine ⟨_, exec_resetNAssert s _ hs hup h (s.chip.abandoned.endCause_of_opening .reset hst) rfl rfl, ?_, rfl, rfl,
      rfl⟩
    exact State.changesOnly_of_chip _ s _ ((Chip.changesOnly_iff _ _ _).mpr (by simp [Chip.abandoned]))
  · -- a grant in force
    obtain ⟨supply, params⟩ := s.chip.abandoned.beginEnding_keeps .reset
    refine ⟨_, s.chip.abandoned.beginEnding .reset, exec_resetNAssert s _ hs hup h
      (s.chip.abandoned.endCause_of_inForce .reset hst) params supply, ?_, ?_,
      s.chip.abandoned.beginEnding_endedBy .reset, rfl, rfl, rfl, rfl⟩
    · refine State.changesOnly_of_chip _ s _ ((Chip.changesOnly_iff _ _ _).mpr ?_)
      rw [s.chip.abandoned.beginEnding_eq]
      simp [Chip.abandoned]
    · dsimp only
      rw [s.chip.abandoned.beginEnding_eq]
      rfl
  · -- nothing to decide at the release
    have closed : s.chip.released.gateChanged = s.chip.released := by
      refine Chip.gateChanged_of_closed _ ?_
      rcases hcl with hcl | hcl | hcl
      · exact .inl hcl
      · exact .inr (by simp [Gate.isOpen, Chip.released, hcl])
      · exact .inr (by simp [Gate.isOpen, Chip.released, hcl])
    refine ⟨_, exec_resetNRelease s hs h, ?_⟩
    rw [closed, Chip.finish_of_calm s.chip.released hset hup]
    exact ⟨State.changesOnly_of_chip _ s _ ((Chip.changesOnly_iff _ _ _).mpr (by simp [Chip.released])), rfl, rfl⟩
  · -- the gate opens on a GATED cycle
    have opened : s.chip.released.bus.gate = ⟨false, false, false⟩ := by
      simp [Chip.released, hstart, hwake]
    obtain ⟨u, hu, ht, hport⟩ := gateChanged_as_arrival s s.chip.released b hs hp hbs hd (by rw [opened]; rfl)
    refine ⟨_, u, exec_resetNRelease s hs h, ?_, ht, hport⟩
    have same : ({ s.chip.released with bus := { s.chip.released.bus with port := .idle } } : Chip)
        = { s.chip with
            pins := { s.chip.pins with resetAsserted := false }
            bus := { s.chip.bus with port := .idle, gate := ⟨false, false, false⟩ } } := by
      simp [Chip.released, hstart, hwake]
    rwa [same] at hu

end Sys2Proof.Machine
end

section
/-! Processor cycles: arrivals that are not decided, and decided cycles as they are served (R1–R10, R16, R88–R105). -/

namespace Sys2Proof.Machine

/-! ## Arrivals that are not decided -/

/-- With the gate closed an arrival is GATED, in every power state; in DORMANT, where the gate may stand open, the wake
that it starts closes the gate first (R3, R9, R187). -/
theorem Chip.cycleArrives_closed (c : Chip) (b : BusCycle) (hp : c.bus.port = .idle)
    (hb : (b.readStrobe || b.writeStrobe) = true) (h : c.supply.power = .dormant ∨ c.bus.gate.isOpen = false) :
    c.cycleArrives b = { c with
      pins := { c.pins with chipSelect := true }
      bus := { c.bus with
        port := .gated (captureCycle b)
        gate := if c.supply.power = .dormant then { c.bus.gate with waking := true } else c.bus.gate
        memPort := c.bus.memPort.unparked }
      supply :=
        if c.supply.power = .dormant then { c.supply with power := .waking, settling := true }
        else c.supply.afterArrival } := by
  unfold Chip.cycleArrives
  rw [hp]
  dsimp only
  rw [if_pos hb]
  by_cases hd : c.supply.power = .dormant
  · have wake : ({ c with pins.chipSelect := true } : Chip).arrivalReported
        = ({ c with pins.chipSelect := true } : Chip).startWake := by simp [Chip.arrivalReported, hd]
    rw [wake]
    unfold Chip.admitCycle
    rw [if_neg (by simp [Chip.startWake, Gate.isOpen]), Chip.unpark_eq, Chip.unpark_bus]
    simp [Chip.startWake, hd]
  · have closed : c.arrived.bus.gate.isOpen = false := h.resolve_left hd
    rw [c.arrivalReported_of_awake hd]
    unfold Chip.admitCycle
    rw [if_neg (by simp [closed]), Chip.unpark_eq, Chip.unpark_bus]
    simp [Chip.arrived, hd]

/-- An arrival that leaves a cycle at the port, and the parameters as they were, ends with the arbitration alone. -/
theorem exec_arrival (s : State) (b : BusCycle) (d : Chip) (hs : s.supplied = true) (hd : s.chip.cycleArrives b = d)
    (hp : d.params = s.chip.params) (hport : d.bus.port ≠ .idle) :
    exec (.processorCycleArrival b) s = .next { s with chip := { d with bus := s.chip.busAfter d.bus } } :=
  congrArg Host.Outcome.next (s.onChip_of_port _ d hs hd hp hport)

/-- Settles O25: the two arrivals that no decision is made on. -/
theorem undecidedArrivals : Obligations.UndecidedArrivals := by
  intro s b hs hset hp hb
  refine ⟨fun h => ?_, fun hd hg hlow hhigh => ?_⟩
  · refine ⟨_, exec_arrival s b _ hs (s.chip.cycleArrives_closed b hp hb h) rfl nofun, ?_, rfl, rfl, rfl⟩
    exact State.changesOnly_of_chip _ s _ ((Chip.changesOnly_iff _ _ _).mpr (by simp))
  · have done : s.chip.cycleArrives b = s.chip.arrived.completeCycle (captureCycle b) s.chip.params.fillValue := by
      rw [s.chip.cycleArrives_open b hp hb hd hg]
      unfold Chip.decideCycle
      rw [if_pos (by simp [CycleRecord.emptyLanes, captureCycle, hlow, hhigh])]
      rfl
    refine ⟨_, exec_arrival s b _ hs done rfl nofun, ?_, rfl, rfl, ?_⟩
    · exact State.changesOnly_of_chip _ s _
        ((Chip.changesOnly_iff _ _ _).mpr (by simp [Chip.completeCycle, Chip.arrived]))
    · dsimp only
      rw [Chip.busAfter_of_settled]
      · cases hw : b.writeStrobe <;> simp [Chip.completeCycle, Chip.arrived, captureCycle, hw]
      · exact hset

/-! ## Decided cycles -/

/-- An arrival with the gate open and a lane selected is decided and carried out at the arrived chip. -/
theorem Chip.cycleArrives_decided (c : Chip) (b : BusCycle) (hp : c.bus.port = .idle)
    (hb : (b.readStrobe || b.writeStrobe) = true) (hl : (b.lowLane || b.highLane) = true)
    (hd : c.supply.power ≠ .dormant) (hg : c.bus.gate.isOpen = true) :
    c.cycleArrives b = c.arrived.decideLanes (captureCycle b) := by
  rw [c.cycleArrives_open b hp hb hd hg]
  unfold Chip.decideCycle
  rw [if_neg]
  intro he
  obtain ⟨hlow, hhigh⟩ : b.lowLane = false ∧ b.highLane = false := by
    simpa [CycleRecord.emptyLanes, captureCycle] using he
  simp [hlow, hhigh] at hl

/-- Neither an arrival's pins nor the delay that it restarts have a part in the decision. -/
theorem Chip.arrived_decision (c : Chip) (y : CycleRecord) : c.arrived.decision y = c.decision y := rfl

/-- A decision that hands nothing over is only carried out (R88). -/
theorem Chip.decideLanes_of_served (c : Chip) (y : CycleRecord) (d : Decision) (hd : c.decision y = d)
    (hr : d.refusal = none) (ho : d.opens = false) :
    c.decideLanes y = (c.carryOut { y with decision := some d } d).unpark := by
  unfold Chip.decideLanes Chip.handOver
  dsimp only
  rw [hd, hr, ho]

/-- A refused cycle is handed to the refusal list, and then carried out (R88, R102). -/
theorem Chip.decideLanes_of_refused (c : Chip) (y : CycleRecord) (d : Decision) (reason : Reason)
    (hd : c.decision y = d) (hr : d.refusal = some reason) (ho : d.opens = false) :
    c.decideLanes y = ((c.refuse y reason d.resolution).carryOut { y with decision := some d } d).unpark := by
  unfold Chip.decideLanes Chip.handOver
  dsimp only
  rw [hd, hr, ho]

/-- The chip with a new state of the processor port and with parking ended. -/
def Chip.portTo (p : Port) (c : Chip) : Chip :=
  { c with bus := { c.bus with port := p, memPort := c.bus.memPort.unparked } }

/-- A READ that completes takes its data along (R8). -/
theorem Chip.completeCycle_unpark_read (c : Chip) (y : CycleRecord) (data : Word) (hd : y.direction = .read) :
    (c.completeCycle y data).unpark = c.portTo (.done y (some data)) := by
  rw [Chip.unpark_eq, Chip.unpark_bus]
  simp [Chip.completeCycle, Chip.portTo, hd]

/-- A WRITE that completes has no data (R8). -/
theorem Chip.completeCycle_unpark_write (c : Chip) (y : CycleRecord) (data : Word) (hd : y.direction = .write) :
    (c.completeCycle y data).unpark = c.portTo (.done y none) := by
  rw [Chip.unpark_eq, Chip.unpark_bus]
  simp [Chip.completeCycle, Chip.portTo, hd]

theorem Chip.holdCycle_unpark (c : Chip) (y : CycleRecord) (why : HoldReason) :
    (c.holdCycle y why).unpark = c.portTo (.held y why) := by
  rw [Chip.unpark_eq, Chip.unpark_bus]
  rfl

theorem Chip.askPort_unpark (c : Chip) (y : CycleRecord) :
    (c.askPort y).unpark = { c with bus := { c.bus with
      port := .held y .memoryPort, requestP := some y.transfer, memPort := c.bus.memPort.unparked } } := by
  rw [Chip.unpark_eq, Chip.unpark_bus]
  rfl

/-! ## Reads -/

/-- A READ is passed, read from the overlay, or filled (R89). -/
theorem Chip.readService_cases (c : Chip) (r : Resolution) :
    c.readService r = .pass ∨ c.readService r = .overlayRead ∨ c.readService r = .fill := by
  have trim : c.trimRead r = .pass ∨ c.trimRead r = .overlayRead := by
    unfold Chip.trimRead
    split
    · exact .inl rfl
    · split
      · exact .inr rfl
      · exact .inr rfl
      · split
        · exact .inr rfl
        · exact .inl rfl
      · exact .inl rfl
      · exact .inl rfl
  unfold Chip.readService
  split
  case h_5 => exact trim.imp_right .inl
  case h_6 =>
    split
    · exact .inl rfl
    · exact .inr (.inr rfl)
  case h_7 =>
    split
    · exact .inl rfl
    · exact .inr (.inr rfl)
  all_goals exact .inl rfl

/-- The decision on a READ, by its service: only a FILL is refused, HIDDEN (R89, R91). -/
theorem Chip.decideRead_cases (c : Chip) (r : Resolution) :
    c.decideRead r = ⟨.pass, none, none, false, r⟩ ∨ c.decideRead r = ⟨.overlayRead, none, none, false, r⟩
      ∨ c.decideRead r = ⟨.fill, some .hidden, none, false, r⟩ := by
  unfold Chip.decideRead
  rcases c.readService_cases r with h | h | h <;> simp [h]

/-- The refusal list and the notice word once a refusal is listed (R104, R105). -/
theorem Chip.listed_eq (c : Chip) (y : CycleRecord) (reason : Reason) (r : Resolution) :
    c.listed y reason r = { c with
      adu := { c.adu with refusals := (recordRefusal c.adu.refusals (c.refusalEntry y reason r)).1 }
      link := { c.link with notices :=
        if c.adu.refusals = [] then c.link.notices ||| 0x0020#16 else c.link.notices } } := by
  unfold Chip.listed
  simp only [List.isEmpty_iff]
  split <;> rfl

/-- A HIDDEN refusal never strikes (R102). -/
theorem Chip.refuse_hidden (c : Chip) (y : CycleRecord) (r : Resolution) :
    c.refuse y .hidden r = c.listed y .hidden r := by
  rw [Chip.refuse_eq, if_neg]
  simp [Reason.strikes]

/-- Settles O28: a READ's decision has one of three forms, and each is carried out in its way. -/
theorem readIsServedAsDecided : Obligations.ReadIsServedAsDecided := by
  intro s b hs _ hp hr hw hl hd hg y d y'
  have dir : y.direction = .read := by simp [y, captureCycle, hw]
  have arrives : s.chip.cycleArrives b = s.chip.arrived.decideLanes y :=
    s.chip.cycleArrives_decided b hp (by simp [hr]) hl hd hg
  have decision : d = s.chip.decideRead (s.chip.map.resolve y.address) := by
    change s.chip.decision y = _
    unfold Chip.decision
    rw [dir]
  rcases s.chip.decideRead_cases (s.chip.map.resolve y.address) with hc | hc | hc <;> rw [hc] at decision
  · -- PASS
    have served : s.chip.cycleArrives b = (s.chip.arrived.askPort y').unpark := by
      rw [arrives, s.chip.arrived.decideLanes_of_served y d rfl (by rw [decision]) (by rw [decision])]
      simp only [Chip.carryOut, y', decision]
    have transfer : y'.transfer = ⟨y.address, .read⟩ := by simp [CycleRecord.transfer, y', dir]
    rw [Chip.askPort_unpark, transfer] at served
    refine ⟨_, exec_arrival s b _ hs served rfl nofun, ?_, rfl, rfl, fun _ => ⟨rfl, rfl, rfl⟩, fun p h => ?_, fun h => ?_⟩
    · exact State.changesOnly_of_chip _ s _ ((Chip.changesOnly_iff _ _ _).mpr (by simp [Chip.arrived]))
    · rw [decision] at h; cases h
    · rw [decision] at h; cases h
  · -- OVERLAY READ
    have served : s.chip.cycleArrives b
        = (s.chip.arrived.completeCycle y' (s.chip.overlayValue d.resolution)).unpark := by
      rw [arrives, s.chip.arrived.decideLanes_of_served y d rfl (by rw [decision]) (by rw [decision])]
      simp only [Chip.carryOut, y', decision]
      rfl
    rw [Chip.completeCycle_unpark_read _ y' _ dir] at served
    refine ⟨_, exec_arrival s b _ hs served rfl nofun, ?_, rfl, rfl, fun h => ?_, fun p _ hpage => ⟨rfl, rfl, ?_⟩,
      fun h => ?_⟩
    · exact State.changesOnly_of_chip _ s _ ((Chip.changesOnly_iff _ _ _).mpr (by simp [Chip.arrived, Chip.portTo]))
    · rw [decision] at h; cases h
    · simp only [Chip.overlayValue, hpage]
      rfl
    · rw [decision] at h; cases h
  · -- FILL
    have served : s.chip.cycleArrives b
        = ((s.chip.arrived.listed y .hidden d.resolution).completeCycle y' s.chip.params.fillValue).unpark := by
      rw [arrives, s.chip.arrived.decideLanes_of_refused y d .hidden rfl (by rw [decision]) (by rw [decision]),
        Chip.refuse_hidden, Chip.listed_eq]
      simp only [Chip.carryOut, y', decision]
      rfl
    rw [Chip.completeCycle_unpark_read _ y' _ dir, Chip.listed_eq] at served
    refine ⟨_, exec_arrival s b _ hs served rfl nofun, ?_, rfl, rfl, fun h => ?_, fun p h => ?_, fun _ => ⟨?_, rfl, rfl⟩⟩
    · exact State.changesOnly_of_chip _ s _ ((Chip.changesOnly_iff _ _ _).mpr (by simp [Chip.arrived, Chip.portTo]))
    · rw [decision] at h; cases h
    · rw [decision] at h; cases h
    · simp only [Chip.portTo, Chip.refusalEntry, dir]
      rfl

end Sys2Proof.Machine
end

section
/-! Decided writes as they are served (R5, R6, R10, R72, R81, R92–R105, R115–R117). -/

namespace Sys2Proof.Machine

/-! ## The decision on a WRITE -/

/-- The decision on a WRITE is of one of five forms: passed, stored in the overlay by a grant that nothing refuses, held for
WINDOW OPENING with or without the announcement, or refused (R92–R101). -/
theorem Chip.decideWrite_cases (c : Chip) (r : Resolution) :
    (∃ e, c.decideWrite r = ⟨.drop, some e, none, false, r⟩)
    ∨ c.decideWrite r = ⟨.pass, none, none, false, r⟩
    ∨ (c.writeRefusal r = none ∧ c.decideWrite r
        = ⟨.overlayWrite (c.appliedLimit r), none, if c.pageIsLoading r then some .pageLoading else none, false, r⟩)
    ∨ c.decideWrite r = ⟨.pass, none, some .windowOpening, true, r⟩
    ∨ c.decideWrite r = ⟨.pass, none, some .windowOpening, false, r⟩ := by
  unfold Chip.decideWrite
  split
  · exact .inr (.inl rfl)
  · split
    · next e _ => exact .inl ⟨e, rfl⟩
    · next hr =>
      unfold Chip.servedWriteDecision
      split
      · exact .inr (.inr (.inl ⟨hr, rfl⟩))
      · split
        · exact .inr (.inr (.inr (.inl rfl)))
        · split
          · exact .inr (.inr (.inr (.inr rfl)))
          · exact .inr (.inl rfl)

/-- A WRITE that passes is held for WINDOW OPENING, with or without the announcement, or not held (R92, R97, R99). -/
theorem Chip.decideWrite_pass (c : Chip) (r : Resolution) (h : (c.decideWrite r).service = .pass) :
    c.decideWrite r = ⟨.pass, none, none, false, r⟩ ∨ c.decideWrite r = ⟨.pass, none, some .windowOpening, true, r⟩
      ∨ c.decideWrite r = ⟨.pass, none, some .windowOpening, false, r⟩ := by
  rcases c.decideWrite_cases r with ⟨e, he⟩ | he | ⟨_, he⟩ | he | he
  · rw [he] at h; cases h
  · exact .inl he
  · rw [he] at h; cases h
  · exact .inr (.inl he)
  · exact .inr (.inr he)

/-- A WRITE that the overlay stores has been refused by no check, and hands nothing over (R93, R101). -/
theorem Chip.decideWrite_overlay (c : Chip) (r : Resolution) (limit : Option LimitNo)
    (h : (c.decideWrite r).service = .overlayWrite limit) :
    c.writeRefusal r = none ∧ (c.decideWrite r).refusal = none ∧ (c.decideWrite r).opens = false
      ∧ (c.decideWrite r).resolution = r := by
  rcases c.decideWrite_cases r with ⟨e, he⟩ | he | ⟨hr, he⟩ | he | he
  · rw [he] at h; cases h
  · rw [he] at h; cases h
  · rw [he]; exact ⟨hr, rfl, rfl, rfl⟩
  · rw [he] at h; cases h
  · rw [he] at h; cases h

/-- A WRITE that needs a grant and that no check refuses is made under an ACTIVE grant, within its scope (R93). -/
theorem Chip.active_of_writeRefusal (c : Chip) (r : Resolution) (h : c.writeRefusal r = none) :
    c.grant.state = .active ∧ c.outOfScope r = false := by
  unfold Chip.writeRefusal at h
  split at h
  · cases h
  · split at h
    · cases h
    · next hstate =>
      split at h
      · cases h
      · split_ifs at h with _ scope _ _ suspended
        refine ⟨?_, by simpa using scope⟩
        cases hs : c.grant.state <;> simp_all

/-- Only a window's words have a page (R28). -/
theorem WindowMap.resolve_owner_of_page (m : WindowMap) (a : Addr) (p : PageNo) (h : (m.resolve a).page = some p) :
    ∃ w, (m.resolve a).owner = .window w := by
  unfold WindowMap.resolve at h ⊢
  dsimp only at h ⊢
  cases ho : m.ownerOf a with
  | window w =>
    rw [ho] at h
    dsimp only at h ⊢
    split
    · exact ⟨w, rfl⟩
    · exact ⟨w, rfl⟩
  | image => rw [ho] at h; cases h
  | record => rw [ho] at h; cases h
  | background => rw [ho] at h; cases h

/-- The first write to a window that is to be announced is held, and announces it (R97, R98). -/
theorem Chip.decideWrite_firstReflash (c : Chip) (r : Resolution) (w : Win)
    (hcls : r.cls = .site .calibration ∨ r.cls = .site .identity ∨ r.cls = .site .keys) (how : r.owner = .window w)
    (hr : c.writeRefusal r = none) (hw : hasWin c.grant.record.rewritten w = false) :
    c.decideWrite r = ⟨.pass, none, some .windowOpening, true, r⟩ := by
  have announced : announcedClass r.cls = true := by rcases hcls with h | h | h <;> rw [h] <;> rfl
  have first : c.firstReflash r = true := by simp [Chip.firstReflash, how, announced, hw]
  have notOpen : r.cls ≠ .site .openWindow := by rcases hcls with h | h | h <;> rw [h] <;> decide
  have notTrim : r.cls ≠ .site .trim := by rcases hcls with h | h | h <;> rw [h] <;> decide
  unfold Chip.decideWrite Chip.servedWriteDecision
  rw [if_neg notOpen, hr]
  dsimp only
  rw [if_neg notTrim, if_pos first]

/-! ## The lanes of a WRITE -/

theorem highByte_append (high low : Byte) : highByte (high ++ low) = high := by
  ext i hi
  have h := BitVec.getLsbD_append (x := high) (y := low) (i := 8 + i)
  simpa [highByte, hi] using h

/-- The captured data of a WRITE, and nothing else, lies over the page word on the selected lanes (R1, R116). -/
theorem captureCycle_merge (b : BusCycle) (d : Option Decision) (v : Word) (hw : b.writeStrobe = true) :
    ({ captureCycle b with decision := d } : CycleRecord).merge v
      = (if b.highLane then highByte b.data else highByte v) ++ (if b.lowLane then lowByte b.data else lowByte v) := by
  unfold CycleRecord.merge captureCycle capturedData
  dsimp only
  rw [highByte_append, lowByte_append]
  cases b.highLane <;> cases b.lowLane <;> simp [hw]

/-! ## Strikes that do not begin lockout -/

/-- A strike that does not take the count to the threshold only counts (R81, R83). -/
theorem Chip.strike_of_not_threshold (c : Chip) (h : c.grant.strikes + 1 ≠ c.params.lockoutThreshold) :
    c.strike = c.struck := by
  rw [Chip.strike_eq, if_neg]
  rw [Bool.and_eq_true, Bool.not_eq_true']
  rintro ⟨before, after⟩
  have below : ¬ c.params.lockoutThreshold ≤ c.grant.strikes := of_decide_eq_false before
  have reached : c.params.lockoutThreshold ≤ min (c.grant.strikes + 1) 15 := of_decide_eq_true after
  omega

/-- The reasons that strike (R102). -/
theorem Reason.strikes_iff (e : Reason) : e.strikes = true ↔ e ∈ [Reason.noGrant, .scope, .level, .cls, .frozen] := by
  cases e <;> decide

/-! ## The overlay -/

/-- The page word that an OVERLAY WRITE stores, and the pages beside it (R116, R117). -/
theorem Chip.setPage_writtenWord (c : Chip) (y : CycleRecord) (limit : Option LimitNo) (p : PageNo) (n : Nat) :
    let pages := (c.setPage p (c.overlay.pages[p].setWord n
      (c.writtenWord y limit (c.overlay.pages[p].word n)))).overlay.pages
    (pages[p].word n = c.writtenWord y limit (c.overlay.pages[p].word n))
    ∧ (∀ (q : PageNo) (m : Nat), (q, m) ≠ (p, n) → pages[q].word m = c.overlay.pages[q].word m)
    ∧ ∀ q : PageNo, pages[q].state = c.overlay.pages[q].state := by
  have dirty : c.writtenWord y limit (c.overlay.pages[p].word n) ≠ PageWord.cleared := fun h =>
    absurd (congrArg PageWord.dirty h) (by simp [Chip.writtenWord, PageWord.cleared])
  refine ⟨?_, fun q m hq => ?_, fun q => ?_⟩
  · rw [Chip.setPage_get_self, Page.word_setWord_self _ _ _ dirty]
  · by_cases hqp : q = p
    · subst hqp
      rw [Chip.setPage_get_self, Page.word_setWord_ne _ _ _ _ fun h => hq (by rw [h])]
    · rw [Chip.setPage_get_ne _ _ _ _ hqp]
  · by_cases hqp : q = p
    · subst hqp
      rw [Chip.setPage_get_self, Page.setWord_state]
    · rw [Chip.setPage_get_ne _ _ _ _ hqp]

/-- An OVERLAY WRITE under an ACTIVE grant with the window in its scope, served whole (R6, R8, R72). -/
theorem Chip.serveOverlayWrite_active (c : Chip) (y : CycleRecord) (limit : Option LimitNo) (r : Resolution) (p : PageNo)
    (w : Win) (hd : y.direction = .write) (hp : r.page = some p) (how : r.owner = .window w)
    (hs : c.grant.state = .active) (hw : hasWin c.grant.record.scope w = true) :
    let old := c.overlay.pages[p].word r.pageWord
    let x := y.merge old.value
    let stored := c.storedWord limit x old
    (c.serveOverlayWrite y limit r).unpark =
      { c.setPage p (c.overlay.pages[p].setWord r.pageWord (c.writtenWord y limit old)) with
        bus := { c.bus with port := .done y none, memPort := c.bus.memPort.unparked }
        grant := { c.grant with record := { c.grant.record with
          idleRemaining := 15 * 2 ^ c.grant.record.idleChoice
          clamped :=
            if stored ≠ x ∧ c.grant.record.clamped < 65535 then c.grant.record.clamped + 1
            else c.grant.record.clamped } } } := by
  intro old x stored
  have clamps : (if stored = x then c.grant.record.clamped else satInc c.grant.record.clamped)
      = if stored ≠ x ∧ c.grant.record.clamped < 65535 then c.grant.record.clamped + 1
        else c.grant.record.clamped := by
    by_cases hx : stored = x
    · simp [hx]
    · simp [hx, satInc]
  unfold Chip.serveOverlayWrite
  rw [hp, how]
  dsimp only
  rw [Chip.reportServed_of_scope _ w (.inl (by rw [Chip.completeCycle_grant, Chip.storeOverlay_eq]; exact hs))
    (by rw [Chip.completeCycle_grant, Chip.storeOverlay_eq]; exact hw), Chip.unpark_eq, Chip.unpark_bus]
  rw [Chip.storeOverlay_eq]
  simp only [Chip.completeCycle, hd]
  rw [← clamps]
  rfl

/-! ## WriteIsServedAsDecided, by the form of the decision -/

/-- A first reflash write joins its window to the rewritten-window set as ANNOUNCING and asks for its WINDOW_OPENED (R98). -/
theorem Chip.openWindow_eq (c : Chip) (w : Win) :
    c.openWindow w = { c with
      grant := { c.grant with record := { c.grant.record with
        rewritten := c.grant.record.rewritten ||| (1#24 <<< w.val) } }
      adu := { c.adu with announcements := c.adu.announcements.set w (some .announcing) }
      engine := c.engine.asked
        ⟨.windowOpened w c.grant.record.workshop c.scanner.references[w], .adu, false, 0⟩ } := by
  unfold Chip.openWindow Chip.append
  rw [Chip.requestAppend_asked]
  rfl

/-- A first reflash write is announced and held for WINDOW OPENING (R88, R98). -/
theorem Chip.decideLanes_of_opening (c : Chip) (y : CycleRecord) (r : Resolution) (w : Win)
    (hd : c.decision y = ⟨.pass, none, some .windowOpening, true, r⟩) (how : r.owner = .window w) :
    c.decideLanes y = (c.openWindow w).portTo
      (.held { y with decision := some ⟨.pass, none, some .windowOpening, true, r⟩ } .windowOpening) := by
  unfold Chip.decideLanes Chip.handOver
  dsimp only
  rw [hd]
  dsimp only
  rw [how]
  exact Chip.holdCycle_unpark _ _ _

/-- A refused WRITE below the lockout threshold: it is listed, and counts a strike where its entry is new and its reason
strikes (R81, R102, R104). -/
theorem Chip.refuse_of_not_threshold (c : Chip) (y : CycleRecord) (e : Reason) (r : Resolution)
    (h : (recordRefusal c.adu.refusals (c.refusalEntry y e r)).2 = true
        ∧ e ∈ [Reason.noGrant, .scope, .level, .cls, .frozen] →
      c.grant.strikes + 1 ≠ c.params.lockoutThreshold) :
    c.refuse y e r = { c.listed y e r with grant :=
      if (recordRefusal c.adu.refusals (c.refusalEntry y e r)).2 = true
          ∧ e ∈ [Reason.noGrant, .scope, .level, .cls, .frozen] then
        { c.grant with strikes := min (c.grant.strikes + 1) 15, decay := 0 }
      else c.grant } := by
  have striking : ((recordRefusal c.adu.refusals (c.refusalEntry y e r)).2 && e.strikes) = true
      ↔ (recordRefusal c.adu.refusals (c.refusalEntry y e r)).2 = true
        ∧ e ∈ [Reason.noGrant, .scope, .level, .cls, .frozen] := by
    rw [Bool.and_eq_true, Reason.strikes_iff]
  rw [Chip.refuse_eq]
  by_cases hst : (recordRefusal c.adu.refusals (c.refusalEntry y e r)).2 = true
      ∧ e ∈ [Reason.noGrant, .scope, .level, .cls, .frozen]
  · rw [if_pos (striking.mpr hst), if_pos hst, Chip.strike_of_not_threshold _ (by rw [Chip.listed_eq]; exact h hst),
      Chip.listed_eq]
    rfl
  · rw [if_neg fun hs => hst (striking.mp hs), if_neg hst, Chip.listed_eq]

/-- Settles O29, one clause for each form of the decision. -/
theorem writeIsServedAsDecided : Obligations.WriteIsServedAsDecided := by
  intro s b hs _ hp hw hl hd hg y r d y' g arrived portTo
  have dir : y.direction = .write := by simp [y, captureCycle, hw]
  have arrives : s.chip.cycleArrives b = s.chip.arrived.decideLanes y :=
    s.chip.cycleArrives_decided b hp (by simp [hw]) hl hd hg
  have decision : d = s.chip.decideWrite r := by
    change s.chip.decision y = _
    unfold Chip.decision
    rw [dir]
  have overlaid := s.chip.decideWrite_overlay r
  have passed := s.chip.decideWrite_pass r
  rw [← decision] at overlaid passed
  -- a decision that hands nothing over
  have served (hr : d.refusal = none) (ho : d.opens = false) :
      s.chip.cycleArrives b = (s.chip.arrived.carryOut y' d).unpark := by
    rw [arrives, s.chip.arrived.decideLanes_of_served y d rfl hr ho]
  refine ⟨fun hpass hhold => ?_, fun limit p hsv hhold hpage => ?_, fun limit hsv hhold => ?_,
    fun hpass hhold hopens => ?_, fun e hdrop => ?_, fun w hcls how hr hrw => ?_⟩
  · -- PASS
    have form : d = ⟨.pass, none, none, false, r⟩ := by
      rcases passed hpass with h | h | h
      · exact h
      · rw [h] at hhold; cases hhold
      · rw [h] at hhold; cases hhold
    have asks : s.chip.cycleArrives b = (s.chip.arrived.askPort y').unpark := by
      rw [served (by rw [form]) (by rw [form])]
      simp only [Chip.carryOut, form]
    rw [Chip.askPort_unpark] at asks
    refine ⟨_, exec_arrival s b _ hs asks rfl nofun, ?_, ⟨rfl, rfl⟩, ?_⟩
    · exact State.changesOnly_of_chip _ s _ ((Chip.changesOnly_iff _ _ _).mpr (by simp [Chip.arrived]))
    · simp only [CycleRecord.transfer, y', dir]
      simp [y, captureCycle, capturedData, hw, Chip.arrived]
  · -- OVERLAY WRITE
    intro old x stored
    obtain ⟨unrefused, refusal, opens, resolution⟩ := overlaid limit hsv
    obtain ⟨active, scope⟩ := s.chip.active_of_writeRefusal r unrefused
    obtain ⟨w, how⟩ := s.chip.map.resolve_owner_of_page y.address p hpage
    have inScope : hasWin g.scope w = true := by simpa [Chip.outOfScope, r, how] using scope
    have stores : s.chip.cycleArrives b = (s.chip.arrived.serveOverlayWrite y' limit r).unpark := by
      rw [served refusal opens]
      simp only [Chip.carryOut, hsv, hhold, resolution]
    rw [s.chip.arrived.serveOverlayWrite_active y' limit r p w dir hpage how active inScope] at stores
    have merged : y'.merge old.value = x := captureCycle_merge b (some d) old.value hw
    have asStored : s.chip.storedWord limit x old = stored := by
      cases limit <;> rfl
    have written : s.chip.writtenWord y' limit old = ⟨stored, old.baseline, old.loaded, true, stored != x⟩ := by
      rw [Chip.writtenWord, merged, asStored]
    obtain ⟨here, elsewhere, states⟩ := s.chip.setPage_writtenWord y' limit p r.pageWord
    refine ⟨_, exec_arrival s b _ hs stores rfl nofun, ?_, ⟨rfl, rfl⟩, rfl, here.trans written, elsewhere, states, rfl, ?_⟩
    · exact State.changesOnly_of_chip _ s _ ((Chip.changesOnly_iff _ _ _).mpr (by simp [Chip.arrived, Chip.setPage]))
    · dsimp only
      rw [show y'.merge (s.chip.arrived.overlay.pages[p].word r.pageWord).value = x from merged]
      exact asStored ▸ rfl
  · -- held for PAGE LOADING
    obtain ⟨_, refusal, opens, _⟩ := overlaid limit hsv
    have holds : s.chip.cycleArrives b = (s.chip.arrived.holdCycle y' .pageLoading).unpark := by
      rw [served refusal opens]
      simp only [Chip.carryOut, hsv, hhold]
    rw [Chip.holdCycle_unpark] at holds
    refine ⟨_, exec_arrival s b _ hs holds rfl nofun, ?_, ⟨rfl, rfl⟩, rfl⟩
    exact State.changesOnly_of_chip _ s _ ((Chip.changesOnly_iff _ _ _).mpr (by simp [Chip.arrived, Chip.portTo]))
  · -- held for WINDOW OPENING
    have form : d = ⟨.pass, none, some .windowOpening, false, r⟩ := by
      rcases passed hpass with h | h | h
      · rw [h] at hhold; cases hhold
      · rw [h] at hopens; cases hopens
      · exact h
    have holds : s.chip.cycleArrives b = (s.chip.arrived.holdCycle y' .windowOpening).unpark := by
      rw [served (by rw [form]) hopens]
      simp only [Chip.carryOut, hpass, hhold]
    rw [Chip.holdCycle_unpark] at holds
    refine ⟨_, exec_arrival s b _ hs holds rfl nofun, ?_, ⟨rfl, rfl⟩, rfl⟩
    exact State.changesOnly_of_chip _ s _ ((Chip.changesOnly_iff _ _ _).mpr (by simp [Chip.arrived, Chip.portTo]))
  · -- DROP
    intro recorded strikes hthreshold
    have entry : s.chip.arrived.refusalEntry y e r
        = ⟨r.owner, .write, e, y.address, 1, if s.chip.grant.state = .idle then none else g.level⟩ := by
      rw [← dir]
      rfl
    have drops : s.chip.cycleArrives b = ((s.chip.arrived.refuse y e r).completeCycle y' 0#16).unpark := by
      rw [arrives, s.chip.arrived.decideLanes_of_refused y d e rfl (by rw [hdrop]) (by rw [hdrop])]
      simp only [Chip.carryOut, hdrop, y']
    rw [Chip.completeCycle_unpark_write _ y' _ dir,
      s.chip.arrived.refuse_of_not_threshold y e r (by rw [entry]; exact hthreshold), Chip.listed_eq, entry] at drops
    refine ⟨_, exec_arrival s b _ hs drops rfl nofun, ?_, ⟨rfl, rfl⟩, rfl, rfl, rfl, rfl⟩
    exact State.changesOnly_of_chip _ s _ ((Chip.changesOnly_iff _ _ _).mpr (by simp [Chip.arrived, Chip.portTo]))
  · -- the first reflash write
    have opening : d = ⟨.pass, none, some .windowOpening, true, r⟩ :=
      decision.trans (s.chip.decideWrite_firstReflash r w hcls how hr hrw)
    have opens := arrives.trans (s.chip.arrived.decideLanes_of_opening y r w opening how)
    rw [Chip.openWindow_eq] at opens
    refine ⟨_, exec_arrival s b _ hs opens rfl nofun, ?_, ⟨rfl, rfl⟩, rfl, rfl, rfl, rfl⟩
    exact State.changesOnly_of_chip _ s _ ((Chip.changesOnly_iff _ _ _).mpr (by simp [Chip.arrived, Chip.portTo]))

end Sys2Proof.Machine
end

section
/-! The loss and the rise of the supply, and the outputs that follow the state (R21, R138, R177, R178, R190, R199). -/

namespace Sys2Proof.Machine

/-! ## Memory at a loss of supply (R21, R138) -/

theorem highByte_append_lowByte (w : Word) : highByte w ++ lowByte w = w := by
  rw [highByte, lowByte, BitVec.extractLsb'_append_extractLsb'_eq_extractLsb' (start₂ := 8) rfl]
  exact BitVec.extractLsb'_eq_self

/-- A write of lanes leaves every other byte alone, in whatever form the memory is. -/
theorem Memory.readByte_writeLanes_of_not_writesTo (m : Memory) (a c : Addr) (lo hi : Bool) (w v : Word)
    (h : ¬ Transfer.writesTo ⟨a, .write lo hi v⟩ c) : (m.writeLanes a lo hi w).readByte c = m.readByte c := by
  obtain ⟨low, high⟩ := not_or.mp h
  unfold Memory.writeLanes
  dsimp only
  have even : (if lo = true then m.writeByte (wordAddress a) (lowByte w) else m).readByte c = m.readByte c := by
    split
    · next hlo => exact m.readByte_writeByte_ne _ _ _ fun hc => low ⟨hlo, hc⟩
    · rfl
  split
  · next hhi => rw [Memory.readByte_writeByte_ne _ _ _ _ fun hc => high ⟨hhi, hc⟩, even]
  · exact even

/-- A transfer cut off with the supply leaves alone the bytes that it does not write. -/
theorem Memory.readByte_cutOff_of_not_writesTo (m : Memory) (tr : Transfer) (kept : Word) (a : Addr)
    (h : ¬ tr.writesTo a) : (m.cutOff tr kept).readByte a = m.readByte a := by
  unfold Memory.cutOff
  obtain ⟨address, action⟩ := tr
  cases action with
  | read => rfl
  | write lo hi w => exact m.readByte_writeLanes_of_not_writesTo address a lo hi kept w h

/-- The bytes that a cut-off write of a whole word leaves at its address. -/
theorem Memory.readByte_cutOff_write (m : Memory) (a : Addr) (w kept : Word) (hwf : m.wf = true) :
    (m.cutOff ⟨a, .write true true w⟩ kept).readByte (wordAddress a) = lowByte kept
    ∧ (m.cutOff ⟨a, .write true true w⟩ kept).readByte (oddByte a) = highByte kept := by
  unfold Memory.cutOff
  dsimp only
  rw [Memory.readByte_writeLanes m _ _ _ _ _ hwf, Memory.readByte_writeLanes m _ _ _ _ _ hwf]
  simp [(oddByte_ne_wordAddress a).symm]

/-- A cut-off write of a whole word leaves the word that the devices kept. -/
theorem Memory.readWord_cutOff_write (m : Memory) (a : Addr) (w kept : Word) (hwf : m.wf = true) :
    (m.cutOff ⟨a, .write true true w⟩ kept).readWord a = kept := by
  obtain ⟨low, high⟩ := m.readByte_cutOff_write a w kept hwf
  rw [Memory.readWord, low, high, highByte_append_lowByte]

/-- The loss of the supply during a transfer cuts it off. -/
theorem State.loseSupply_memory_of_busy (s : State) (who : Requester) (tr : Transfer) (live : Bool)
    (hs : s.supplied = true) (hm : s.chip.bus.memPort = .busy who tr live) :
    s.loseSupply.memory = s.memory.cutOff tr (s.chip.keptWord who) := by
  unfold State.loseSupply
  rw [hs, hm]

/-- The loss of the supply leaves alone every byte but those of a write in flight. -/
theorem State.loseSupply_readByte (s : State) (a : Addr)
    (h : ∀ who tr live, s.supplied = true → s.chip.bus.memPort = .busy who tr live → ¬ tr.writesTo a) :
    s.loseSupply.memory.readByte a = s.memory.readByte a := by
  unfold State.loseSupply
  split
  · next hs hm => exact Memory.readByte_cutOff_of_not_writesTo _ _ _ _ (h _ _ _ hs hm)
  · rfl

/-- A record write in flight at the loss of the supply: the last write leaves its word whole or a kind code that is VOID,
and the first of 17 a kind code that is VOID (R138, R158). -/
theorem State.loseSupply_slot (s : State) (q : AppendRequest) (taken : Option Taken) (ws : List (Addr × Word))
    (slot : Addr) (w : Word) (live : Bool) (hwf : s.memoryWf) (hs : s.supplied = true)
    (hp : s.chip.engine.progress = some ⟨q, taken, .slot ws⟩)
    (hm : s.chip.bus.memPort = .busy .R ⟨slot, .write true true w⟩ live) :
    (ws = [(slot, w)] →
      s.loseSupply.memory.readWord slot = w ∨ s.loseSupply.memory.readByte (wordAddress slot) = 0#8)
    ∧ (ws.length = 17 → s.loseSupply.memory.readByte (wordAddress slot) = 0#8) := by
  obtain ⟨low, _⟩ := s.memory.readByte_cutOff_write slot w (s.chip.keptWord .R) hwf
  rw [s.loseSupply_memory_of_busy .R _ live hs hm, s.memory.readWord_cutOff_write slot w _ hwf, low]
  refine ⟨fun hws => ?_, fun hn => s.chip.keptWord_first q taken ws hp hn⟩
  subst hws
  exact s.chip.keptWord_last q taken slot w hp

/-! ## The fuse read (R35, R178) -/

/-- Faults added to the load-fault set; the first of a start-up sets LOAD_FAULT (R35). -/
theorem Chip.addFaults_eq (c : Chip) (fs : List (LoadItem × FaultKind)) :
    c.addFaults fs = { c with
      map := { c.map with loadFaults := c.map.loadFaults ++ fs }
      link := { c.link with notices :=
        if c.map.loadFaults = [] ∧ fs ≠ [] then noticeSet c.link.notices .loadFault else c.link.notices } } := by
  induction fs generalizing c with
  | nil => simp [Chip.addFaults]
  | cons f fs ih =>
    have step : c.addFaults (f :: fs) = (c.addFault f).addFaults fs := rfl
    rw [step, ih]
    unfold Chip.addFault
    by_cases h : c.map.loadFaults = []
    · simp [h, Chip.notify]
    · simp [h]

theorem Chip.addFaults_append (c : Chip) (fs gs : List (LoadItem × FaultKind)) :
    c.addFaults (fs ++ gs) = (c.addFaults fs).addFaults gs :=
  List.foldl_append

/-- The settle time has no part in the load-fault set. -/
theorem Chip.addFaults_settleMs (c : Chip) (fs : List (LoadItem × FaultKind)) (ms : Nat) :
    ({ c.addFaults fs with supply.settleMs := ms } : Chip)
      = ({ c with supply.settleMs := ms } : Chip).addFaults fs := by
  rw [Chip.addFaults_eq, Chip.addFaults_eq]

/-- The settle times: 1 ms doubled by the choice, up to choice 4 (R178). -/
theorem settleTime_eq (choice : Byte) :
    settleTime choice = if choice.toNat ≤ 4 then some (2 ^ choice.toNat) else none := by
  unfold settleTime
  split <;> simp_all
  omega

/-- The fault of a settle choice that is out of range (R178). -/
def settleFaults (choice : Byte) : List (LoadItem × FaultKind) :=
  if choice.toNat ≤ 4 then [] else [(.settleChoice, .range)]

/-- The settle time is taken, and a choice that is out of range is a fault (R178). -/
theorem Chip.takeSettleChoice_eq (c : Chip) (choice : Byte) :
    c.takeSettleChoice choice = ({ c with supply.settleMs :=
      if choice.toNat ≤ 4 then 2 ^ choice.toNat else 16 } : Chip).addFaults (settleFaults choice) := by
  unfold Chip.takeSettleChoice settleFaults
  rw [settleTime_eq]
  by_cases h : choice.toNat ≤ 4
  · rw [if_pos h, if_pos h, if_pos h]
    rfl
  · rw [if_neg h, if_neg h, if_neg h]
    rfl

/-- The image base that the fuse block gives (R178). -/
def fuseBase (f : FuseBlock) : Addr := f.imageBase.extractLsb' 0 12 ++ 0#12

/-- The descriptors once the anchors have been read: the other windows are as after power-on (R31, R178). -/
def fuseDescriptors (f : FuseBlock) : Vector Descriptor 24 :=
  Vector.ofFn fun w : Win =>
    if h : w.val < 4 then checkDescriptor f.anchors[w.val] else WindowMap.powerOn.descriptors[w]

/-- The faults that the fuse read finds: those of the anchors, and that of the settle choice. -/
def fuseFaults (f : FuseBlock) : List (LoadItem × FaultKind) :=
  descriptorFaults (fuseDescriptors f) (fun w => decide (w.val < 4)) ++ settleFaults f.settleChoice

theorem mem_fuseFaults (f : FuseBlock) (item : LoadItem) (k : FaultKind) :
    (item, k) ∈ fuseFaults f ↔
      (∃ (w : Win) (h : w.val < 4), item = .descriptor w ∧ (checkDescriptor f.anchors[w.val]).fault = some k)
      ∨ (4 < f.settleChoice.toNat ∧ item = .settleChoice ∧ k = .range) := by
  unfold fuseFaults
  rw [List.mem_append]
  refine or_congr ?_ ?_
  · unfold descriptorFaults fuseDescriptors
    rw [List.mem_filterMap]
    constructor
    · rintro ⟨w, _, hw⟩
      by_cases h : w.val < 4
      · obtain ⟨hk, rfl⟩ : (checkDescriptor f.anchors[w.val]).fault = some k ∧ LoadItem.descriptor w = item := by
          simpa [h] using hw
        exact ⟨w, h, rfl, hk⟩
      · simp [h] at hw
    · rintro ⟨w, h, rfl, hk⟩
      exact ⟨w, List.mem_finRange w, by simp [h, hk]⟩
  · unfold settleFaults
    by_cases h : f.settleChoice.toNat ≤ 4
    · simp [h, Nat.not_lt.mpr h]
    · simp [h, Nat.lt_of_not_le h]

/-- The chip after the fuse read of a part that has just been reset (R178, R190). -/
def Chip.fused (pins : Pins) (draws : Nat) (f : FuseBlock) : Chip :=
  { Chip.powerOn pins draws with
    bus := { BusPath.powerOn pins.resetAsserted with requestR := some ⟨fuseBase f, .read⟩ }
    map := { WindowMap.powerOn with
      descriptors := fuseDescriptors f, imageBase := some (fuseBase f), loadFaults := fuseFaults f }
    supply := { Supply.powerOn with
      settleMs := if f.settleChoice.toNat ≤ 4 then 2 ^ f.settleChoice.toNat else 16
      startUp := { StartUp.powerOn with phase := .image [] } }
    link := { Link.powerOn with notices := if fuseFaults f = [] then 0#16 else 0x0100#16 } }

/-- The faults of a part that has just been reset, with LOAD_FAULT set for them (R35). -/
theorem Chip.powerOn_addFaults (pins : Pins) (draws ms : Nat) (ds : Vector Descriptor 24) (base : Addr)
    (fs : List (LoadItem × FaultKind)) :
    ({ Chip.powerOn pins draws with
        map.descriptors := ds, map.imageBase := some base, supply.settleMs := ms } : Chip).addFaults fs =
      { Chip.powerOn pins draws with
        map := { WindowMap.powerOn with descriptors := ds, imageBase := some base, loadFaults := fs }
        supply := { Supply.powerOn with settleMs := ms }
        link := { Link.powerOn with notices := if fs = [] then 0#16 else 0x0100#16 } } := by
  have notices : (if WindowMap.powerOn.loadFaults = [] ∧ fs ≠ [] then noticeSet Link.powerOn.notices .loadFault
      else Link.powerOn.notices) = if fs = [] then 0#16 else 0x0100#16 := by
    by_cases h : fs = []
    · simp [h, Link.powerOn]
    · simp [h, Link.powerOn, WindowMap.powerOn, noticeSet, Notice.bit]
  rw [Chip.addFaults_eq, ← notices]
  rfl

/-- The anchors and the settle choice, taken together. -/
theorem Chip.takeFuses_powerOn (pins : Pins) (draws : Nat) (f : FuseBlock) :
    ((Chip.powerOn pins draws).loadAnchors f).takeSettleChoice f.settleChoice =
      ({ Chip.powerOn pins draws with
          map.descriptors := fuseDescriptors f
          map.imageBase := some (fuseBase f)
          supply.settleMs := if f.settleChoice.toNat ≤ 4 then 2 ^ f.settleChoice.toNat else 16 } : Chip).addFaults
        (fuseFaults f) := by
  unfold Chip.loadAnchors
  rw [Chip.takeSettleChoice_eq, Chip.addFaults_settleMs, ← Chip.addFaults_append]
  rfl

/-- The fuse read of a part that has just been reset: the first read is of the word at the image base (R178, R179). -/
theorem Chip.fuseRead_powerOn (pins : Pins) (draws : Nat) (f : FuseBlock) :
    (Chip.powerOn pins draws).fuseRead f = Chip.fused pins draws f := by
  have base : fuseBase f + BitVec.ofNat 24 (imageWordOffset 0) = fuseBase f := BitVec.add_zero _
  have read : (Chip.powerOn pins draws).fuseRead f = { Chip.fused pins draws f with
      bus := { BusPath.powerOn pins.resetAsserted with
        requestR := some ⟨fuseBase f + BitVec.ofNat 24 (imageWordOffset 0), .read⟩ } } := by
    unfold Chip.fuseRead
    rw [Chip.takeFuses_powerOn, Chip.powerOn_addFaults]
    rfl
  rw [read, base]
  rfl

/-- The rise of the supply leaves the fused chip with its first read in flight (R15, R178). -/
theorem Chip.fused_finish (pins : Pins) (draws : Nat) (f : FuseBlock) :
    (Chip.fused pins draws f).finish = { Chip.fused pins draws f with
      bus := { BusPath.powerOn pins.resetAsserted with memPort := .busy .R ⟨fuseBase f, .read⟩ true, burst := 1 } } := by
  rw [Chip.finish_of_staysUp _ fun h => by cases h]
  rfl

/-! ## The outputs (R177, R199) -/

theorem PowerState.holds_iff (p : PowerState) : p.holds = true ↔ p = .start ∨ p = .afterRun ∨ p = .waking := by
  cases p <;> decide

/-- HOLD_PWR by its conditions (R177). -/
theorem Chip.holdPwr_iff (c : Chip) :
    c.holdPwr = true ↔ c.supply.power = .start ∨ c.supply.power = .afterRun ∨ c.supply.power = .waking
      ∨ c.engine.waiting ≠ [] ∨ c.engine.queue ≠ [] ∨ c.engine.progress ≠ none ∨ c.engine.commit ≠ none
      ∨ c.grant.state = .ending ∨ c.scanner.rebase ≠ none := by
  simp [Chip.holdPwr, Chip.workInFlight, Chip.appendInFlight, Chip.commitInFlight, Chip.endingInFlight,
    Chip.rebaseInFlight, PowerState.holds_iff, Option.isSome_iff_ne_none, or_assoc]

/-! ## SupplyLossAndRise -/

/-- Without supply a command changes at most the levels on the pins (R190). -/
theorem exec_of_unsupplied (i : Instr) (s : State) (hs : s.supplied = false) (hrise : i ≠ .powerOnReset)
    (hloss : i ≠ .supplyLoss) : ∃ t, exec i s = .next t ∧ s.changesOnly [.pins] t := by
  rcases exec_cases i s with ⟨f, _, he⟩ | ⟨returned, _, he⟩ | ⟨hi, _⟩ | ⟨hi, _⟩
  · rw [State.onPin_of_unsupplied _ f s hs] at he
    exact ⟨_, he, State.changesOnly_of_chip _ s _ ((Chip.changesOnly_iff _ _ _).mpr (by simp))⟩
  · rw [s.transferComplete_of_not_busy returned fun h => by rw [hs] at h; cases h] at he
    exact ⟨s, he, State.changesOnly_of_chip _ s s.chip ((Chip.changesOnly_iff _ _ _).mpr (by simp))⟩
  · exact absurd hi hloss
  · exact absurd hi hrise

/-- Settles O53: the memory at the loss, the fused chip at the rise, the pins of a part without supply, and the two
outputs. -/
theorem supplyLossAndRise : Obligations.SupplyLossAndRise := by
  intro s kept
  have keeps : kept s.loseSupply.memory :=
    ⟨s.loseSupply_readByte, fun q taken ws slot w live => s.loseSupply_slot q taken ws slot w live⟩
  have raised : s.loseSupply.raiseSupply.chip = (Chip.fused s.chip.pins s.loseSupply.chip.draws s.fuse).finish := by
    have pins : s.loseSupply.chip.pins = s.chip.pins := (congrArg Chip.pins s.loseSupply_chip).trans rfl
    unfold State.raiseSupply
    rw [Chip.fuseRead_powerOn, pins, State.loseSupply_fuse]
  rw [Chip.fused_finish] at raised
  refine ⟨⟨_, rfl, s.loseSupply_frame.1, s.loseSupply_frame.2.1, s.loseSupply_frame.2.2.1, s.loseSupply_chip, keeps⟩,
    ⟨s.loseSupply.raiseSupply, rfl, s.loseSupply_pending, rfl, s.loseSupply_fuse, ?_⟩,
    fun i hs hrise hloss => exec_of_unsupplied i s hs hrise hloss, ?_, ?_⟩
  · rw [raised]
    exact ⟨rfl, rfl, rfl, rfl, rfl, rfl, rfl, rfl, rfl, rfl, rfl, rfl, rfl, rfl, mem_fuseFaults s.fuse, rfl, keeps⟩
  · rw [State.holdPwr, Bool.and_eq_true, Chip.holdPwr_iff]
  · simp [State.attention, Chip.attention]

end Sys2Proof.Machine
end

section
/-! Resolution of an address, by rank (R24, R25, R28, R29). -/

namespace Sys2Proof.Machine

/-! ## Containment (R24–R26) -/

theorem inRange_iff (base : Addr) (k : Nat) (a : Addr) :
    inRange base k a = true ↔ base.toNat ≤ a.toNat ∧ a.toNat < base.toNat + 2 ^ k := by
  simp [inRange]

theorem WindowMap.contains_iff (m : WindowMap) (a : Addr) (w : Win) :
    m.contains a w = true ↔ m.descriptors[w].standing = .enabled ∧ m.descriptors[w].base.toNat ≤ a.toNat
      ∧ a.toNat < m.descriptors[w].base.toNat + 2 ^ m.descriptors[w].exponent := by
  simp [WindowMap.contains, inRange_iff]

theorem WindowMap.inImage_iff (m : WindowMap) (a : Addr) :
    m.inImage a = true ↔ ∃ b : Addr, m.imageBase = some b ∧ b.toNat ≤ a.toNat ∧ a.toNat < b.toNat + 4096 := by
  unfold WindowMap.inImage
  cases m.imageBase with
  | none => simp
  | some b => simp [inRange_iff]

theorem WindowMap.inRecord_iff (m : WindowMap) (a : Addr) :
    m.inRecord a = true ↔
      ∃ p : Placement, m.record = some p ∧ p.base.toNat ≤ a.toNat ∧ a.toNat < p.base.toNat + 2 ^ p.exponent := by
  unfold WindowMap.inRecord
  cases m.record with
  | none => simp
  | some p => simp [inRange_iff]

/-! ## Rank (R28) -/

/-- Window `v` ranks above window `w`: anchors above sites, and a higher index above a lower one among either (R28). -/
abbrev ranksAbove (v w : Win) : Prop := (v.val < 4 ∧ 4 ≤ w.val) ∨ ((v.val < 4 ↔ w.val < 4) ∧ w.val < v.val)

theorem rankOrder_pairwise : rankOrder.Pairwise ranksAbove := by decide

theorem mem_rankOrder : ∀ w : Win, w ∈ rankOrder := by decide

/-- In a list ordered by `R`, the element found is the one that nothing found stands above. -/
theorem find?_of_pairwise {α : Type} {R : α → α → Prop} {p : α → Bool} {w : α} {l : List α} (hl : l.Pairwise R)
    (hw : w ∈ l) (hp : p w = true) (highest : ∀ v, p v = true → ¬ R v w) : l.find? p = some w := by
  induction l with
  | nil => cases hw
  | cons x xs ih =>
    obtain ⟨hx, hxs⟩ := List.pairwise_cons.mp hl
    rcases List.mem_cons.mp hw with rfl | hmem
    · exact List.find?_cons_of_pos hp
    · have hpx : ¬ p x = true := fun h => highest x h (hx w hmem)
      rw [List.find?_cons_of_neg hpx, ih hxs hmem]

/-! ## The owner, by rank -/

theorem WindowMap.ownerOf_of_inImage (m : WindowMap) (a : Addr) (h : m.inImage a = true) : m.ownerOf a = .image := by
  simp [WindowMap.ownerOf, h]

theorem WindowMap.ownerOf_of_inRecord (m : WindowMap) (a : Addr) (hi : ¬ m.inImage a = true)
    (h : m.inRecord a = true) : m.ownerOf a = .record := by
  simp [WindowMap.ownerOf, hi, h]

theorem WindowMap.ownerOf_of_highest (m : WindowMap) (a : Addr) (w : Win) (hi : ¬ m.inImage a = true)
    (hr : ¬ m.inRecord a = true) (hw : m.contains a w = true) (highest : ∀ v, m.contains a v = true → ¬ ranksAbove v w) :
    m.ownerOf a = .window w := by
  have found : rankOrder.find? (m.contains a) = some w :=
    find?_of_pairwise rankOrder_pairwise (mem_rankOrder w) hw highest
  simp [WindowMap.ownerOf, hi, hr, found]

theorem WindowMap.ownerOf_of_uncontained (m : WindowMap) (a : Addr) (hi : ¬ m.inImage a = true)
    (hr : ¬ m.inRecord a = true) (h : ∀ w, ¬ m.contains a w = true) : m.ownerOf a = .background := by
  have found : rankOrder.find? (m.contains a) = none := List.find?_eq_none.mpr fun w _ => h w
  simp [WindowMap.ownerOf, hi, hr, found]

/-! ## The answer, by owner -/

@[simp] theorem WindowMap.resolve_owner (m : WindowMap) (a : Addr) : (m.resolve a).owner = m.ownerOf a := by
  unfold WindowMap.resolve
  cases m.ownerOf a with
  | window w => dsimp only; split <;> rfl
  | image => rfl
  | record => rfl
  | background => rfl

theorem WindowMap.resolve_of_image (m : WindowMap) (a b : Addr) (ho : m.ownerOf a = .image)
    (hb : m.imageBase = some b) :
    m.resolve a = ⟨.image, .image, none, 0, decide (b.toNat + 0x280 ≤ a.toNat ∧ a.toNat < b.toNat + 0x340)⟩ := by
  simp [WindowMap.resolve, ho, WindowMap.classOf, WindowMap.inRefTable, hb]

theorem WindowMap.resolve_of_record (m : WindowMap) (a : Addr) (ho : m.ownerOf a = .record) :
    m.resolve a = ⟨.record, .record, none, 0, false⟩ := by
  simp [WindowMap.resolve, ho, WindowMap.classOf]

theorem WindowMap.resolve_of_background (m : WindowMap) (a : Addr) (ho : m.ownerOf a = .background) :
    m.resolve a = ⟨.background, .site m.background, none, 0, false⟩ := by
  simp [WindowMap.resolve, ho, WindowMap.classOf]

/-- A TRIM window answers with its page and the word's place in it; a window of another class with neither (R28). -/
theorem WindowMap.resolve_of_window (m : WindowMap) (a : Addr) (w : Win) (cls : SiteClass)
    (ho : m.ownerOf a = .window w) (enabled : m.descriptors[w].standing = .enabled)
    (hcls : m.descriptors[w].siteClass = some cls) :
    m.resolve a = ⟨.window w, .site cls, if cls = .trim then m.descriptors[w].pageRead else none,
      if cls = .trim then (a.toNat - m.descriptors[w].base.toNat) / 2 else 0, false⟩ := by
  have class_eq : m.windowClass w = cls := by rw [WindowMap.windowClass, hcls]; rfl
  by_cases ht : cls = .trim
  · subst ht
    simp only [Fin.getElem_fin] at enabled hcls
    simp [WindowMap.resolve, ho, WindowMap.classOf, class_eq, Descriptor.page, Descriptor.isTrim, enabled, hcls,
      pageWordOf]
  · simp [WindowMap.resolve, ho, WindowMap.classOf, class_eq, ht]

/-- Settles O18: the owner of each case of R28's order, and the answer of each kind of owner. -/
theorem addressResolvesByRank : Obligations.AddressResolvesByRank := by
  intro m a holds above inImage inRecord
  have image_iff : m.inImage a = true ↔ inImage := m.inImage_iff a
  have record_iff : m.inRecord a = true ↔ inRecord := m.inRecord_iff a
  have holds_iff (w : Win) : m.contains a w = true ↔ holds w := m.contains_iff a w
  refine ⟨fun b hb hi => ?_, fun hi hr => ?_, fun w cls hi hr hw highest hcls => ?_, fun hi hr none_holds => ?_,
    fun w i => ?_⟩
  · exact m.resolve_of_image a b (m.ownerOf_of_inImage a (image_iff.mpr hi)) hb
  · exact m.resolve_of_record a (m.ownerOf_of_inRecord a (hi ∘ image_iff.mp) (record_iff.mpr hr))
  · have owner : m.ownerOf a = .window w := m.ownerOf_of_highest a w (hi ∘ image_iff.mp) (hr ∘ record_iff.mp)
      ((holds_iff w).mpr hw) fun v hv => highest v ((holds_iff v).mp hv)
    exact m.resolve_of_window a w cls owner hw.1 hcls
  · exact m.resolve_of_background a (m.ownerOf_of_uncontained a (hi ∘ image_iff.mp) (hr ∘ record_iff.mp)
      fun w => none_holds w ∘ (holds_iff w).mp)
  · rw [WindowMap.resolve_owner, WindowMap.owns, WindowMap.wordOf, beq_iff_eq]

end Sys2Proof.Machine
end

section
/-! The load of the map: the checks on descriptors, page ownership, bindings, the scan group and the load-fault set
(R31–R38). -/

namespace Sys2Proof.Machine

/-! ## Class codes and descriptors as read (R23, R32, R33) -/

theorem classOfCode_eq_none_iff (n : Nat) : classOfCode n = none ↔ n < 1 ∨ 5 < n := by
  unfold classOfCode
  split <;> simp_all
  omega

theorem classOfCode_eq_trim_iff (n : Nat) : classOfCode n = some .trim ↔ n = 3 := by
  unfold classOfCode
  split <;> simp_all

theorem classOfCode_eq_openWindow_iff (n : Nat) : classOfCode n = some .openWindow ↔ n = 1 := by
  unfold classOfCode
  split <;> simp_all

theorem Descriptor.pageRead_eq_none_iff (d : Descriptor) : d.pageRead = none ↔ d.raw.getLsbD 31 = false := by
  simp [Descriptor.pageRead]

theorem Descriptor.isTrim_iff (d : Descriptor) : d.isTrim = true ↔ d.standing = .enabled ∧ d.classCode = 3 := by
  simp [Descriptor.isTrim, Descriptor.siteClass, classOfCode_eq_trim_iff]

theorem Descriptor.page_eq_some_iff (d : Descriptor) (p : PageNo) :
    d.page = some p ↔ d.isTrim = true ∧ d.pageRead = some p := by
  simp [Descriptor.page]

/-- The checks in R32's order, by the descriptor's fields. -/
theorem checkDescriptor_eq (raw : BitVec 64) :
    checkDescriptor raw =
      if raw.getLsbD 0 = false then ⟨raw, .switchedOff, none⟩
      else if (raw.extractLsb' 8 8).toNat < 1 ∨ 5 < (raw.extractLsb' 8 8).toNat then ⟨raw, .faulted, some .classCode⟩
      else if (raw.extractLsb' 16 8).toNat < 10 ∨ 24 < (raw.extractLsb' 16 8).toNat then ⟨raw, .faulted, some .size⟩
      else if (raw.extractLsb' 32 24).toNat % 2 ^ (raw.extractLsb' 16 8).toNat ≠ 0 then ⟨raw, .faulted, some .align⟩
      else if (raw.extractLsb' 8 8).toNat = 3 ∧ 11 < (raw.extractLsb' 16 8).toNat then ⟨raw, .faulted, some .trimSize⟩
      else if (raw.extractLsb' 8 8).toNat = 3 ∧ raw.getLsbD 31 = false then ⟨raw, .faulted, some .noPage⟩
      else if (raw.extractLsb' 8 8).toNat ≠ 3 ∧ raw.getLsbD 31 = true then ⟨raw, .enabled, some .pageIgnored⟩
      else ⟨raw, .enabled, none⟩ := by
  simp only [checkDescriptor, Descriptor.asked, Descriptor.siteClass, Descriptor.classCode, Descriptor.exponent,
    Descriptor.base, Descriptor.pageRead_eq_none_iff, ne_eq, Bool.not_eq_true', Bool.not_eq_false]
  generalize (raw.extractLsb' 8 8).toNat = code
  cases hc : classOfCode code with
  | none => simp only [if_pos ((classOfCode_eq_none_iff code).mp hc)]
  | some cls =>
    have assigned : ¬ (code < 1 ∨ 5 < code) := fun h => by
      rw [(classOfCode_eq_none_iff code).mpr h] at hc
      cases hc
    have trim_iff : cls = .trim ↔ code = 3 := by rw [← classOfCode_eq_trim_iff, hc, Option.some_inj]
    simp only [if_neg assigned, trim_iff]

/-- An ENABLED TRIM descriptor has passed every check: PAGE_IGNORED is for the other classes (R33). -/
theorem checkDescriptor_fault_of_isTrim (raw : BitVec 64) (h : (checkDescriptor raw).isTrim = true) :
    (checkDescriptor raw).fault = none := by
  obtain ⟨enabled, code⟩ := (Descriptor.isTrim_iff _).mp h
  rw [checkDescriptor_eq] at enabled code ⊢
  split_ifs at enabled code ⊢ with _ _ _ _ _ _ ignored
  · exact absurd code ignored.1
  · rfl

/-! ## Fault entries of descriptors (R35) -/

theorem mem_descriptorFaults (ds : Vector Descriptor 24) (pick : Win → Bool) (item : LoadItem) (k : FaultKind) :
    (item, k) ∈ descriptorFaults ds pick ↔ ∃ w : Win, pick w = true ∧ item = .descriptor w ∧ ds[w].fault = some k := by
  unfold descriptorFaults
  rw [List.mem_filterMap]
  constructor
  · rintro ⟨w, _, hw⟩
    split_ifs at hw with hp
    obtain ⟨k', hk, heq⟩ := Option.map_eq_some_iff.mp hw
    obtain ⟨rfl, rfl⟩ := Prod.mk.inj heq
    exact ⟨w, hp, rfl, hk⟩
  · rintro ⟨w, hp, rfl, hk⟩
    exact ⟨w, List.mem_finRange w, by rw [if_pos hp, hk]; rfl⟩

/-! ## Page ownership, bindings and the scan group (R34, R36, R38) -/

theorem pageTaken_iff (ds : Vector Descriptor 24) (w : Win) :
    pageTaken ds w = true ↔
      ds[w].isTrim = true ∧ ∃ v : Win, w < v ∧ ds[v].isTrim = true ∧ ds[v].pageRead = ds[w].pageRead := by
  simp [pageTaken, and_assoc]

theorem settlePages_of_pageTaken (ds : Vector Descriptor 24) (w : Win) (h : pageTaken ds w = true) :
    (settlePages ds)[w] = ⟨ds[w].raw, .faulted, some .pageTaken⟩ := by
  simp [settlePages, h]

theorem settlePages_of_not_pageTaken (ds : Vector Descriptor 24) (w : Win) (h : ¬ pageTaken ds w = true) :
    (settlePages ds)[w] = ds[w] := by
  simp [settlePages, h]

/-- After the settlement a window's page is the one it named as an ENABLED TRIM window, unless it was taken. -/
theorem settlePages_page_iff (ds : Vector Descriptor 24) (w : Win) (p : PageNo) :
    (settlePages ds)[w].page = some p ↔
      ds[w].isTrim = true ∧ ¬ pageTaken ds w = true ∧ ds[w].pageRead = some p := by
  by_cases ht : pageTaken ds w = true
  · simp [settlePages_of_pageTaken ds w ht, Descriptor.page_eq_some_iff, Descriptor.isTrim, ht]
  · rw [settlePages_of_not_pageTaken ds w ht, Descriptor.page_eq_some_iff]
    simp [ht]

/-- Of two TRIM windows that name one page, the lower has lost it: after the settlement no two have the same (R34). -/
theorem settlePages_page_inj (ds : Vector Descriptor 24) (p : PageNo) (v w : Win)
    (hv : (settlePages ds)[v].page = some p) (hw : (settlePages ds)[w].page = some p) : v = w := by
  obtain ⟨vTrim, vKept, vPage⟩ := (settlePages_page_iff ds v p).mp hv
  obtain ⟨wTrim, wKept, wPage⟩ := (settlePages_page_iff ds w p).mp hw
  rcases lt_trichotomy v w with h | h | h
  · exact absurd ((pageTaken_iff ds v).mpr ⟨vTrim, w, h, wTrim, wPage.trans vPage.symm⟩) vKept
  · exact h
  · exact absurd ((pageTaken_iff ds w).mpr ⟨wTrim, v, h, vTrim, vPage.trans wPage.symm⟩) wKept

theorem bindPages_settlePages_iff (ds : Vector Descriptor 24) (p : PageNo) (w : Win) :
    (bindPages (settlePages ds))[p] = some w ↔
      ds[w].isTrim = true ∧ ¬ pageTaken ds w = true ∧ ds[w].pageRead = some p := by
  have bound : (bindPages (settlePages ds))[p]
      = (List.finRange 24).find? fun v => (settlePages ds)[v].page == some p := by simp [bindPages]
  rw [bound, ← settlePages_page_iff]
  constructor
  · intro h
    have found := List.find?_some h
    exact beq_iff_eq.mp found
  · intro h
    refine find?_of_pairwise (List.pairwise_lt_finRange 24) (List.mem_finRange w) (beq_iff_eq.mpr h) fun v hv => ?_
    exact (settlePages_page_inj ds p v w (beq_iff_eq.mp hv) h).not_lt

theorem mem_scanGroupOf (ds : Vector Descriptor 24) (w : Win) :
    w ∈ scanGroupOf ds ↔ ds[w].standing = .enabled ∧ ds[w].classCode ≠ 1 := by
  simp [scanGroupOf, Descriptor.siteClass, classOfCode_eq_openWindow_iff]

theorem scanGroupOf_pairwise (ds : Vector Descriptor 24) : (scanGroupOf ds).Pairwise fun v w => v < w :=
  (List.pairwise_lt_finRange 24).filter _

/-! ## Fields of the image (R201) -/

/-- The byte at an offset of the image, as a number. -/
def byteRead (img : List Word) (off : Nat) : Nat :=
  (img.getD (off / 2) 0#16).toNat / (if off % 2 = 0 then 1 else 256) % 256

theorem imgByte_toNat (img : List Word) (off : Nat) : (imgByte img off).toNat = byteRead img off := by
  unfold imgByte imgWord byteRead
  split_ifs <;> simp [Nat.shiftRight_eq_div_pow]

theorem imgAddr_toNat (img : List Word) (off : Nat) :
    (imgAddr img off).toNat = (imgByte img off).toNat + 256 * (imgByte img (off + 1)).toNat
      + 65536 * (imgByte img (off + 2)).toNat := by
  unfold imgAddr
  rw [BitVec.toNat_append, BitVec.toNat_append, ← Nat.shiftLeft_add_eq_or_of_lt (by omega),
    ← Nat.shiftLeft_add_eq_or_of_lt (by omega)]
  simp only [Nat.shiftLeft_eq]
  omega

/-! ## RECORD and the background (R26, R27) -/

/-- The RECORD placement as an image has it. -/
def placementRead (img : List Word) : Placement := ⟨imgAddr img 0x02, (imgByte img 0x05).toNat⟩

theorem placementValid_iff (b : Addr) (p : Placement) :
    placementValid b p = true ↔ 12 ≤ p.exponent ∧ p.exponent ≤ 20 ∧ p.base.toNat % 2 ^ p.exponent = 0
      ∧ ¬ (p.base.toNat ≤ b.toNat ∧ b.toNat < p.base.toNat + 2 ^ p.exponent) := by
  simp only [placementValid, Bool.and_eq_true, decide_eq_true_eq, beq_iff_eq, Bool.not_eq_true', ← inRange_iff,
    Bool.not_eq_true, and_assoc]

theorem headerWindows_placement (img : List Word) (b : Addr) : (headerWindows img b).1 =
    if placementValid b (placementRead img) then placementRead img else defaultPlacement b := by
  unfold headerWindows placementRead
  dsimp only
  split_ifs <;> rfl

theorem headerWindows_background (img : List Word) (b : Addr) : (headerWindows img b).2.1 =
    if (imgByte img 0x06).toNat = 2 then .calibration else .openWindow := by
  unfold headerWindows
  dsimp only
  split <;> simp_all

theorem mem_headerWindows_faults (img : List Word) (b : Addr) (item : LoadItem) (k : FaultKind) :
    (item, k) ∈ (headerWindows img b).2.2 ↔
      (¬ placementValid b (placementRead img) = true ∧ item = .record ∧ k = .recordPlace)
      ∨ ((imgByte img 0x06).toNat ≠ 1 ∧ (imgByte img 0x06).toNat ≠ 2 ∧ item = .backgroundClass ∧ k = .range) := by
  unfold headerWindows
  dsimp only
  rw [List.mem_append]
  refine or_congr ?_ ?_
  · unfold placementRead
    split_ifs with h <;> simp [h]
  · split <;> simp_all

/-! ## Entries added to the load-fault set (R35) -/

theorem Chip.addFaults_map (c : Chip) (fs : List (LoadItem × FaultKind)) :
    (c.addFaults fs).map = { c.map with loadFaults := c.map.loadFaults ++ fs } := by
  rw [Chip.addFaults_eq]

theorem Chip.addFaults_overlay (c : Chip) (fs : List (LoadItem × FaultKind)) :
    (c.addFaults fs).overlay = c.overlay := by
  rw [Chip.addFaults_eq]

/-- The first entry of a start-up sets LOAD_FAULT. -/
theorem Chip.addFaults_link (c : Chip) (fs : List (LoadItem × FaultKind)) :
    (c.addFaults fs).link = { c.link with notices :=
      if c.map.loadFaults = [] ∧ (c.addFaults fs).map.loadFaults ≠ [] then c.link.notices ||| 0x0100#16
      else c.link.notices } := by
  have first : (c.map.loadFaults = [] ∧ c.map.loadFaults ++ fs ≠ []) ↔ (c.map.loadFaults = [] ∧ fs ≠ []) :=
    and_congr_right fun h => by rw [h, List.nil_append]
  rw [Chip.addFaults_map]
  simp only [first]
  rw [Chip.addFaults_eq]
  rfl

/-! ## The first step: the anchors (R31, R178) -/

/-- The descriptors with the anchors taken from the fuse block and checked. -/
def takeAnchors (ds : Vector Descriptor 24) (f : FuseBlock) : Vector Descriptor 24 :=
  Vector.ofFn fun w : Win => if h : w.val < 4 then checkDescriptor f.anchors[w.val] else ds[w]

theorem takeAnchors_anchor (ds : Vector Descriptor 24) (f : FuseBlock) (i : Fin 4) :
    (takeAnchors ds f)[i.val] = checkDescriptor f.anchors[i] := by
  simp [takeAnchors]

theorem takeAnchors_site (ds : Vector Descriptor 24) (f : FuseBlock) (w : Win) (h : 4 ≤ w.val) :
    (takeAnchors ds f)[w] = ds[w] := by
  simp [takeAnchors, Nat.not_lt.mpr h]

/-- The part with the anchors and the image base in its map, before any fault is entered. -/
def Chip.withAnchors (c : Chip) (f : FuseBlock) : Chip :=
  { c with
    map.descriptors := takeAnchors c.map.descriptors f
    map.imageBase := some (f.imageBase.extractLsb' 0 12 ++ 0#12) }

theorem Chip.withAnchors_map (c : Chip) (f : FuseBlock) : (c.withAnchors f).map = { c.map with
    descriptors := takeAnchors c.map.descriptors f
    imageBase := some (f.imageBase.extractLsb' 0 12 ++ 0#12) } := by
  simp only [Chip.withAnchors]

theorem Chip.withAnchors_link (c : Chip) (f : FuseBlock) : (c.withAnchors f).link = c.link := by
  simp only [Chip.withAnchors]

theorem Chip.loadAnchors_eq (c : Chip) (f : FuseBlock) : c.loadAnchors f =
    (c.withAnchors f).addFaults (descriptorFaults (takeAnchors c.map.descriptors f) fun w => decide (w.val < 4)) := rfl

theorem Chip.loadAnchors_map (c : Chip) (f : FuseBlock) : (c.loadAnchors f).map = { c.map with
    descriptors := takeAnchors c.map.descriptors f
    imageBase := some (f.imageBase.extractLsb' 0 12 ++ 0#12)
    loadFaults := c.map.loadFaults
      ++ descriptorFaults (takeAnchors c.map.descriptors f) fun w => decide (w.val < 4) } := by
  rw [Chip.loadAnchors_eq, Chip.addFaults_map, Chip.withAnchors_map]

theorem Chip.loadAnchors_link (c : Chip) (f : FuseBlock) : (c.loadAnchors f).link = { c.link with notices :=
    if c.map.loadFaults = [] ∧ (c.loadAnchors f).map.loadFaults ≠ [] then c.link.notices ||| 0x0100#16
    else c.link.notices } := by
  rw [Chip.loadAnchors_eq, Chip.addFaults_link, Chip.withAnchors_link, Chip.withAnchors_map]

theorem Chip.loadAnchors_frame (c : Chip) (f : FuseBlock) : c.changesOnly [.map, .link] (c.loadAnchors f) := by
  rw [Chip.loadAnchors_eq, Chip.addFaults_eq]
  exact (Chip.changesOnly_iff _ _ _).mpr (by simp [Chip.withAnchors])

theorem Chip.mem_loadAnchors_loadFaults (c : Chip) (f : FuseBlock) (item : LoadItem) (k : FaultKind) :
    (item, k) ∈ (c.loadAnchors f).map.loadFaults ↔ (item, k) ∈ c.map.loadFaults
      ∨ ∃ w : Win, w.val < 4 ∧ item = .descriptor w ∧ (c.loadAnchors f).map.descriptors[w].fault = some k := by
  rw [Chip.loadAnchors_map, List.mem_append, mem_descriptorFaults]
  simp only [decide_eq_true_eq]

/-! ## The second step: the sites and the header windows (R31, R37) -/

/-- The descriptors that the second step settles: with the sites of a valid image, or those of the degraded map. -/
def Chip.sitesRead (c : Chip) (img : List Word) : Vector Descriptor 24 :=
  if c.params.image = .valid then takeSites c.map.descriptors img else dropSites c.map.descriptors

/-- RECORD, the background class and their faults, as a valid image has them, or those of the degraded map. -/
def Chip.headerRead (c : Chip) (img : List Word) (b : Addr) : Placement × SiteClass × List (LoadItem × FaultKind) :=
  if c.params.image = .valid then headerWindows img b else (defaultPlacement b, .calibration, [])

/-- The faults that the second step finds, in its order. -/
def Chip.mapFaults (c : Chip) (img : List Word) (b : Addr) : List (LoadItem × FaultKind) :=
  ((c.headerRead img b).2.2 ++ descriptorFaults (c.sitesRead img) fun w => decide (4 ≤ w.val))
    ++ descriptorFaults (settlePages (c.sitesRead img)) fun w =>
      (settlePages (c.sitesRead img))[w].fault == some FaultKind.pageTaken

/-- The pages as the bindings have them, with their words (R36). -/
def boundPages (bound : Vector (Option Win) 8) (pages : Vector Page 8) : Vector Page 8 :=
  Vector.ofFn fun p : PageNo => ⟨if bound[p].isSome then .closed else .unbound, pages[p].words⟩

/-- The part with RECORD and the background class in its map. -/
def Chip.withHeader (c : Chip) (place : Placement) (background : SiteClass) : Chip :=
  { c with map.record := some place, map.background := background }

theorem Chip.withHeader_link (c : Chip) (place : Placement) (background : SiteClass) :
    (c.withHeader place background).link = c.link := rfl

theorem Chip.withHeader_loadFaults (c : Chip) (place : Placement) (background : SiteClass) :
    (c.withHeader place background).map.loadFaults = c.map.loadFaults := rfl

/-- The part with pages settled, bound and grouped from these descriptors, before the pages taken are entered as faults. -/
def Chip.withMap (c : Chip) (ds : Vector Descriptor 24) : Chip :=
  { c with
    map.descriptors := settlePages ds
    map.bindings := bindPages (settlePages ds)
    map.scanGroup := scanGroupOf (settlePages ds)
    overlay.pages := boundPages (bindPages (settlePages ds)) c.overlay.pages }

theorem Chip.withMap_map (c : Chip) (ds : Vector Descriptor 24) : (c.withMap ds).map = { c.map with
    descriptors := settlePages ds
    bindings := bindPages (settlePages ds)
    scanGroup := scanGroupOf (settlePages ds) } := rfl

theorem Chip.withMap_loadFaults (c : Chip) (ds : Vector Descriptor 24) :
    (c.withMap ds).map.loadFaults = c.map.loadFaults := by
  rw [Chip.withMap_map]

theorem Chip.withMap_overlay (c : Chip) (ds : Vector Descriptor 24) :
    (c.withMap ds).overlay = { c.overlay with pages := boundPages (bindPages (settlePages ds)) c.overlay.pages } := rfl

theorem Chip.withMap_link (c : Chip) (ds : Vector Descriptor 24) : (c.withMap ds).link = c.link := by
  simp only [Chip.withMap]

theorem Chip.completeMap_eq (c : Chip) (ds : Vector Descriptor 24) : c.completeMap ds =
    (c.withMap ds).addFaults (descriptorFaults (settlePages ds) fun w =>
      (settlePages ds)[w].fault == some FaultKind.pageTaken) := rfl

/-- Faults entered before the completion of the map can as well be entered after it. -/
theorem Chip.withMap_addFaults (c : Chip) (ds : Vector Descriptor 24) (fs : List (LoadItem × FaultKind)) :
    (c.addFaults fs).withMap ds = (c.withMap ds).addFaults fs := by
  unfold Chip.withMap
  generalize settlePages ds = settled
  generalize bindPages settled = bound
  generalize scanGroupOf settled = group
  rw [Chip.addFaults_eq, Chip.addFaults_eq]

theorem descriptorFaults_dropSites (ds : Vector Descriptor 24) :
    descriptorFaults (dropSites ds) (fun w => decide (4 ≤ w.val)) = [] := by
  refine List.eq_nil_iff_forall_not_mem.mpr fun ⟨item, k⟩ h => ?_
  obtain ⟨w, site, _, hk⟩ := (mem_descriptorFaults _ _ _ _).mp h
  simp [dropSites, Nat.not_lt.mpr (of_decide_eq_true site)] at hk

/-- The second step, whether the image is valid or not. -/
theorem Chip.loadMap_eq (c : Chip) (img : List Word) (b : Addr) (hb : c.map.imageBase = some b) :
    c.loadMap img = ((c.withHeader (c.headerRead img b).1 (c.headerRead img b).2.1).withMap (c.sitesRead img)).addFaults
      (c.mapFaults img b) := by
  unfold Chip.loadMap Chip.mapFaults
  rw [hb, Chip.addFaults_append, ← Chip.withMap_addFaults, ← Chip.completeMap_eq]
  by_cases valid : c.params.image = .valid
  · simp only [Chip.sitesRead, Chip.headerRead, if_pos valid]
    rfl
  · simp only [Chip.sitesRead, Chip.headerRead, if_neg valid, descriptorFaults_dropSites]
    rfl

theorem Chip.loadMap_map (c : Chip) (img : List Word) (b : Addr) (hb : c.map.imageBase = some b) :
    (c.loadMap img).map =
      ⟨settlePages (c.sitesRead img), some b, some (c.headerRead img b).1, (c.headerRead img b).2.1,
        bindPages (settlePages (c.sitesRead img)), scanGroupOf (settlePages (c.sitesRead img)),
        c.map.loadFaults ++ c.mapFaults img b⟩ := by
  rw [c.loadMap_eq img b hb, Chip.addFaults_map, Chip.withMap_map, ← hb]
  simp only [Chip.withHeader]

theorem Chip.loadMap_overlay (c : Chip) (img : List Word) (b : Addr) (hb : c.map.imageBase = some b) :
    (c.loadMap img).overlay = { c.overlay with pages := boundPages (c.loadMap img).map.bindings c.overlay.pages } := by
  rw [c.loadMap_map img b hb, c.loadMap_eq img b hb, Chip.addFaults_overlay, Chip.withMap_overlay]
  simp only [Chip.withHeader]

theorem Chip.loadMap_link (c : Chip) (img : List Word) (b : Addr) (hb : c.map.imageBase = some b) :
    (c.loadMap img).link = { c.link with notices :=
      if c.map.loadFaults = [] ∧ (c.loadMap img).map.loadFaults ≠ [] then c.link.notices ||| 0x0100#16
      else c.link.notices } := by
  rw [c.loadMap_eq img b hb, Chip.addFaults_link, Chip.withMap_link, Chip.withMap_loadFaults, Chip.withHeader_link,
    Chip.withHeader_loadFaults]

theorem Chip.loadMap_frame (c : Chip) (img : List Word) (b : Addr) (hb : c.map.imageBase = some b) :
    c.changesOnly [.map, .overlay, .link] (c.loadMap img) := by
  rw [c.loadMap_eq img b hb, Chip.addFaults_eq]
  exact (Chip.changesOnly_iff _ _ _).mpr (by simp [Chip.withMap, Chip.withHeader])

theorem boundPages_get (bound : Vector (Option Win) 8) (pages : Vector Page 8) (p : PageNo) :
    (boundPages bound pages)[p] = ⟨if bound[p] = none then .unbound else .closed, pages[p].words⟩ := by
  cases h : bound[p] with
  | none => simp_all [boundPages]
  | some w => simp_all [boundPages]

theorem Chip.sitesRead_get (c : Chip) (img : List Word) (w : Win) : (c.sitesRead img)[w] =
    if w.val < 4 then c.map.descriptors[w]
    else if c.params.image = .valid then checkDescriptor (imgDescriptor img w.val)
    else ⟨0#64, .notLoaded, none⟩ := by
  by_cases valid : c.params.image = .valid
  · simp [Chip.sitesRead, takeSites, valid]
  · simp [Chip.sitesRead, dropSites, valid]

/-- A site that is an ENABLED TRIM window has no fault of its own. -/
theorem Chip.sitesRead_fault_of_isTrim (c : Chip) (img : List Word) (w : Win) (site : 4 ≤ w.val)
    (h : (c.sitesRead img)[w].isTrim = true) : (c.sitesRead img)[w].fault = none := by
  rw [Chip.sitesRead_get, if_neg (Nat.not_lt.mpr site)] at h ⊢
  split_ifs at h ⊢ with valid
  · exact checkDescriptor_fault_of_isTrim _ h
  · rfl

/-- The faults of the sites and the pages lost, in terms of the descriptors as they are settled: a site that has lost its
page had no fault before. -/
theorem Chip.settled_fault_iff (c : Chip) (img : List Word) (w : Win) (k : FaultKind) :
    (4 ≤ w.val ∧ (c.sitesRead img)[w].fault = some k)
        ∨ ((settlePages (c.sitesRead img))[w].fault = some .pageTaken ∧ (settlePages (c.sitesRead img))[w].fault = some k)
      ↔ (settlePages (c.sitesRead img))[w].fault = some k ∧ (4 ≤ w.val ∨ k = .pageTaken) := by
  by_cases taken : pageTaken (c.sitesRead img) w = true
  · rw [settlePages_of_pageTaken _ w taken]
    have unfaulted (site : 4 ≤ w.val) : (c.sitesRead img)[w].fault = none :=
      c.sitesRead_fault_of_isTrim img w site ((pageTaken_iff _ w).mp taken).1
    constructor
    · rintro (⟨site, hk⟩ | ⟨-, hk⟩)
      · rw [unfaulted site] at hk
        cases hk
      · exact ⟨hk, .inr (Option.some.inj hk).symm⟩
    · rintro ⟨hk, -⟩
      exact .inr ⟨rfl, hk⟩
  · rw [settlePages_of_not_pageTaken _ w taken]
    constructor
    · rintro (⟨site, hk⟩ | ⟨lost, hk⟩)
      · exact ⟨hk, .inl site⟩
      · exact ⟨hk, .inr (Option.some.inj (hk.symm.trans lost))⟩
    · rintro ⟨hk, site | rfl⟩
      · exact .inl ⟨site, hk⟩
      · exact .inr ⟨hk, hk⟩

/-! ## The header windows, by the image's bytes (R26, R27) -/

/-- The base of RECORD as the image has it, as a number. -/
def recordBaseRead (img : List Word) : Nat := byteRead img 2 + 256 * byteRead img 3 + 65536 * byteRead img 4

theorem placementRead_base_toNat (img : List Word) : (placementRead img).base.toNat = recordBaseRead img := by
  simp only [placementRead, imgAddr_toNat, imgByte_toNat]
  rfl

theorem placementRead_eq (img : List Word) :
    placementRead img = ⟨BitVec.ofNat 24 (recordBaseRead img), byteRead img 5⟩ := by
  have base : (placementRead img).base = BitVec.ofNat 24 (recordBaseRead img) := by
    rw [← placementRead_base_toNat, BitVec.ofNat_toNat, BitVec.setWidth_eq]
  rw [← base, ← imgByte_toNat img 5]
  rfl

theorem placementRead_valid_iff (img : List Word) (b : Addr) : placementValid b (placementRead img) = true ↔
    12 ≤ byteRead img 5 ∧ byteRead img 5 ≤ 20 ∧ recordBaseRead img % 2 ^ byteRead img 5 = 0
      ∧ ¬ (recordBaseRead img ≤ b.toNat ∧ b.toNat < recordBaseRead img + 2 ^ byteRead img 5) := by
  have exponent : (placementRead img).exponent = byteRead img 5 := imgByte_toNat img 5
  rw [placementValid_iff, placementRead_base_toNat, exponent]

theorem Chip.headerRead_placement_valid (c : Chip) (img : List Word) (b : Addr)
    (h : c.params.image = .valid ∧ placementValid b (placementRead img) = true) :
    (c.headerRead img b).1 = placementRead img := by
  rw [Chip.headerRead, if_pos h.1, headerWindows_placement, if_pos h.2]

theorem Chip.headerRead_placement_default (c : Chip) (img : List Word) (b : Addr)
    (h : ¬ (c.params.image = .valid ∧ placementValid b (placementRead img) = true)) :
    (c.headerRead img b).1 = ⟨b + 4096#24, 12⟩ := by
  unfold Chip.headerRead
  split_ifs with valid
  · rw [headerWindows_placement, if_neg fun placed => h ⟨valid, placed⟩]
    rfl
  · rfl

theorem Chip.headerRead_background (c : Chip) (img : List Word) (b : Addr) : (c.headerRead img b).2.1 =
    if c.params.image = .valid then (if byteRead img 6 = 2 then .calibration else .openWindow) else .calibration := by
  unfold Chip.headerRead
  split_ifs with _ code
  · rw [headerWindows_background, imgByte_toNat, if_pos code]
  · rw [headerWindows_background, imgByte_toNat, if_neg code]
  · rfl

theorem Chip.mem_headerRead_faults (c : Chip) (img : List Word) (b : Addr) (item : LoadItem) (k : FaultKind) :
    (item, k) ∈ (c.headerRead img b).2.2 ↔
      (c.params.image = .valid ∧ ¬ placementValid b (placementRead img) = true ∧ item = .record ∧ k = .recordPlace)
      ∨ (c.params.image = .valid ∧ byteRead img 6 ≠ 1 ∧ byteRead img 6 ≠ 2 ∧ item = .backgroundClass ∧ k = .range) := by
  unfold Chip.headerRead
  split_ifs with valid
  · rw [mem_headerWindows_faults, imgByte_toNat]
    simp only [valid, true_and]
  · simp [valid]

/-- The faults of the second step, by the map it leaves (R31–R34). -/
theorem Chip.mem_loadMap_loadFaults (c : Chip) (img : List Word) (b : Addr) (hb : c.map.imageBase = some b)
    (item : LoadItem) (k : FaultKind) : (item, k) ∈ (c.loadMap img).map.loadFaults ↔ (item, k) ∈ c.map.loadFaults
      ∨ (∃ w : Win, item = .descriptor w ∧ (c.loadMap img).map.descriptors[w].fault = some k
          ∧ (4 ≤ w.val ∨ k = .pageTaken))
      ∨ (c.params.image = .valid ∧ ¬ placementValid b (placementRead img) = true ∧ item = .record ∧ k = .recordPlace)
      ∨ (c.params.image = .valid ∧ byteRead img 6 ≠ 1 ∧ byteRead img 6 ≠ 2 ∧ item = .backgroundClass
          ∧ k = .range) := by
  have descriptors : ((item, k) ∈ descriptorFaults (c.sitesRead img) (fun w => decide (4 ≤ w.val))
      ∨ (item, k) ∈ descriptorFaults (settlePages (c.sitesRead img)) fun w =>
          (settlePages (c.sitesRead img))[w].fault == some FaultKind.pageTaken) ↔
      ∃ w : Win, item = .descriptor w ∧ (settlePages (c.sitesRead img))[w].fault = some k
        ∧ (4 ≤ w.val ∨ k = .pageTaken) := by
    rw [mem_descriptorFaults, mem_descriptorFaults, ← exists_or]
    refine exists_congr fun w => ?_
    rw [decide_eq_true_eq, beq_iff_eq, and_left_comm, and_left_comm (b := item = _), ← and_or_left,
      c.settled_fault_iff img w k]
  rw [c.loadMap_map img b hb, ← descriptors, ← c.mem_headerRead_faults img b item k, Chip.mapFaults, List.mem_append,
    List.mem_append, List.mem_append]
  exact or_congr_right (or_assoc.trans or_comm)

/-! ## The obligation -/

/-- Settles O19: R32's checks, then each field of the map after the first step and after the second. -/
theorem mapIsCheckedAndBound : Obligations.MapIsCheckedAndBound := by
  refine ⟨checkDescriptor_eq, fun c f => ?_, ?_⟩
  · refine ⟨c.loadAnchors_frame f, ?_, fun i => ?_, fun w site => ?_, ?_, ?_, ?_, ?_, c.mem_loadAnchors_loadFaults f,
      c.loadAnchors_link f⟩
    · rw [Chip.loadAnchors_map]
    · rw [Chip.loadAnchors_map]
      exact takeAnchors_anchor _ f i
    · rw [Chip.loadAnchors_map]
      exact takeAnchors_site _ f w site
    all_goals rw [Chip.loadAnchors_map]
  · intro c img b hb t byte base placed checked trim loses
    have checked_eq (w : Win) : (c.sitesRead img)[w] = checked w := c.sitesRead_get img w
    have trim_iff (w : Win) : (checked w).isTrim = true ↔ trim w := Descriptor.isTrim_iff _
    have loses_iff (w : Win) : pageTaken (c.sitesRead img) w = true ↔ loses w := by
      rw [pageTaken_iff]
      simp only [checked_eq, trim_iff]
      rfl
    have placed_iff : placementValid b (placementRead img) = true ↔ placed := placementRead_valid_iff img b
    have map_eq : t.map = _ := c.loadMap_map img b hb
    have settled : t.map.descriptors = settlePages (c.sitesRead img) := by rw [map_eq]
    have group : t.map.scanGroup = scanGroupOf (settlePages (c.sitesRead img)) := by rw [map_eq]
    have record : t.map.record = some (c.headerRead img b).1 := by rw [map_eq]
    refine ⟨c.loadMap_frame img b hb, fun w => ⟨fun lost => ?_, fun kept => ?_⟩, fun p w => ?_, fun p => ?_, ?_, ?_,
      fun w => ?_, ?_, ?_, fun h => ?_, fun h => ?_, ?_, fun item k => ?_, c.loadMap_link img b hb⟩
    · rw [settled, ← checked_eq]
      exact settlePages_of_pageTaken _ w ((loses_iff w).mpr lost)
    · rw [settled, ← checked_eq]
      exact settlePages_of_not_pageTaken _ w (kept ∘ (loses_iff w).mp)
    · rw [map_eq, ← trim_iff, ← loses_iff, ← checked_eq]
      exact bindPages_settlePages_iff _ p w
    · rw [c.loadMap_overlay img b hb]
      exact boundPages_get _ _ p
    · rw [c.loadMap_overlay img b hb]
    · rw [c.loadMap_overlay img b hb]
    · rw [group, settled]
      exact mem_scanGroupOf _ w
    · rw [group]
      exact scanGroupOf_pairwise _
    · rw [map_eq]
    · rw [record, c.headerRead_placement_valid img b (h.imp_right placed_iff.mpr), placementRead_eq]
      rfl
    · rw [record, c.headerRead_placement_default img b fun read => h (read.imp_right placed_iff.mp)]
    · rw [map_eq]
      exact c.headerRead_background img b
    · rw [← placed_iff]
      exact c.mem_loadMap_loadFaults img b hb item k

end Sys2Proof.Machine
end

section
/-! The Standstill Monitor: motion events, speed updates, ticks, silence and the park brake, each as one change of the
part (R43–R57, R63, R68, R69). -/

namespace Sys2Proof.Machine

/-! ## Commands that leave the Bus Path and the supply alone -/

/-- A command that leaves the port settled and the dormancy delay alone ends as its operation left the part. -/
theorem exec_of_settled (i : Instr) (f : Chip → Chip) (s : State) (d : Chip) (hi : i.operation = some f) (hs : s.calm)
    (hd : f s.chip = d) (settled : d.settled) (supply : d.supply = s.chip.supply) :
    exec i s = .next { s with chip := d } := by
  obtain ⟨supplied, -, up⟩ := hs
  have dUp : d.staysUp := by
    unfold Chip.staysUp
    rwa [supply]
  rw [exec_of_operation i f s hi, State.onPin_of_supplied _ f s supplied, hd, Chip.finish_of_calm d settled dUp]

/-- A command whose frame leaves out the Bus Path and the supply ends as its operation left the part. -/
theorem exec_of_frame (i : Instr) (f : Chip → Chip) (s : State) (d : Chip) (blocks : List Block)
    (hi : i.operation = some f) (hs : s.calm) (hd : f s.chip = d) (frame : s.chip.changesOnly blocks d)
    (noBus : Block.bus ∉ blocks) (noSupply : Block.supply ∉ blocks) :
    ∃ t, exec i s = .next t ∧ s.changesOnly blocks t ∧ t.chip = d := by
  have bus : d.bus = s.chip.bus := frame .bus noBus
  have settled : d.settled := by
    unfold Chip.settled
    rw [bus]
    exact hs.2.1
  exact ⟨_, exec_of_settled i f s d hi hs hd settled (frame .supply noSupply),
    State.changesOnly_of_chip blocks s d frame, rfl⟩

/-- A command whose operation changes nothing. -/
theorem exec_of_unchanged (i : Instr) (f : Chip → Chip) (s : State) (hi : i.operation = some f) (hs : s.calm)
    (hd : f s.chip = s.chip) : ∃ t, exec i s = .next t ∧ s.changesOnly [] t := by
  obtain ⟨t, he, hf, -⟩ := exec_of_frame i f s s.chip [] hi hs hd ((Chip.changesOnly_iff _ _ _).mpr (by simp))
    (by simp) (by simp)
  exact ⟨t, he, hf⟩

theorem Chip.same_trans {c d e : Chip} {b : Block} (h : c.same d b) (h' : d.same e b) : c.same e b := by
  cases b <;> exact Eq.trans h' h

/-- A command that changes the monitor alone. -/
theorem exec_of_monitor (i : Instr) (f : Chip → Chip) (s : State) (m : Monitor) (hi : i.operation = some f)
    (hs : s.calm) (hd : f s.chip = { s.chip with monitor := m }) :
    ∃ t, exec i s = .next t ∧ s.changesOnly [.monitor] t ∧ t.chip.monitor = m := by
  obtain ⟨t, he, hf, hc⟩ := exec_of_frame i f s _ [.monitor] hi hs hd ((Chip.changesOnly_iff _ _ _).mpr (by simp))
    (by simp) (by simp)
  exact ⟨t, he, hf, by rw [hc]⟩

/-! ## Motion events (R57, R63, R68, R69) -/

/-- The condition of the grant's level, as the statements have it (R63). -/
theorem GrantController.conditionHolds_eq (g : GrantController) : g.conditionHolds = g.view.meets g.record.level := by
  unfold GrantController.conditionHolds
  cases g.record.level with
  | none => rfl
  | some l => cases l <;> simp [MotionView.allows, MotionView.meets, Bool.beq_eq_decide_eq, Bool.and_assoc]

/-- While ROAD is not STATIONARY no level's condition holds (R63). -/
theorem MotionView.meets_of_road (v : MotionView) (l : Option Level) (h : v.road ≠ .stationary) :
    v.meets l = false := by
  cases l with
  | none => rfl
  | some l => cases l <;> simp [MotionView.meets, h]

/-- An event other than ROAD entering MOVING under a grant in force is judged by the grant's condition (R68, R69). -/
theorem Chip.motionEvent_judged (c : Chip) (e : MotionEvent)
    (h : e = .road .moving → c.grant.state ≠ .active ∧ c.grant.state ≠ .suspended) :
    c.motionEvent e = { c with grant := c.judgedWith (c.grant.view.take e) } := by
  have holds : ({ c.grant with view := c.grant.view.take e } : GrantController).conditionHolds
      = (c.grant.view.take e).meets c.grant.record.level := GrantController.conditionHolds_eq _
  unfold Chip.motionEvent Chip.judgeMotion Chip.judgedWith
  dsimp only
  rw [holds]
  cases hg : c.grant.state with
  | active =>
    have quiet : e ≠ .road .moving := fun he => (h he).1 hg
    cases hm : (c.grant.view.take e).meets c.grant.record.level <;> simp [quiet]
  | suspended =>
    have quiet : e ≠ .road .moving := fun he => (h he).2 hg
    cases hm : (c.grant.view.take e).meets c.grant.record.level <;> simp [quiet]
  | idle => simp
  | opening => simp
  | ending => simp

/-- ROAD entering MOVING ends a grant in force (R68, R69). -/
theorem Chip.motionEvent_moving (c : Chip) (h : c.grant.state = .active ∨ c.grant.state = .suspended) :
    c.motionEvent (.road .moving) = ({ c with grant.view.road := .moving } : Chip).beginEnding .motion := by
  unfold Chip.motionEvent Chip.judgeMotion
  rcases h with h | h <;> simp [h, MotionView.take]

/-- Without a grant in force a judgement updates the view alone. -/
theorem Chip.judgedWith_of_not_inForce (c : Chip) (v : MotionView)
    (h : c.grant.state ≠ .active ∧ c.grant.state ≠ .suspended) : c.judgedWith v = { c.grant with view := v } := by
  simp [Chip.judgedWith, h.1, h.2]

/-- Under a grant in force, a judgement by a view in which no condition holds leaves it SUSPENDED (R68). -/
theorem Chip.judgedWith_of_road (c : Chip) (v : MotionView) (h : c.grant.state = .active ∨ c.grant.state = .suspended)
    (hv : v.road ≠ .stationary) : ∃ left, c.judgedWith v = { c.grant with
      view := v, state := .suspended, record := { c.grant.record with suspendRemaining := left } } := by
  have fails := v.meets_of_road c.grant.record.level hv
  unfold Chip.judgedWith
  rcases h with h | h
  · exact ⟨some c.params.suspendLimit, by rw [if_pos ⟨h, fails⟩]⟩
  · refine ⟨c.grant.record.suspendRemaining, ?_⟩
    rw [if_neg (by simp [h]), if_neg (by simp [fails]), ← h]

/-- The entry to ENDING reads neither the grant's state nor its suspend timer (R76). -/
theorem Chip.beginEnding_of_suspended (c : Chip) (reason : EndReason) (state : GrantState) (left : Option Nat) :
    ({ c with grant := { c.grant with
        state := state, record := { c.grant.record with suspendRemaining := left } } } : Chip).beginEnding reason
      = c.beginEnding reason := rfl

/-- The frame of the entry to ENDING. -/
theorem Chip.beginEnding_frame (c : Chip) (reason : EndReason) :
    c.changesOnly [.grant, .overlay, .engine, .bus] (c.beginEnding reason) := by
  rw [c.beginEnding_eq reason]
  exact (Chip.changesOnly_iff _ _ _).mpr (by simp)

/-- The entry to ENDING leaves a settled port settled: at most the loader's request is given up (R114). -/
theorem Chip.settled_of_endedBy (c d : Chip) (reason : EndReason) (h : c.settled) (he : c.endedBy reason d) :
    d.settled := by
  obtain ⟨-, -, -, waits, goesOn⟩ := he
  by_cases hc : c.engine.commit = none
  · obtain ⟨bus, -, -⟩ := goesOn hc
    intro free
    rw [bus] at free ⊢
    have memFree : c.bus.memPort = .free := by
      cases hm : c.bus.memPort with
      | free => rfl
      | parked => simp [hm] at free
      | busy who tr live => cases who <;> simp [hm] at free
    obtain ⟨hP, hR, -, hS⟩ := h memFree
    exact ⟨hP, hR, rfl, hS⟩
  · unfold Chip.settled
    rw [waits hc]
    exact h

/-! ## The ENGINE machine (R48, R51, R53) -/

/-- The part with this ENGINE channel and machine state, and the event of a changed state judged (R57). -/
def Chip.engineMoved (k : CaptureChannel) (state : EngineState) (c : Chip) : Chip :=
  { c with
    monitor := { c.monitor with engine := k, engineState := state }
    grant := if state = c.monitor.engineState then c.grant else c.judgedWith { c.grant.view with engine := state } }

/-- A channel that moves without its machine is no event. -/
theorem Chip.engineMoved_same (c : Chip) (k : CaptureChannel) :
    c.engineMoved k c.monitor.engineState = { c with monitor.engine := k } := by
  simp [Chip.engineMoved]

/-- An ENGINE speed update of a channel that has just ticked. -/
theorem Chip.engineUpdate_eq (c : Chip) (k : CaptureChannel) (v : Nat) :
    ({ c with monitor.engine := k } : Chip).engineUpdate v =
      c.engineMoved { k with speed := v } (nextEngine c.params v c.monitor.engineState) := by
  unfold Chip.engineUpdate Chip.engineMoved
  dsimp only
  generalize nextEngine c.params v c.monitor.engineState = next
  split_ifs
  · rfl
  · exact Chip.motionEvent_judged _ (.engine next) nofun

/-- At speed 0 the ENGINE machine is STOPPED, whatever the thresholds (R53). -/
theorem nextEngine_zero (p : Params) (s : EngineState) : nextEngine p 0 s = .stopped := by
  simp [nextEngine]

/-- An ENGINE update of speed 0, as a change of the whole part (R48). -/
theorem Chip.engineUpdate_zero (c : Chip) :
    c.engineUpdate 0 = c.engineMoved { c.monitor.engine with speed := 0 } .stopped := by
  rw [← nextEngine_zero c.params c.monitor.engineState]
  exact c.engineUpdate_eq c.monitor.engine 0

theorem Chip.engineUpdate_zero_again (c : Chip) : (c.engineUpdate 0).engineUpdate 0 = c.engineUpdate 0 := by
  rw [Chip.engineUpdate_zero (c.engineUpdate 0), Chip.engineUpdate_zero c]
  exact Chip.engineMoved_same _ _

theorem Chip.engineMoved_frame (c : Chip) (k : CaptureChannel) (state : EngineState) :
    c.changesOnly [.monitor, .grant] (c.engineMoved k state) :=
  (Chip.changesOnly_iff _ _ _).mpr (by simp [Chip.engineMoved])

/-- The answer of a command by which the ENGINE channel and machine move. -/
theorem exec_engineMoved (i : Instr) (f : Chip → Chip) (s : State) (k : CaptureChannel) (state : EngineState)
    (hi : i.operation = some f) (hs : s.calm) (hd : f s.chip = s.chip.engineMoved k state) :
    ∃ t, exec i s = .next t ∧ s.changesOnly [.monitor, .grant] t
      ∧ t.chip.monitor = { s.chip.monitor with engine := k, engineState := state }
      ∧ t.chip.grant = if state = s.chip.monitor.engineState then s.chip.grant
          else s.chip.judgedWith { s.chip.grant.view with engine := state } := by
  obtain ⟨t, he, hf, hc⟩ := exec_of_frame i f s _ _ hi hs hd (s.chip.engineMoved_frame k state) (by simp) (by simp)
  exact ⟨t, he, hf, by rw [hc]; rfl, by rw [hc]; rfl⟩

/-! ## The ROAD machine (R48, R51, R54) -/

/-- The ROAD machine's state after a speed update (R54). -/
def nextRoad (p : Params) (v : Nat) (s : RoadState) : RoadState :=
  if v = 0 then .stationary
  else if v ≤ p.movingLow then .creeping
  else if v < p.movingHigh then (if s = .stationary then .creeping else s)
  else .moving

/-- The states entered are none, the next one, or CREEPING on the way from STATIONARY to MOVING (R54). -/
theorem roadPath_eq (p : Params) (v : Nat) (s : RoadState) :
    roadPath p v s =
      if nextRoad p v s = s then []
      else if s = .stationary ∧ nextRoad p v s = .moving then [.creeping, .moving]
      else [nextRoad p v s] := by
  unfold roadPath nextRoad
  by_cases zero : v = 0
  · cases s <;> simp [zero]
  by_cases low : v ≤ p.movingLow
  · cases s <;> simp [zero, low]
  by_cases high : v < p.movingHigh
  · cases s <;> simp [zero, low, high]
  · cases s <;> simp [zero, low, high]

/-- The part with this ROAD channel and machine state, and the event of a changed state judged (R57). -/
def Chip.roadMoved (k : CaptureChannel) (state : RoadState) (c : Chip) : Chip :=
  { c with
    monitor := { c.monitor with road := k, roadState := state }
    grant := if state = c.monitor.roadState then c.grant else c.judgedWith { c.grant.view with road := state } }

/-- A channel that moves without its machine is no event. -/
theorem Chip.roadMoved_same (c : Chip) (k : CaptureChannel) :
    c.roadMoved k c.monitor.roadState = { c with monitor.road := k } := by
  simp [Chip.roadMoved]

/-- The ROAD machine enters a state other than MOVING, or no grant is in force. -/
theorem Chip.enterRoad_judged (c : Chip) (s : RoadState)
    (h : s = .moving → c.grant.state ≠ .active ∧ c.grant.state ≠ .suspended) :
    c.enterRoad s = { c with
      monitor.roadState := s, grant := c.judgedWith { c.grant.view with road := s } } :=
  Chip.motionEvent_judged _ (.road s) fun he => h (MotionEvent.road.inj he)

/-- The ROAD machine enters MOVING under a grant in force (R68, R69). -/
theorem Chip.enterRoad_moving (c : Chip) (h : c.grant.state = .active ∨ c.grant.state = .suspended) :
    c.enterRoad .moving =
      ({ c with monitor.roadState := .moving, grant.view.road := .moving } : Chip).beginEnding .motion :=
  Chip.motionEvent_moving _ h

/-- Without a grant in force the ROAD machine and the controller's view take the state. -/
theorem Chip.enterRoad_of_not_inForce (c : Chip) (s : RoadState)
    (h : c.grant.state ≠ .active ∧ c.grant.state ≠ .suspended) :
    c.enterRoad s = { c with monitor.roadState := s, grant.view.road := s } := by
  rw [Chip.enterRoad_judged c s fun _ => h, Chip.judgedWith_of_not_inForce c _ h]

/-- CREEPING on the way to MOVING leaves no trace: a grant in force that it suspends is ended all the same. -/
theorem Chip.enterRoad_through (c : Chip) : (c.enterRoad .creeping).enterRoad .moving = c.enterRoad .moving := by
  by_cases inForce : c.grant.state = .active ∨ c.grant.state = .suspended
  · obtain ⟨left, suspended⟩ := c.judgedWith_of_road { c.grant.view with road := .creeping } inForce nofun
    rw [Chip.enterRoad_judged c .creeping nofun, suspended, Chip.enterRoad_moving c inForce,
      Chip.enterRoad_moving _ (.inr rfl)]
    rfl
  · have idle := not_or.mp inForce
    rw [Chip.enterRoad_of_not_inForce c .creeping idle, Chip.enterRoad_of_not_inForce c .moving idle]
    exact Chip.enterRoad_of_not_inForce _ .moving idle

/-- A ROAD speed update enters at most the next state (R54, R57). -/
theorem Chip.roadUpdate_eq (c : Chip) (v : Nat) (next : RoadState)
    (hn : nextRoad c.params v c.monitor.roadState = next) :
    c.roadUpdate v = if next = c.monitor.roadState then { c with monitor.road.speed := v }
      else ({ c with monitor.road.speed := v } : Chip).enterRoad next := by
  unfold Chip.roadUpdate
  rw [roadPath_eq, hn]
  split_ifs with same through
  · rfl
  · rw [through.2]
    exact Chip.enterRoad_through _
  · rfl

/-- A ROAD speed update of a channel that has just ticked, where the machine does not enter MOVING under a grant in
force. -/
theorem Chip.roadUpdate_judged (c : Chip) (k : CaptureChannel) (v : Nat) (next : RoadState)
    (hn : nextRoad c.params v c.monitor.roadState = next)
    (h : next = .moving → next ≠ c.monitor.roadState → c.grant.state ≠ .active ∧ c.grant.state ≠ .suspended) :
    ({ c with monitor.road := k } : Chip).roadUpdate v = c.roadMoved { k with speed := v } next := by
  refine (Chip.roadUpdate_eq { c with monitor.road := k } v next hn).trans ?_
  unfold Chip.roadMoved
  dsimp only
  split_ifs with same
  · rw [same]
  · exact Chip.enterRoad_judged _ next fun hm => h hm same

/-- The part once ROAD has entered MOVING with this channel, its event in the controller's view but not yet judged (R57,
R63). -/
def Chip.roadMoving (k : CaptureChannel) (c : Chip) : Chip :=
  { c with
    monitor := { c.monitor with road := k, roadState := .moving }
    grant := { c.grant with view := { c.grant.view with road := .moving } } }

theorem Chip.roadMoving_frame (c : Chip) (k : CaptureChannel) : c.changesOnly [.monitor, .grant] (c.roadMoving k) :=
  (Chip.changesOnly_iff _ _ _).mpr (by simp [Chip.roadMoving])

/-- ROAD reaching MOVING ends a grant in force (R54, R68, R69). -/
theorem Chip.roadUpdate_moving (c : Chip) (k : CaptureChannel) (v : Nat)
    (hn : nextRoad c.params v c.monitor.roadState = .moving) (hs : c.monitor.roadState ≠ .moving)
    (h : c.grant.state = .active ∨ c.grant.state = .suspended) :
    ({ c with monitor.road := k } : Chip).roadUpdate v =
      (c.roadMoving { k with speed := v }).beginEnding .motion := by
  refine (Chip.roadUpdate_eq { c with monitor.road := k } v .moving hn).trans ((if_neg (Ne.symm hs)).trans ?_)
  exact Chip.enterRoad_moving _ h

/-- At speed 0 the ROAD machine is STATIONARY (R54). -/
theorem nextRoad_zero (p : Params) (s : RoadState) : nextRoad p 0 s = .stationary := rfl

/-- A ROAD update of speed 0, as a change of the whole part (R48). -/
theorem Chip.roadUpdate_zero (c : Chip) :
    c.roadUpdate 0 = c.roadMoved { c.monitor.road with speed := 0 } .stationary :=
  c.roadUpdate_judged c.monitor.road 0 .stationary (nextRoad_zero _ _) nofun

theorem Chip.roadUpdate_zero_again (c : Chip) : (c.roadUpdate 0).roadUpdate 0 = c.roadUpdate 0 := by
  rw [Chip.roadUpdate_zero (c.roadUpdate 0), Chip.roadUpdate_zero c]
  exact Chip.roadMoved_same _ _

theorem Chip.roadMoved_frame (c : Chip) (k : CaptureChannel) (state : RoadState) :
    c.changesOnly [.monitor, .grant] (c.roadMoved k state) :=
  (Chip.changesOnly_iff _ _ _).mpr (by simp [Chip.roadMoved])

/-- The answer of a command by which the ROAD channel and machine move. -/
theorem exec_roadMoved (i : Instr) (f : Chip → Chip) (s : State) (k : CaptureChannel) (state : RoadState)
    (hi : i.operation = some f) (hs : s.calm) (hd : f s.chip = s.chip.roadMoved k state) :
    ∃ t, exec i s = .next t ∧ s.changesOnly [.monitor, .grant] t
      ∧ t.chip.monitor = { s.chip.monitor with road := k, roadState := state }
      ∧ t.chip.grant = if state = s.chip.monitor.roadState then s.chip.grant
          else s.chip.judgedWith { s.chip.grant.view with road := state } := by
  obtain ⟨t, he, hf, hc⟩ := exec_of_frame i f s _ _ hi hs hd (s.chip.roadMoved_frame k state) (by simp) (by simp)
  exact ⟨t, he, hf, by rw [hc]; rfl, by rw [hc]; rfl⟩

/-! ## Silence (R48) -/

/-- Settles O38: the tables by `roadPath` and `nextEngine`, and silence as the update of speed 0. -/
theorem silenceStopsTheMachines : Obligations.SilenceStopsTheMachines := by
  refine ⟨⟨fun p v st hp => ⟨fun hv => ?_, fun hl hh => ?_, fun hv => ?_⟩,
    fun p v hp => ⟨fun hv => ?_, fun h1 hv => ?_, fun h1 hl hh => ?_, fun hv => ?_⟩⟩,
    fun s hs => ⟨fun hr hw => ?_, fun hr hw => ?_, fun h => ?_, fun h => ?_⟩⟩
  · simp [nextEngine, hv]
  · simp [nextEngine, Nat.not_le.mpr hl, Nat.not_le.mpr hh]
  · simp [nextEngine, hv, Nat.not_le.mpr (hp.trans_le hv)]
  · simp [roadPath, hv]
  · simp [roadPath, Nat.ne_of_gt h1, hv]
  · simp [roadPath, Nat.ne_of_gt h1, Nat.not_le.mpr hl, hh]
  · have hl : p.movingLow < v := hp.trans_le hv
    simp [roadPath, Nat.ne_of_gt (Nat.zero_lt_of_lt hl), Nat.not_le.mpr hl, Nat.not_lt.mpr hv]
  · simp only [eq_comm (a := s.chip.monitor.engineState)]
    refine exec_engineMoved _ _ s _ _ rfl hs ?_
    rw [← Chip.engineUpdate_zero]
    simp [Chip.silence, hr, hw]
  · simp only [eq_comm (a := s.chip.monitor.roadState)]
    refine exec_roadMoved _ _ s _ _ rfl hs ?_
    rw [← Chip.roadUpdate_zero]
    simp [Chip.silence, hr, hw]
  · refine exec_of_unchanged _ _ s rfl hs ?_
    rcases h with h | h <;> simp [Chip.silence, h]
  · refine exec_of_unchanged _ _ s rfl hs ?_
    rcases h with h | h <;> simp [Chip.silence, h]

/-! ## The tick of a channel (R43–R47) -/

/-- A sample is a valid edge when it settles a level other than the filtered one and the channel's choice takes its
direction (R44, R45). -/
theorem CaptureChannel.validEdge_iff (k : CaptureChannel) (choice : EdgeChoice) (x : PinLevel) :
    (k.isEdge x && choice.accepts x) = true ↔ k.previous = some x
      ∧ ((k.filtered = .low ∧ x = .high ∧ choice ≠ .falling) ∨ (k.filtered = .high ∧ x = .low ∧ choice ≠ .rising)) := by
  unfold CaptureChannel.isEdge
  cases k.filtered <;> cases x <;> cases choice <;> simp [FilterLevel.ofPin, EdgeChoice.accepts]

/-- The channel after a tick that makes no capture (R43–R45). -/
def CaptureChannel.ticked (edge : Bool) (x : PinLevel) (k : CaptureChannel) : CaptureChannel :=
  { k.advance.sampled x with dividerCount := if edge then k.dividerCount + 1 else k.dividerCount }

/-- A tick without a capture (R43–R45, R48). -/
theorem CaptureChannel.tick_of_no_capture (k : CaptureChannel) (settings : ChannelSettings) (speed : Nat → Nat)
    (x : PinLevel) (edge : Bool) (he : (k.isEdge x && settings.edge.accepts x) = edge)
    (h : edge = true → k.dividerCount + 1 ≠ settings.divider) :
    k.tick settings speed x = (k.ticked edge x, if k.fallsSilent then [0] else []) := by
  unfold CaptureChannel.tick CaptureChannel.validEdge
  rw [he]
  cases edge with
  | false => rfl
  | true =>
    have incomplete : (k.advance.sampled x).dividerCount + 1 ≠ settings.divider := h rfl
    simp only [if_true, if_neg incomplete, Option.toList_none, List.append_nil]
    rfl

/-- A tick with a capture (R46–R48). -/
theorem CaptureChannel.tick_of_capture (k : CaptureChannel) (settings : ChannelSettings) (speed : Nat → Nat)
    (x : PinLevel) (he : (k.isEdge x && settings.edge.accepts x) = true) (h : k.dividerCount + 1 = settings.divider) :
    k.tick settings speed x = ((k.advance.sampled x).captured,
      (if k.fallsSilent then [0] else []) ++ ((k.advance.sampled x).captureSpeed speed).toList) := by
  have complete : (k.advance.sampled x).dividerCount + 1 = settings.divider := h
  unfold CaptureChannel.tick CaptureChannel.validEdge
  simp only [he, if_true, if_pos complete]

theorem CaptureChannel.fallsSilent_iff (k : CaptureChannel) :
    k.fallsSilent = true ↔ k.counter = 0xFFFF#16 ∧ k.wraps = 2 := by
  simp [CaptureChannel.fallsSilent]

/-- A capture at the tick that brings silence finds the period over-range (R46, R47, R51). -/
theorem CaptureChannel.captureSpeed_of_silent (k : CaptureChannel) (speed : Nat → Nat) (x : PinLevel)
    (h : k.fallsSilent = true) : (k.advance.sampled x).captureSpeed speed = k.reference.map fun _ => 0 := by
  obtain ⟨counter, wraps⟩ := k.fallsSilent_iff.mp h
  unfold CaptureChannel.captureSpeed
  refine Option.map_congr fun r _ => if_neg ?_
  have period : (k.advance.sampled x).period r = 3 * 65536 - r.toNat := by
    simp [CaptureChannel.period, CaptureChannel.sampled, CaptureChannel.advance, counter, wraps]
  have := r.isLt
  rw [period, Config.longestPeriod]
  omega

/-- The tick that brings silence: speed updates of 0 alone, the first of them silence's (R48). -/
theorem CaptureChannel.tick_of_silent (k : CaptureChannel) (settings : ChannelSettings) (speed : Nat → Nat)
    (x : PinLevel) (edge : Bool) (he : (k.isEdge x && settings.edge.accepts x) = edge) (h : k.fallsSilent = true) :
    ∃ zeros, (∀ u ∈ zeros, u = 0) ∧ k.tick settings speed x =
      (if edge = true ∧ k.dividerCount + 1 = settings.divider then (k.advance.sampled x).captured else k.ticked edge x,
        0 :: zeros) := by
  split_ifs with capture
  · obtain ⟨rfl, complete⟩ := capture
    refine ⟨(k.reference.map fun _ => 0).toList, fun u hu => ?_, ?_⟩
    · obtain ⟨_, _, rfl⟩ := Option.mem_map.mp (Option.mem_toList.mp hu)
      rfl
    · rw [k.tick_of_capture settings speed x he complete, k.captureSpeed_of_silent speed x h, if_pos h]
      rfl
  · refine ⟨[], nofun, ?_⟩
    rw [k.tick_of_no_capture settings speed x edge he fun hedge hd => capture ⟨hedge, hd⟩, if_pos h]

/-- Further updates of speed 0 change nothing that the first has not. -/
theorem foldl_zeros (f : Chip → Nat → Chip) (again : ∀ c, f (f c 0) 0 = f c 0) (zeros : List Nat)
    (hz : ∀ u ∈ zeros, u = 0) (c : Chip) : (0 :: zeros).foldl f c = f c 0 := by
  induction zeros with
  | nil => rfl
  | cons u us ih =>
    obtain ⟨rfl, rest⟩ := List.forall_mem_cons.mp hz
    exact (congrArg (us.foldl f) (again c)).trans (ih rest)

/-- A tick of the running ENGINE channel: the channel's tick, then its speed updates in order (R43). -/
theorem Chip.channelTick_engine (c : Chip) (x : PinLevel) (k : CaptureChannel) (updates : List Nat)
    (running : c.monitor.engine.running = true)
    (h : c.monitor.engine.tick c.params.engine (engineSpeed c.params.engine) x = (k, updates)) :
    c.channelTick .engine x = updates.foldl Chip.engineUpdate { c with monitor.engine := k } := by
  simp [Chip.channelTick, running, h]

/-- A tick of the running ROAD channel: the channel's tick, then its speed updates in order (R43). -/
theorem Chip.channelTick_road (c : Chip) (x : PinLevel) (k : CaptureChannel) (updates : List Nat)
    (running : c.monitor.road.running = true)
    (h : c.monitor.road.tick c.params.road (roadSpeed c.params.road) x = (k, updates)) :
    c.channelTick .road x = updates.foldl Chip.roadUpdate { c with monitor.road := k } := by
  simp [Chip.channelTick, running, h]

/-- The counter's advance, for a wrap count in its range (R43). -/
theorem CaptureChannel.advance_eq (k : CaptureChannel) (h : k.wraps ≤ 3) : k.advance = { k with
    counter := k.counter + 1
    wraps := if k.counter = 0xFFFF#16 ∧ k.wraps ≠ 3 then k.wraps + 1 else k.wraps } := by
  simp only [CaptureChannel.advance, lt_iff_le_and_ne, h, true_and, ne_eq]

/-- Settles O36: each channel's tick by whether it makes a capture and whether it brings silence. -/
theorem tickAdvancesTheChannel : Obligations.TickAdvancesTheChannel := by
  intro s x hs
  refine ⟨?_, fun h => ?_, fun h => ?_⟩
  · intro k settings edge running hw hedge k' silent
    have valid : (k.isEdge x && settings.edge.accepts x) = edge :=
      Bool.eq_iff_iff.mpr ((k.validEdge_iff settings.edge x).trans hedge.symm)
    have ticked : k.ticked edge x = k' := by
      unfold CaptureChannel.ticked
      rw [k.advance_eq hw]
      cases x <;> rfl
    refine ⟨fun noSilence noCapture => ?_, fun counter wraps => ?_⟩
    · have tick (speed : Nat → Nat) : k.tick settings speed x = (k', []) := by
        rw [k.tick_of_no_capture settings speed x edge valid noCapture, ticked,
          if_neg (noSilence ∘ k.fallsSilent_iff.mp)]
      refine ⟨fun hk hg => ?_, fun hk hg => ?_⟩
      · subst hk hg
        exact exec_of_monitor _ _ s _ rfl hs (s.chip.channelTick_engine x k' [] running (tick _))
      · subst hk hg
        exact exec_of_monitor _ _ s _ rfl hs (s.chip.channelTick_road x k' [] running (tick _))
    · have falls := k.fallsSilent_iff.mpr ⟨counter, wraps⟩
      have tick (speed : Nat → Nat) := k.tick_of_silent settings speed x edge valid falls
      have zeroed : ({ (if edge = true ∧ k.dividerCount + 1 = settings.divider then (k.advance.sampled x).captured
          else k.ticked edge x) with speed := 0 } : CaptureChannel) = silent := by
        have passes : k.counter + 1 = 0#16 := by rw [counter]; rfl
        dsimp only [silent]
        rw [ticked]
        split_ifs with capture
        · unfold CaptureChannel.captured
          rw [k.advance_eq hw, ← passes]
          cases x <;> rfl
        · rfl
      refine ⟨fun hk hg => ?_, fun hk hg => ?_⟩
      · subst hk hg
        obtain ⟨zeros, allZero, tick⟩ := tick (engineSpeed s.chip.params.engine)
        simp only [eq_comm (a := s.chip.monitor.engineState)]
        refine exec_engineMoved _ _ s _ _ rfl hs ?_
        rw [s.chip.channelTick_engine x _ _ running tick, foldl_zeros _ Chip.engineUpdate_zero_again zeros allZero,
          Chip.engineUpdate_zero, ← zeroed]
        rfl
      · subst hk hg
        obtain ⟨zeros, allZero, tick⟩ := tick (roadSpeed s.chip.params.road)
        simp only [eq_comm (a := s.chip.monitor.roadState)]
        refine exec_roadMoved _ _ s _ _ rfl hs ?_
        rw [s.chip.channelTick_road x _ _ running tick, foldl_zeros _ Chip.roadUpdate_zero_again zeros allZero,
          Chip.roadUpdate_zero, ← zeroed]
        rfl
  · exact exec_of_unchanged _ _ s rfl hs (by simp [Chip.channelTick, h])
  · exact exec_of_unchanged _ _ s rfl hs (by simp [Chip.channelTick, h])

/-! ## Captures (R46, R47, R49–R51) -/

theorem EdgeChoice.factor_eq (e : EdgeChoice) : e.factor = if e = .both then 2 else 1 := by
  cases e <;> rfl

/-- The ENGINE machine at a capture, which makes a speed update if the channel had a reference (R46, R51). -/
theorem Chip.engineCapture_eq (c : Chip) (k : CaptureChannel) (reference : Option Word) (v : Nat)
    (hv : reference = none → v = k.speed) :
    (reference.map fun _ => v).toList.foldl Chip.engineUpdate { c with monitor.engine := k } =
      c.engineMoved { k with speed := v }
        (if reference = none then c.monitor.engineState else nextEngine c.params v c.monitor.engineState) := by
  cases reference with
  | none =>
    rw [if_pos rfl, Chip.engineMoved_same, hv rfl]
    rfl
  | some r => exact Chip.engineUpdate_eq c k v

/-- The ROAD machine at a capture that does not make it enter MOVING under a grant in force. -/
theorem Chip.roadCapture_judged (c : Chip) (k : CaptureChannel) (reference : Option Word) (v : Nat) (next : RoadState)
    (hv : reference = none → v = k.speed)
    (hn : (if reference = none then c.monitor.roadState else nextRoad c.params v c.monitor.roadState) = next)
    (h : next = .moving → next ≠ c.monitor.roadState → c.grant.state ≠ .active ∧ c.grant.state ≠ .suspended) :
    (reference.map fun _ => v).toList.foldl Chip.roadUpdate { c with monitor.road := k } =
      c.roadMoved { k with speed := v } next := by
  cases reference with
  | none =>
    rw [← hn, if_pos rfl, Chip.roadMoved_same, hv rfl]
    rfl
  | some r => exact Chip.roadUpdate_judged c k v next hn h

/-- The answer of a command by which the monitor and the controller's view become those of `c` and the grant in force
there enters ENDING (R76). -/
theorem exec_beginEnding (i : Instr) (f : Chip → Chip) (s : State) (c : Chip) (reason : EndReason)
    (hi : i.operation = some f) (hs : s.calm) (frame : s.chip.changesOnly [.monitor, .grant] c)
    (hd : f s.chip = c.beginEnding reason) :
    ∃ t, exec i s = .next t ∧ s.changesOnly [.monitor, .grant, .overlay, .engine, .bus] t ∧ t.chip.monitor = c.monitor
      ∧ c.endedBy reason t.chip := by
  have settled : c.settled := by
    unfold Chip.settled
    rw [frame .bus (by simp)]
    exact hs.2.1
  have ended := c.beginEnding_endedBy reason
  have whole : s.chip.changesOnly [.monitor, .grant, .overlay, .engine, .bus] (c.beginEnding reason) := fun b hb =>
    Chip.same_trans (frame b fun h => hb (List.mem_append_left [Block.overlay, .engine, .bus] h))
      (c.beginEnding_frame reason b fun h => hb (List.mem_cons_of_mem _ h))
  exact ⟨_, exec_of_settled i f s _ hi hs hd (c.settled_of_endedBy _ reason settled ended) (whole .supply (by simp)),
    State.changesOnly_of_chip _ s _ whole, c.beginEnding_frame reason .monitor (by simp), ended⟩

/-- Settles O37: the capture's channel and its speed, then the machine's next state for that speed. -/
theorem capturesMeasureTheSpeed : Obligations.CapturesMeasureTheSpeed := by
  intro s x k g c2 wraps factor speed captured inForce hs running hw noSilence previous edge complete
  have valid : (k.isEdge x && g.edge.accepts x) = true := (k.validEdge_iff g.edge x).mpr ⟨previous, edge⟩
  have channel : (k.advance.sampled x).captured = captured k.speed := by
    unfold CaptureChannel.captured
    rw [k.advance_eq hw]
    cases x <;> simp [CaptureChannel.sampled, previous, captured, c2, FilterLevel.ofPin]
  have measured (numerator top : Nat) : (k.advance.sampled x).captureSpeed
      (fun p => min (numerator * g.rate.hz * g.divider / (g.scale * g.edge.factor * p)) top)
        = k.reference.map fun _ => speed numerator top := by
    simp only [CaptureChannel.captureSpeed, k.advance_eq hw, CaptureChannel.sampled, CaptureChannel.period,
      Config.longestPeriod, g.edge.factor_eq]
    cases hr : k.reference with
    | none => simp only [Option.map_none]
    | some c1 => simp only [speed, hr, Option.map_some, factor, wraps, c2]
  have tick (numerator top : Nat) : k.tick g
      (fun p => min (numerator * g.rate.hz * g.divider / (g.scale * g.edge.factor * p)) top) x
        = (captured k.speed, (k.reference.map fun _ => speed numerator top).toList) := by
    rw [k.tick_of_capture g _ x valid complete, if_neg (noSilence ∘ k.fallsSilent_iff.mp), channel, List.nil_append,
      measured]
  have unmeasured (numerator top : Nat) (first : k.reference = none) : speed numerator top = k.speed := by
    dsimp only [speed]
    rw [first]
  refine ⟨?_, ?_⟩
  · intro hk hg v before after
    refine exec_engineMoved _ _ s (captured v) after rfl hs ?_
    rw [s.chip.channelTick_engine x (captured k.speed) _ (hk ▸ running) (by rw [← hk, ← hg]; exact tick 60 16383)]
    exact s.chip.engineCapture_eq (captured k.speed) k.reference v (unmeasured 60 16383)
  · intro hk hg v before after
    have ticked := s.chip.channelTick_road x (captured k.speed) _ (hk ▸ running)
      (by rw [← hk, ← hg]; exact tick 36000 2550)
    refine ⟨fun judged => ?_, fun moving entered force => ?_⟩
    · refine exec_roadMoved _ _ s (captured v) after rfl hs (ticked.trans ?_)
      refine s.chip.roadCapture_judged (captured k.speed) k.reference v after (unmeasured 36000 2550) rfl
        fun moving changed => ?_
      rcases judged with other | same | idle
      · exact absurd moving other
      · exact absurd same changed
      · exact not_or.mp idle
    · refine exec_beginEnding _ _ s (s.chip.roadMoving (captured v)) .motion rfl hs
        (s.chip.roadMoving_frame (captured v)) (ticked.trans ?_)
      cases hr : k.reference with
      | none => exact absurd ((if_pos hr).symm.trans moving) entered
      | some c1 =>
        exact s.chip.roadUpdate_moving (captured k.speed) v ((if_neg (by simp [hr])).symm.trans moving) entered force

/-! ## The park brake (R55–R57) -/

/-- The debounce interval's completion, with the event of a changed park state judged (R55, R57). -/
theorem Chip.parkDebounced_eq (c : Chip) (park : ParkState) (h : c.monitor.debounce = true)
    (hp : ParkState.ofPin c.pins.park = park) :
    c.parkDebounced = { c with
      monitor := { c.monitor with park := park, debounce := false }
      grant := if c.monitor.park = park then c.grant else c.judgedWith { c.grant.view with park := park } } := by
  unfold Chip.parkDebounced Chip.enterPark
  rw [if_pos h, hp]
  dsimp only
  split_ifs with same
  · rw [← same]
  · exact Chip.motionEvent_judged _ (.park park) nofun

/-- The answer of the debounce interval's completion. -/
theorem exec_parkDebounceComplete (s : State) (park : ParkState) (grant : GrantController) (hs : s.calm)
    (h : s.chip.monitor.debounce = true) (hp : ParkState.ofPin s.chip.pins.park = park)
    (hg : (if s.chip.monitor.park = park then s.chip.grant
      else s.chip.judgedWith { s.chip.grant.view with park := park }) = grant) :
    ∃ t, exec .parkDebounceComplete s = .next t ∧ s.changesOnly [.monitor, .grant] t
      ∧ t.chip.monitor = { s.chip.monitor with park := park, debounce := false } ∧ t.chip.grant = grant := by
  obtain ⟨t, he, hf, hc⟩ := exec_of_frame .parkDebounceComplete _ s _ [.monitor, .grant] rfl hs
    (s.chip.parkDebounced_eq park h hp) ((Chip.changesOnly_iff _ _ _).mpr (by simp)) (by simp) (by simp)
  exact ⟨t, he, hf, by rw [hc], by rw [hc, ← hg]⟩

/-- REFLASH and FACTORY need the brake applied, ROAD STATIONARY and ENGINE STOPPED (R63). -/
theorem MotionView.meets_of_braked (v : MotionView) (l : Option Level) (h : l = some .reflash ∨ l = some .factory) :
    v.meets l = decide (v.road = .stationary ∧ v.engine = .stopped ∧ v.park = .applied) := by
  rcases h with rfl | rfl <;> rfl

/-- Settles O39: the debounce interval, and the judgement of the park state it settles. -/
theorem parkBrakeIsDebounced : Obligations.ParkBrakeIsDebounced := by
  intro s hs
  refine ⟨fun level changed => ?_, fun h => ⟨fun quiet => ?_, fun hp low active hl => ?_,
    fun hp high suspended hl road engine => ?_⟩⟩
  · have frame : s.chip.changesOnly [.pins, .monitor] (s.chip.parkInput level) :=
      (Chip.changesOnly_iff _ _ _).mpr (by unfold Chip.parkInput; split_ifs <;> simp)
    obtain ⟨t, he, hf, hc⟩ := exec_of_frame (.parkInputChange level) _ s _ _ rfl hs rfl frame (by simp) (by simp)
    refine ⟨t, he, hf, ?_, ?_⟩ <;> rw [hc] <;> unfold Chip.parkInput
    · split_ifs <;> rfl
    · simp only [Monitor.runs, Bool.and_eq_true, ne_eq, changed, not_false_eq_true, true_and, and_assoc]
      split_ifs <;> rfl
  · refine exec_parkDebounceComplete s _ _ hs h ?_ ?_
    · cases s.chip.pins.park <;> rfl
    · split_ifs with same
      · rfl
      · exact s.chip.judgedWith_of_not_inForce _ (quiet.resolve_left same)
  · refine exec_parkDebounceComplete s .released _ hs h (by rw [low]; rfl) ?_
    have fails :
        ({ s.chip.grant.view with park := .released } : MotionView).meets s.chip.grant.record.level = false := by
      simp [MotionView.meets_of_braked _ _ hl]
    rw [hp, if_neg nofun, Chip.judgedWith, if_pos ⟨active, fails⟩]
  · refine exec_parkDebounceComplete s .applied _ hs h (by rw [high]; rfl) ?_
    have holds :
        ({ s.chip.grant.view with park := .applied } : MotionView).meets s.chip.grant.record.level = true := by
      simp [MotionView.meets_of_braked _ _ hl, road, engine]
    rw [if_neg hp, Chip.judgedWith, if_neg (by simp [suspended]), if_pos ⟨suspended, holds⟩]

end Sys2Proof.Machine
end

section
/-! Grants in force only below the lockout threshold (R83), first part: the items the rule reads, what leaves them alone, and
the operations of the Grant Controller, the refusal list and the scanner. -/

namespace Sys2Proof.Machine

/-! ## The items that R83's rule reads -/

/-- The items that `Chip.lockoutSound` reads. -/
structure LockView where
  state : GrantState
  pendingEnd : Option EndReason
  strikes : Nat
  threshold : Nat
  phase : StartPhase
  power : PowerState
  settling : Bool
  cycleChecked : Bool

/-- What R83's rule reads of a part. -/
def Chip.lockView (c : Chip) : LockView where
  state := c.grant.state
  pendingEnd := c.grant.record.pendingEnd
  strikes := c.grant.strikes
  threshold := c.params.lockoutThreshold
  phase := c.supply.startUp.phase
  power := c.supply.power
  settling := c.supply.settling
  cycleChecked := c.scanner.cycleChecked

/-- R83's rule, of the items alone. -/
def LockView.sound (v : LockView) : Prop :=
  v.strikes ≤ 15 ∧ v.threshold ≤ 15
    ∧ (v.state = .active ∨ v.state = .suspended → v.strikes < v.threshold)
    ∧ (v.state = .opening → v.threshold ≤ v.strikes → v.pendingEnd ≠ none)
    ∧ (v.phase ≠ .ended → v.power = .start)
    ∧ (v.power = .start → v.cycleChecked = false ∧ v.state = .idle)
    ∧ (v.settling = true → v.power = .waking)

theorem Chip.lockoutSound_iff (c : Chip) : c.lockoutSound ↔ c.lockView.sound := Iff.rfl

/-- What leaves the items alone keeps the rule. -/
theorem Chip.lockoutSound.of_view {c d : Chip} (h : c.lockoutSound) (hd : d.lockView = c.lockView) : d.lockoutSound := by
  rw [Chip.lockoutSound_iff, hd]
  exact h

/-! ## Operations that leave the items alone

The Bus Path, the queues, the overlay, commits and the link have no part in the rule. -/

@[simp] theorem Chip.requestAppend_lockView (c : Chip) (r : AppendRequest) : (c.requestAppend r).lockView = c.lockView := by
  simp [Chip.lockView]

@[simp] theorem Chip.append_lockView (c : Chip) (source : AppendSource) (kind : AppendKind) :
    (c.append source kind).lockView = c.lockView := c.requestAppend_lockView _

@[simp] theorem Chip.appendClaimed_lockView (c : Chip) (kind : AppendKind) :
    (c.appendClaimed kind).lockView = c.lockView := c.requestAppend_lockView _

@[simp] theorem Chip.notify_lockView (c : Chip) (n : Notice) : (c.notify n).lockView = c.lockView := rfl

@[simp] theorem Chip.watchLow_lockView (c : Chip) (before : Nat) : (c.watchLow before).lockView = c.lockView := by
  simp [Chip.lockView]

@[simp] theorem Chip.completePending_lockView (c : Chip) (echo : Byte) (code : ResultCode) :
    (c.completePending echo code).lockView = c.lockView := by
  simp [Chip.lockView]

@[simp] theorem Chip.dropCycle_lockView (c : Chip) : c.dropCycle.lockView = c.lockView := by
  simp [Chip.lockView]

@[simp] theorem Chip.unpark_lockView (c : Chip) : c.unpark.lockView = c.lockView := by
  simp [Chip.lockView]

@[simp] theorem Chip.requestSum_lockView (c : Chip) (w : Win) (client : SumClient) :
    (c.requestSum w client).lockView = c.lockView := rfl

@[simp] theorem Chip.reportServed_lockView (c : Chip) (owner : Owner) : (c.reportServed owner).lockView = c.lockView := by
  unfold Chip.reportServed
  split
  · split <;> rfl
  all_goals rfl

@[simp] theorem Chip.storeOverlay_lockView (c : Chip) (y : CycleRecord) (limit : Option LimitNo) (p : PageNo) (n : Nat) :
    (c.storeOverlay y limit p n).lockView = c.lockView := by
  rw [Chip.storeOverlay_eq]
  rfl

@[simp] theorem Chip.completeCycle_lockView (c : Chip) (y : CycleRecord) (data : Word) :
    (c.completeCycle y data).lockView = c.lockView := rfl

@[simp] theorem Chip.serveOverlayWrite_lockView (c : Chip) (y : CycleRecord) (limit : Option LimitNo) (r : Resolution) :
    (c.serveOverlayWrite y limit r).lockView = c.lockView := by
  unfold Chip.serveOverlayWrite
  split <;> simp

@[simp] theorem Chip.serveHeld_lockView (c : Chip) (p : PageNo) : (c.serveHeld p).lockView = c.lockView := by
  unfold Chip.serveHeld
  split
  · split
    · split
      · split <;> simp
      · rfl
    · rfl
  · rfl

theorem Chip.loadAlong_lockView (ps : List PageNo) (n : Nat) (c : Chip) : (Chip.loadAlong ps n c).lockView = c.lockView := by
  induction ps generalizing n c with
  | nil => rfl
  | cons p rest ih =>
    unfold Chip.loadAlong
    split
    · rfl
    · exact (ih 0 _).trans (Chip.serveHeld_lockView _ p)

/-- Pages set one after the other leave the items alone. -/
theorem Chip.foldl_setPage_lockView (f : Chip → PageNo → Page) (ps : List PageNo) (c : Chip) :
    (ps.foldl (fun c p => c.setPage p (f c p)) c).lockView = c.lockView := by
  induction ps generalizing c with
  | nil => rfl
  | cons p ps ih => exact ih _

@[simp] theorem Chip.startLoads_lockView (c : Chip) (ps : List PageNo) : (c.startLoads ps).lockView = c.lockView := by
  have entered := Chip.foldl_setPage_lockView (fun c p => c.overlay.pages[p].enterLoading) ps c
  unfold Chip.startLoads
  split
  · exact (Chip.loadAlong_lockView ps 0 _).trans entered
  · exact entered

@[simp] theorem Chip.loaderRead_lockView (c : Chip) (data : Word) : (c.loaderRead data).lockView = c.lockView := by
  unfold Chip.loaderRead
  split
  · rfl
  · exact Chip.loadAlong_lockView _ _ _

@[simp] theorem Chip.closePages_lockView (c : Chip) : c.closePages.lockView = c.lockView := by
  rw [Chip.closePages_eq]
  rfl

@[simp] theorem Chip.closeWindows_lockView (c : Chip) (left : List Win) : (c.closeWindows left).lockView = c.lockView := by
  cases left with
  | nil => exact Chip.append_lockView _ _ _
  | cons w ws => rfl

@[simp] theorem Chip.closingSum_lockView (c : Chip) (w : Win) (sum : DWord) :
    (c.closingSum w sum).lockView = c.lockView := by
  unfold Chip.closingSum
  split <;> simp

@[simp] theorem Chip.closingGoesOn_lockView (c : Chip) : c.closingGoesOn.lockView = c.lockView := by
  unfold Chip.closingGoesOn
  split <;> simp

@[simp] theorem Chip.askClosingSum_lockView (c : Chip) : c.askClosingSum.lockView = c.lockView := by
  unfold Chip.askClosingSum
  split
  · split <;> rfl
  · rfl

@[simp] theorem Chip.keepGrant_lockView (c : Chip) : c.keepGrant.1.lockView = c.lockView := by
  unfold Chip.keepGrant
  split <;> rfl

@[simp] theorem Chip.openWindow_lockView (c : Chip) (w : Win) : (c.openWindow w).lockView = c.lockView :=
  Chip.append_lockView _ _ _

@[simp] theorem Chip.carryOut_lockView (c : Chip) (y : CycleRecord) (d : Decision) :
    (c.carryOut y d).lockView = c.lockView := by
  unfold Chip.carryOut
  split
  case h_5 => exact c.serveOverlayWrite_lockView y _ _
  all_goals rfl

@[simp] theorem Chip.announced_lockView (c : Chip) (w : Win) (written : Bool) :
    (c.announced w written).lockView = c.lockView := by
  have released (d : Chip) : (d.releaseOpening w written).lockView = d.lockView := by
    unfold Chip.releaseOpening
    split
    · split
      · split <;> rfl
      · rfl
    · rfl
  unfold Chip.announced
  rw [released]
  split <;> rfl

@[simp] theorem Chip.setPages_lockView (c : Chip) (ps : List PageNo) (state : PageState) :
    (c.setPages ps state).lockView = c.lockView :=
  Chip.foldl_setPage_lockView (fun c p => { c.overlay.pages[p] with state := state }) ps c

@[simp] theorem Chip.claim_lockView (c : Chip) (n : Nat) : (c.claim n).lockView = c.lockView :=
  Chip.watchLow_lockView _ _

@[simp] theorem Chip.takeCommit_lockView (c : Chip) (pages : PageSet) : (c.takeCommit pages).1.lockView = c.lockView := by
  unfold Chip.takeCommit
  split
  · rfl
  · split
    · rfl
    · simp only [Chip.acceptCommit, Chip.appendClaimed_lockView, Chip.claim_lockView, Chip.setPages_lockView]
      rfl

@[simp] theorem Chip.commitNext_lockView (c : Chip) : c.commitNext.lockView = c.lockView := by
  unfold Chip.commitNext
  split
  · rfl
  · split <;> simp

@[simp] theorem Chip.trimFinished_lockView (c : Chip) (p : PageNo) (written : Bool) :
    (c.trimFinished p written).lockView = c.lockView := by
  unfold Chip.trimFinished
  split
  · rfl
  · dsimp only
    split
    · exact Chip.commitNext_lockView _
    · rfl

@[simp] theorem Chip.commitSum_lockView (c : Chip) (w : Win) (sum : DWord) : (c.commitSum w sum).lockView = c.lockView := by
  unfold Chip.commitSum
  split <;> simp

@[simp] theorem Chip.takeDiscard_lockView (c : Chip) (pages : PageSet) :
    (c.takeDiscard pages).1.lockView = c.lockView := by
  unfold Chip.takeDiscard
  split <;> simp

@[simp] theorem Chip.rebaseNext_lockView (c : Chip) (left : List Win) : (c.rebaseNext left).lockView = c.lockView := by
  cases left <;> rfl

@[simp] theorem Chip.takeRebase_lockView (c : Chip) : c.takeRebase.1.lockView = c.lockView := by
  unfold Chip.takeRebase
  split <;> simp

@[simp] theorem Chip.rebaseFinished_lockView (c : Chip) : c.rebaseFinished.lockView = c.lockView := by
  unfold Chip.rebaseFinished
  split <;> simp

@[simp] theorem Chip.rebaseSum_lockView (c : Chip) (w : Win) (sum : DWord) : (c.rebaseSum w sum).lockView = c.lockView := by
  unfold Chip.rebaseSum
  split <;> simp

@[simp] theorem Chip.dropPassSum_lockView (c : Chip) : c.dropPassSum.lockView = c.lockView := by
  unfold Chip.dropPassSum
  split <;> rfl

@[simp] theorem Chip.takeArchived_lockView (c : Chip) (n : Nat) : (c.takeArchived n).lockView = c.lockView :=
  Chip.watchLow_lockView _ _

@[simp] theorem Chip.requestArchived_lockView (c : Chip) (n : Nat) : (c.requestArchived n).1.lockView = c.lockView := by
  unfold Chip.requestArchived
  split
  · rfl
  · split
    · exact c.takeArchived_lockView n
    · rfl

@[simp] theorem Chip.unclaim_lockView (c : Chip) (r : AppendRequest) : (c.unclaim r).lockView = c.lockView := by
  unfold Chip.unclaim
  split <;> rfl

@[simp] theorem Chip.presentFirst_lockView (c : Chip) (ws : List (Addr × Word)) :
    (c.presentFirst ws).lockView = c.lockView := by
  unfold Chip.presentFirst
  split <;> rfl

@[simp] theorem Chip.startRecord_lockView (c : Chip) (r : AppendRequest) (taken : Option Taken) (e : EngineFields) :
    (c.startRecord r taken e).lockView = c.lockView := Chip.presentFirst_lockView _ _

@[simp] theorem Chip.startAppend_lockView (c : Chip) (r : AppendRequest) : (c.startAppend r).lockView = c.lockView := by
  unfold Chip.startAppend
  split
  · rfl
  all_goals exact c.startRecord_lockView r none _

@[simp] theorem Chip.tickTimers_lockView (c : Chip) : c.tickTimers.lockView = c.lockView := by
  unfold Chip.tickTimers Chip.lockView GrantRecord.secondPassed
  dsimp only
  split <;> rfl

@[simp] theorem Chip.parkInput_lockView (c : Chip) (level : PinLevel) : (c.parkInput level).lockView = c.lockView := by
  unfold Chip.parkInput
  dsimp only
  split <;> rfl

@[simp] theorem Chip.ignitionInput_lockView (c : Chip) (level : PinLevel) :
    (c.ignitionInput level).lockView = c.lockView := by
  unfold Chip.ignitionInput
  dsimp only
  split <;> rfl

@[simp] theorem Chip.delayExpired_lockView (c : Chip) : c.delayExpired.lockView = c.lockView := by
  unfold Chip.delayExpired
  split <;> rfl

@[simp] theorem Chip.transactionEnd_lockView (c : Chip) (clocked : Nat) :
    (c.transactionEnd clocked).lockView = c.lockView := by
  unfold Chip.transactionEnd
  split <;> rfl

/-! ## The Grant Controller's own operations -/

/-- The entry to ENDING changes the grant's state alone. -/
theorem Chip.beginEnding_lockView (c : Chip) (reason : EndReason) :
    (c.beginEnding reason).lockView = { c.lockView with state := .ending } := by
  cases h : c.engine.commit with
  | some run =>
    rw [c.beginEnding_of_commit reason (by simp [Chip.commitInFlight, h])]
    rfl
  | none =>
    rw [c.beginEnding_of_no_commit reason h, c.closePages_eq]
    rfl

/-- An end cause ends a grant in force and becomes the pending end reason of one in OPENING that has none (R67, R75). -/
theorem Chip.endCause_lockView (c : Chip) (reason : EndReason) :
    (c.endCause reason).lockView = { c.lockView with
      state := if c.grant.state.inForce then .ending else c.grant.state
      pendingEnd := if c.grant.state = .opening ∧ c.grant.record.pendingEnd = none then some reason
        else c.grant.record.pendingEnd } := by
  cases h : c.grant.state with
  | active =>
    rw [c.endCause_of_inForce reason (.inl h), c.beginEnding_lockView]
    simp [GrantState.inForce, Chip.lockView]
  | suspended =>
    rw [c.endCause_of_inForce reason (.inr h), c.beginEnding_lockView]
    simp [GrantState.inForce, Chip.lockView]
  | idle => simp [Chip.endCause, h, GrantState.inForce, Chip.lockView]
  | ending => simp [Chip.endCause, h, GrantState.inForce, Chip.lockView]
  | opening =>
    rw [c.endCause_of_opening reason h]
    simp [h, GrantState.inForce, Chip.lockView]

variable {c : Chip}

/-- A grant that is not IDLE may enter ENDING. -/
theorem Chip.beginEnding_keeps_lockoutSound (reason : EndReason) (hi : c.grant.state ≠ .idle) (h : c.lockoutSound) :
    (c.beginEnding reason).lockoutSound := by
  obtain ⟨h15, ht15, -, -, hphase, hstart, hset⟩ := h
  rw [Chip.lockoutSound_iff, Chip.beginEnding_lockView]
  exact ⟨h15, ht15, nofun, nofun, hphase, fun hp => absurd (hstart hp).2 hi, hset⟩

theorem Chip.endCause_keeps_lockoutSound (reason : EndReason) (h : c.lockoutSound) : (c.endCause reason).lockoutSound := by
  cases hg : c.grant.state with
  | active =>
    rw [c.endCause_of_inForce reason (.inl hg)]
    exact Chip.beginEnding_keeps_lockoutSound reason (by simp [hg]) h
  | suspended =>
    rw [c.endCause_of_inForce reason (.inr hg)]
    exact Chip.beginEnding_keeps_lockoutSound reason (by simp [hg]) h
  | idle => rwa [c.endCause_of_idle reason (.inl hg)]
  | ending => rwa [c.endCause_of_idle reason (.inr hg)]
  | opening =>
    obtain ⟨h15, ht15, -, hopen, hphase, hstart, hset⟩ := h
    rw [Chip.lockoutSound_iff, Chip.endCause_lockView]
    refine ⟨h15, ht15, by simp [hg, GrantState.inForce], fun _ hle => ?_, hphase, fun hp => ?_, hset⟩
    · dsimp only
      split
      · simp
      · exact hopen hg hle
    · have idle := (hstart hp).2
      rw [hg] at idle
      cases idle

theorem Chip.tamperCause_keeps_lockoutSound (h : c.lockoutSound) : c.tamperCause.lockoutSound := by
  unfold Chip.tamperCause
  split
  · exact h
  · exact Chip.endCause_keeps_lockoutSound .tamper h

/-- The grant record emptied: no grant is left. -/
theorem Chip.emptyGrant_keeps_lockoutSound (h : c.lockoutSound) : c.emptyGrant.lockoutSound := by
  obtain ⟨h15, ht15, -, -, hphase, hstart, hset⟩ := h
  exact ⟨h15, ht15, nofun, nofun, hphase, fun hp => ⟨(hstart hp).1, rfl⟩, hset⟩

theorem Chip.endingComplete_keeps_lockoutSound (h : c.lockoutSound) : c.endingComplete.lockoutSound :=
  Chip.emptyGrant_keeps_lockoutSound (c := { c with grant.lastEnd := c.grant.record.endReason.getD .none }) h

/-- A motion event moves a grant in force between ACTIVE and SUSPENDED, or ends it; without one it updates the view (R68,
R69). -/
theorem Chip.motionEvent_keeps_lockoutSound (e : MotionEvent) (h : c.lockoutSound) : (c.motionEvent e).lockoutSound := by
  obtain ⟨h15, ht15, hforce, hopen, hphase, hstart, hset⟩ := h
  by_cases ends : e = .road .moving ∧ (c.grant.state = .active ∨ c.grant.state = .suspended)
  · obtain ⟨rfl, inForce⟩ := ends
    rw [c.motionEvent_moving inForce]
    refine Chip.beginEnding_keeps_lockoutSound .motion ?_ ⟨h15, ht15, hforce, hopen, hphase, hstart, hset⟩
    rcases inForce with hg | hg <;> simp [hg]
  · rw [c.motionEvent_judged e (by tauto)]
    unfold Chip.judgedWith
    split_ifs with suspends resumes
    · exact ⟨h15, ht15, fun _ => hforce (.inl suspends.1), nofun, hphase,
        fun hp => absurd ((hstart hp).2.symm.trans suspends.1) nofun, hset⟩
    · exact ⟨h15, ht15, fun _ => hforce (.inr resumes.1), nofun, hphase,
        fun hp => absurd ((hstart hp).2.symm.trans resumes.1) nofun, hset⟩
    · exact ⟨h15, ht15, hforce, hopen, hphase, hstart, hset⟩

/-- Motion events reach neither the power state nor the parameters. -/
theorem Chip.motionEvent_supply (c : Chip) (e : MotionEvent) : (c.motionEvent e).supply = c.supply := by
  by_cases ends : e = .road .moving ∧ (c.grant.state = .active ∨ c.grant.state = .suspended)
  · obtain ⟨rfl, inForce⟩ := ends
    rw [c.motionEvent_moving inForce]
    exact (Chip.beginEnding_keeps _ _).1
  · rw [c.motionEvent_judged e (by tauto)]

/-- What each change of a chain keeps, the chain keeps. -/
theorem Chip.foldl_keeps {α : Type} (P : Chip → Prop) (f : Chip → α → Chip) (hf : ∀ c x, P c → P (f c x)) (xs : List α)
    (c : Chip) (h : P c) : P (xs.foldl f c) := by
  induction xs generalizing c with
  | nil => exact h
  | cons x xs ih => exact ih _ (hf c x h)

theorem Chip.startMonitor_keeps_lockoutSound (h : c.lockoutSound) : c.startMonitor.lockoutSound :=
  Chip.foldl_keeps Chip.lockoutSound Chip.motionEvent (fun _ e => Chip.motionEvent_keeps_lockoutSound e) _ _ h

theorem Chip.startMonitor_supply (c : Chip) : c.startMonitor.supply = c.supply :=
  Chip.foldl_keeps (fun d => d.supply = c.supply) Chip.motionEvent (fun d e hd => (d.motionEvent_supply e).trans hd) _ _ rfl

theorem Chip.engineUpdate_keeps_lockoutSound (v : Nat) (h : c.lockoutSound) : (c.engineUpdate v).lockoutSound := by
  unfold Chip.engineUpdate
  dsimp only
  split
  · exact h
  · exact Chip.motionEvent_keeps_lockoutSound _ h

theorem Chip.roadUpdate_keeps_lockoutSound (v : Nat) (h : c.lockoutSound) : (c.roadUpdate v).lockoutSound :=
  Chip.foldl_keeps Chip.lockoutSound Chip.enterRoad
    (fun d s hd => Chip.motionEvent_keeps_lockoutSound (c := { d with monitor.roadState := s }) (.road s) hd) _ _ h

theorem Chip.channelTick_keeps_lockoutSound (channel : Channel) (sample : PinLevel) (h : c.lockoutSound) :
    (c.channelTick channel sample).lockoutSound := by
  cases channel with
  | engine =>
    simp only [Chip.channelTick]
    split
    · exact Chip.foldl_keeps _ _ (fun _ v => Chip.engineUpdate_keeps_lockoutSound v) _ _ h
    · exact h
  | road =>
    simp only [Chip.channelTick]
    split
    · exact Chip.foldl_keeps _ _ (fun _ v => Chip.roadUpdate_keeps_lockoutSound v) _ _ h
    · exact h

theorem Chip.silence_keeps_lockoutSound (channel : Channel) (h : c.lockoutSound) : (c.silence channel).lockoutSound := by
  cases channel with
  | engine =>
    simp only [Chip.silence]
    split
    · exact Chip.engineUpdate_keeps_lockoutSound 0 h
    · exact h
  | road =>
    simp only [Chip.silence]
    split
    · exact Chip.roadUpdate_keeps_lockoutSound 0 h
    · exact h

theorem Chip.parkDebounced_keeps_lockoutSound (h : c.lockoutSound) : c.parkDebounced.lockoutSound := by
  unfold Chip.parkDebounced Chip.enterPark
  split
  · split
    · exact h
    · exact Chip.motionEvent_keeps_lockoutSound _ h
  · exact h

/-- A GRANT is admitted only outside lockout and after a scan pass, so not in START (R65). -/
theorem Chip.admitGrant_keeps_lockoutSound (f : GrantFields) (hf : c.grantRefusal f = none) (h : c.lockoutSound) :
    (c.admitGrant f).lockoutSound := by
  have scanned : c.scanner.cycleChecked ≠ false := fun hc => by simp [Chip.grantRefusal, hc] at hf; split_ifs at hf
  have unlocked : c.lockout ≠ true := fun hl => by simp [Chip.grantRefusal, hl] at hf; split_ifs at hf
  obtain ⟨h15, ht15, -, -, hphase, hstart, hset⟩ := h
  refine Chip.lockoutSound.of_view (c := { c with grant.state := .opening, grant.record := c.admittedRecord f })
    ⟨h15, ht15, nofun, fun _ hle => absurd (decide_eq_true hle) unlocked, hphase,
      fun hp => absurd (hstart hp).1 scanned, hset⟩ (Chip.append_lockView _ _ _)

/-- The opening ends in force only without a pending end reason, and so below the threshold (R67). -/
theorem Chip.openingEnds_keeps_lockoutSound (seq : Nat) (ho : c.grant.state = .opening) (h : c.lockoutSound) :
    (c.openingEnds seq).lockoutSound := by
  have ends (reason : EndReason) : (({ c with grant.record.beginSeq := seq } : Chip).beginEnding reason).lockoutSound :=
    Chip.beginEnding_keeps_lockoutSound reason (fun hi => by cases ho.symm.trans hi) h
  have force (state : GrantState) (suspend : Option Nat) (hstate : state = .active ∨ state = .suspended)
      (hp : c.grant.record.pendingEnd = none) :
      (({ c with grant.record.beginSeq := seq } : Chip).takeForce state suspend).lockoutSound := by
    obtain ⟨h15, ht15, -, hopen, hphase, hstart, hset⟩ := h
    have below : c.grant.strikes < c.params.lockoutThreshold := Nat.lt_of_not_le fun hle => hopen ho hle hp
    refine Chip.lockoutSound.of_view (c := { c with grant := { c.grant with state := state } }) ?_
      (Chip.startLoads_lockView _ _)
    refine ⟨h15, ht15, fun _ => below, fun hs => ?_, hphase, fun hp => ?_, hset⟩
    · rcases hstate with rfl | rfl <;> cases hs
    · cases ho.symm.trans (hstart hp).2
  unfold Chip.openingEnds
  refine Chip.lockoutSound.of_view ?_ (Chip.completePending_lockView _ _ _)
  dsimp only
  split
  · exact ends _
  · next hp =>
    split
    · exact ends .motion
    · split
      · exact force .active none (.inl rfl) hp
      · exact force .suspended _ (.inr rfl) hp

theorem Chip.openingWritten_keeps_lockoutSound (seq : Nat) (h : c.lockoutSound) : (c.openingWritten seq).lockoutSound := by
  unfold Chip.openingWritten
  split
  · next ho => exact Chip.openingEnds_keeps_lockoutSound seq ho h
  · exact h

theorem Chip.openingFailed_keeps_lockoutSound (h : c.lockoutSound) : c.openingFailed.lockoutSound := by
  unfold Chip.openingFailed
  split
  · exact (Chip.emptyGrant_keeps_lockoutSound h).of_view (Chip.completePending_lockView _ _ _)
  · exact h

theorem Chip.applyExpiry_keeps_lockoutSound (h : c.lockoutSound) : c.applyExpiry.lockoutSound := by
  unfold Chip.applyExpiry
  split
  · next reason due =>
    refine Chip.beginEnding_keeps_lockoutSound reason (fun hi => ?_) h
    simp [GrantController.dueEnd, hi, GrantState.inForce] at due
  · exact h

/-- The strike that takes the count to the threshold ends a grant in force, or gives one in OPENING its end reason (R83). -/
theorem Chip.strike_keeps_lockoutSound (h : c.lockoutSound) : c.strike.lockoutSound := by
  obtain ⟨-, ht15, hforce, hopen, hphase, hstart, hset⟩ := h
  rw [Chip.strike_eq]
  split
  · have view : c.struck.beginLockout.lockView = { c.struck.lockView with
        state := if c.grant.state.inForce then .ending else c.grant.state
        pendingEnd := if c.grant.state = .opening ∧ c.grant.record.pendingEnd = none then some .lockout
          else c.grant.record.pendingEnd } := by
      unfold Chip.beginLockout
      rw [Chip.notify_lockView, Chip.endCause_lockView, Chip.append_lockView, Chip.append_grant]
      rfl
    rw [Chip.lockoutSound_iff, view]
    refine ⟨Nat.min_le_right _ _, ht15, fun hs => ?_, fun hs _ => ?_, hphase, fun hp => ⟨(hstart hp).1, ?_⟩, hset⟩
    · cases hg : c.grant.state <;> simp [hg, GrantState.inForce] at hs
    · have opening : c.grant.state = .opening := by
        cases hg : c.grant.state <;> simp [hg, GrantState.inForce] at hs ⊢
      dsimp only
      split
      · simp
      · next hp => simpa [opening] using hp
    · simp [(hstart hp).2, GrantState.inForce]
  · next stays =>
    -- lockout stood before, or does not begin
    rw [Bool.and_eq_true, Bool.not_eq_true', not_and_or] at stays
    have locked : c.params.lockoutThreshold ≤ c.grant.strikes
        ∨ min (c.grant.strikes + 1) 15 < c.params.lockoutThreshold := by
      rcases stays with before | after
      · exact .inl (of_decide_eq_true (Bool.not_eq_false _ ▸ before))
      · exact .inr (Nat.lt_of_not_le fun hle => after (decide_eq_true hle))
    refine ⟨Nat.min_le_right _ _, ht15, fun hs => ?_, fun hs hle => hopen hs ?_, hphase, hstart, hset⟩
    · have below := hforce hs
      change min (c.grant.strikes + 1) 15 < c.params.lockoutThreshold
      omega
    · change c.params.lockoutThreshold ≤ min (c.grant.strikes + 1) 15 at hle
      omega

/-- A decay lowers the count (R82). -/
theorem Chip.applyDecay_keeps_lockoutSound (h : c.lockoutSound) : c.applyDecay.lockoutSound := by
  have lowered : ({ c with grant.strikes := c.grant.strikes - 1, grant.decay := 0 } : Chip).lockoutSound := by
    obtain ⟨h15, ht15, hforce, hopen, hphase, hstart, hset⟩ := h
    exact ⟨(Nat.sub_le _ _).trans h15, ht15, fun hs => (Nat.sub_le _ _).trans_lt (hforce hs),
      fun hs hle => hopen hs (le_trans hle (Nat.sub_le _ _)), hphase, hstart, hset⟩
  unfold Chip.applyDecay
  split
  · dsimp only
    split
    · exact lowered.of_view (Chip.append_lockView _ _ _)
    · exact lowered
  · exact h

theorem Chip.revokeGrant_keeps_lockoutSound (h : c.lockoutSound) : c.revokeGrant.1.lockoutSound := by
  unfold Chip.revokeGrant
  split
  · exact h
  · exact Chip.endCause_keeps_lockoutSound .revoked h

/-! ## Decided cycles and commits -/

theorem Chip.refuse_keeps_lockoutSound (y : CycleRecord) (reason : Reason) (r : Resolution) (h : c.lockoutSound) :
    (c.refuse y reason r).lockoutSound := by
  have listed : (c.listed y reason r).lockoutSound := h.of_view (by unfold Chip.listed; dsimp only; split <;> rfl)
  rw [Chip.refuse_eq]
  split
  · exact Chip.strike_keeps_lockoutSound listed
  · exact listed

theorem Chip.handOver_keeps_lockoutSound (y : CycleRecord) (d : Decision) (h : c.lockoutSound) :
    (c.handOver y d).lockoutSound := by
  have refused : (match d.refusal with
      | some reason => c.refuse y reason d.resolution
      | none => c).lockoutSound := by
    split
    · exact Chip.refuse_keeps_lockoutSound y _ _ h
    · exact h
  unfold Chip.handOver
  dsimp only
  split
  · exact refused.of_view (Chip.openWindow_lockView _ _)
  · exact refused

theorem Chip.decideCycle_keeps_lockoutSound (y : CycleRecord) (h : c.lockoutSound) : (c.decideCycle y).lockoutSound := by
  unfold Chip.decideCycle Chip.decideLanes
  split
  · exact h
  · exact (Chip.handOver_keeps_lockoutSound y (c.decision y) h).of_view (by simp)

theorem Chip.gateChanged_keeps_lockoutSound (h : c.lockoutSound) : c.gateChanged.lockoutSound := by
  unfold Chip.gateChanged
  split
  · split
    · exact Chip.decideCycle_keeps_lockoutSound _ h
    · exact h
  · exact h

/-- The finish of a commit goes on with the ending that waited for it, which is one already (R77, R151). -/
theorem Chip.commitFinish_keeps_lockoutSound (h : c.lockoutSound) : c.commitFinish.lockoutSound := by
  unfold Chip.commitFinish
  split
  · exact h
  · refine Chip.lockoutSound.of_view h ?_
    unfold Chip.leaveCommitting Chip.closeGrant
    rw [Chip.notify_lockView]
    split <;> simp <;> rfl

/-! ## The scanner's passes -/

theorem Chip.tamperFound_keeps_lockoutSound (w : Win) (found : DWord) (h : c.lockoutSound) :
    (c.tamperFound w found).1.lockoutSound := by
  have noted : (({ c with
      scanner.tamper := addWin c.scanner.tamper w
      scanner.tickets := c.scanner.tickets + 1 }.notify .tamperFound).drawn).lockoutSound := h
  unfold Chip.tamperFound
  dsimp only
  split
  · exact (Chip.tamperCause_keeps_lockoutSound noted).of_view (Chip.requestAppend_lockView _ _)
  · exact Chip.tamperCause_keeps_lockoutSound (noted.of_view (Chip.requestAppend_lockView _ _))

theorem Chip.judge_keeps_lockoutSound (w : Win) (found : DWord) (h : c.lockoutSound) :
    (c.judge w found).1.lockoutSound := by
  have differs (result : ScanResult) : (c.judgeDiffers w result found).1.lockoutSound := by
    unfold Chip.judgeDiffers
    dsimp only
    split
    · exact h
    · exact Chip.tamperFound_keeps_lockoutSound (c := c.enterResult w result (some found)) w found h
  unfold Chip.judge
  split
  · exact h
  · split
    · exact Chip.lockoutSound.of_view (c := c.enterResult w .adopted (some found)) h (Chip.requestAppend_lockView _ _)
    · split
      · exact differs .unknownRef
      · split
        · exact h
        · exact differs .mismatch

/-- The completion of a pass checks the cycle in ACTIVE alone, so not in START (R165). -/
theorem Chip.passComplete_keeps_lockoutSound (h : c.lockoutSound) : c.passComplete.lockoutSound := by
  obtain ⟨h15, ht15, hforce, hopen, hphase, hstart, hset⟩ := h
  refine ⟨h15, ht15, hforce, hopen, hphase, fun hp => ⟨?_, (hstart hp).2⟩, hset⟩
  have power : c.supply.power = .start := hp
  simp [Chip.passComplete, Chip.notify, power, (hstart hp).1]

theorem Chip.passOn_keeps_lockoutSound (left : List Win) (h : c.lockoutSound) : (Chip.passOn left c).lockoutSound := by
  induction left generalizing c with
  | nil => exact Chip.passComplete_keeps_lockoutSound h
  | cons w ws ih =>
    unfold Chip.passOn
    split
    · exact h
    · split
      · exact ih h
      · split
        · exact h
        · have judged := Chip.judge_keeps_lockoutSound w emptySum h
          split
          · next hj => rw [hj] at judged; exact ih judged
          · next hj => rw [hj] at judged; exact judged

theorem Chip.startPass_keeps_lockoutSound (h : c.lockoutSound) : c.startPass.lockoutSound :=
  Chip.passOn_keeps_lockoutSound _ h

theorem Chip.passSum_keeps_lockoutSound (w : Win) (found : DWord) (h : c.lockoutSound) :
    (c.passSum w found).lockoutSound := by
  unfold Chip.passSum
  split
  · exact h
  · have judged := Chip.judge_keeps_lockoutSound w found h
    split
    · next hj => rw [hj] at judged; exact Chip.passOn_keeps_lockoutSound _ judged
    · next hj => rw [hj] at judged; exact judged

theorem Chip.passWaited_keeps_lockoutSound (phase : PassPhase) (h : c.lockoutSound) :
    (c.passWaited phase).lockoutSound := by
  unfold Chip.passWaited
  split
  · exact h
  · split
    · exact Chip.passOn_keeps_lockoutSound _ h
    · exact h

theorem Chip.resumePass_keeps_lockoutSound (h : c.lockoutSound) : c.resumePass.lockoutSound := by
  unfold Chip.resumePass
  split
  · exact h
  · exact Chip.passWaited_keeps_lockoutSound .between h

theorem Chip.rescan_keeps_lockoutSound (h : c.lockoutSound) : c.rescan.1.lockoutSound := by
  unfold Chip.rescan Chip.restartPass
  split
  · split
    · exact Chip.startPass_keeps_lockoutSound h
    · dsimp only
      split
      · exact h
      · exact Chip.startPass_keeps_lockoutSound h
      · exact Chip.startPass_keeps_lockoutSound h
      · exact Chip.startPass_keeps_lockoutSound (h.of_view c.dropPassSum_lockView)
  · exact h

theorem Chip.periodicExpiry_keeps_lockoutSound (h : c.lockoutSound) : c.periodicExpiry.lockoutSound := by
  unfold Chip.periodicExpiry
  split
  · split
    · exact Chip.startPass_keeps_lockoutSound h
    · exact h
  · exact h

end Sys2Proof.Machine
end

section
/-! Grants in force only below the lockout threshold (R83), second part: the start-up order, the Record Engine, sums, power
states, the link, and every step. -/

namespace Sys2Proof.Machine

/-! ## START (R178–R182): no grant exists, and only here are the parameters settled -/

/-- The part in START, as R83's rule needs it: no grant, and no pass completed. -/
def Chip.starting (c : Chip) : Prop :=
  c.grant.strikes ≤ 15 ∧ c.params.lockoutThreshold ≤ 15 ∧ c.supply.power = .start ∧ c.scanner.cycleChecked = false
    ∧ c.grant.state = .idle ∧ c.supply.settling = false

variable {c : Chip}

/-- In START the rule says just this. -/
theorem Chip.starting.sound (h : c.starting) : c.lockoutSound := by
  obtain ⟨h15, ht15, hp, hu, hi, hs⟩ := h
  exact ⟨h15, ht15, by simp [hi], by simp [hi], fun _ => hp, fun _ => ⟨hu, hi⟩, by simp [hs]⟩

theorem Chip.lockoutSound.starting (h : c.lockoutSound) (hp : c.supply.power = .start) : c.starting := by
  obtain ⟨h15, ht15, -, -, -, hstart, hset⟩ := h
  refine ⟨h15, ht15, hp, (hstart hp).1, (hstart hp).2, Bool.eq_false_iff.mpr fun hs => ?_⟩
  cases hp.symm.trans (hset hs)

/-- While the start-up order is not over the part is in START (R182). -/
theorem Chip.lockoutSound.starting_of_phase (h : c.lockoutSound) (hp : c.supply.startUp.phase ≠ .ended) : c.starting :=
  h.starting (h.2.2.2.2.1 hp)

theorem Chip.powerOn_starting (pins : Pins) (draws : Nat) : (Chip.powerOn pins draws).starting :=
  ⟨Nat.zero_le _, (by decide : 6 ≤ 15), rfl, rfl, rfl, rfl⟩

/-! ### The loads -/

/-- Neither the map nor the overlay is among these items. -/
theorem Chip.starting.withMap (h : c.starting) (map : WindowMap) (overlay : Overlay) :
    ({ c with map := map, overlay := overlay } : Chip).starting := h

theorem Chip.addFaults_starting (fs : List (LoadItem × FaultKind)) (h : c.starting) : (c.addFaults fs).starting := by
  rw [Chip.addFaults_eq]
  exact h

theorem Chip.loadAnchors_starting (f : FuseBlock) (h : c.starting) : (c.loadAnchors f).starting :=
  Chip.addFaults_starting _ (h.withMap _ c.overlay)

theorem Chip.takeSettleChoice_starting (choice : Byte) (h : c.starting) : (c.takeSettleChoice choice).starting := by
  rw [Chip.takeSettleChoice_eq]
  exact Chip.addFaults_starting _ h

theorem Chip.fuseRead_starting (f : FuseBlock) (h : c.starting) : (c.fuseRead f).starting := by
  have chosen := Chip.takeSettleChoice_starting f.settleChoice (Chip.loadAnchors_starting f h)
  unfold Chip.fuseRead
  dsimp only
  generalize Chip.takeSettleChoice _ _ = d at chosen ⊢
  exact chosen

theorem inBounds_le (lo hi default value : Nat) (item : LoadItem) (hd : default ≤ hi) :
    (inBounds lo hi default value item).1 ≤ hi := by
  unfold inBounds
  split
  · next h => exact h.2
  · exact hd

/-- The threshold of a valid image is at most 15 (R64, R180). -/
theorem validParams_lockoutThreshold_le (img : List Word) : (validParams img).1.lockoutThreshold ≤ 15 :=
  inBounds_le 1 15 6 _ .lockoutThreshold (by decide)

theorem Chip.settleParams_starting (img : List Word) (h : c.starting) : (c.settleParams img).starting := by
  obtain ⟨h15, -, rest⟩ := h
  unfold Chip.settleParams
  split
  · exact Chip.addFaults_starting [_] ⟨h15, (by decide : 6 ≤ 15), rest⟩
  · exact Chip.addFaults_starting _ ⟨h15, validParams_lockoutThreshold_le img, rest⟩

theorem Chip.completeMap_starting (ds : Vector Descriptor 24) (h : c.starting) : (c.completeMap ds).starting :=
  Chip.addFaults_starting _ (h.withMap _ _)

theorem Chip.loadMap_starting (img : List Word) (h : c.starting) : (c.loadMap img).starting := by
  unfold Chip.loadMap
  dsimp only
  split
  · exact Chip.completeMap_starting _ (Chip.addFaults_starting _ (h.withMap _ c.overlay))
  · exact Chip.completeMap_starting _ (h.withMap _ c.overlay)

theorem Chip.loadLimits_starting (img : List Word) (h : c.starting) : (c.loadLimits img).starting := by
  unfold Chip.loadLimits
  split
  · exact Chip.addFaults_starting _ (Chip.addFaults_starting _ (h.withMap c.map _))
  · exact h

theorem Chip.startMonitor_starting (h : c.starting) : c.startMonitor.starting :=
  (Chip.startMonitor_keeps_lockoutSound h.sound).starting (by
    rw [c.startMonitor_supply]
    exact h.2.2.1)

/-! ### The survey and the rollback -/

theorem Chip.surveyAppend_starting (kind : AppendKind) (h : c.starting) : (c.surveyAppend kind).starting := by
  unfold Chip.surveyAppend Chip.append
  rw [Chip.requestAppend_asked]
  exact h

theorem Chip.surveyEntries_starting (left : List (Addr × Word)) (h : c.starting) : (c.surveyEntries left).starting := by
  unfold Chip.surveyEntries Chip.surveyEnd
  split
  · dsimp only
    split <;> exact h
  · exact h

theorem Chip.surveyDrain_starting (h : c.starting) : c.surveyDrain.starting := by
  unfold Chip.surveyDrain
  split
  · exact Chip.surveyEntries_starting _ h
  · exact h

theorem Chip.rollbackSums_starting (left : List Win) (h : c.starting) : (c.rollbackSums left).starting := by
  unfold Chip.rollbackSums
  split
  · exact Chip.surveyDrain_starting (Chip.surveyAppend_starting _ h)
  · exact h

theorem Chip.rollbackCompare_starting (left : List SlotRecord) (h : c.starting) : (c.rollbackCompare left).starting := by
  unfold Chip.rollbackCompare
  split
  · exact Chip.rollbackSums_starting _ h
  · exact h

theorem Chip.rollbackWord_starting (r : SlotRecord) (rest : List SlotRecord) (data : Word) (h : c.starting) :
    (c.rollbackWord r rest data).starting := by
  unfold Chip.rollbackWord
  split
  · exact Chip.rollbackCompare_starting _ h
  · split
    · exact h
    · split
      · exact Chip.rollbackCompare_starting _ h
      · refine Chip.rollbackCompare_starting _ ?_
        unfold Chip.rollbackTamper
        split
        · exact h
        · exact h

theorem Chip.surveyRollbackStart_starting (h : c.starting) : c.surveyRollbackStart.starting := by
  unfold Chip.surveyRollbackStart
  split
  · exact Chip.surveyDrain_starting h
  · exact Chip.rollbackCompare_starting _ h

/-- Under a lockout that the survey finds, the count stands at the threshold (R157). -/
theorem Chip.settleFindings_strikes (c : Chip) : c.settleFindings.grant.strikes =
    if surveyLockout (runOf c.supply.startUp.found) then c.params.lockoutThreshold else c.grant.strikes := rfl

theorem Chip.settleFindings_cycleChecked (c : Chip) :
    c.settleFindings.scanner.cycleChecked = c.scanner.cycleChecked := by
  unfold Chip.settleFindings
  dsimp only

theorem Chip.settleFindings_starting (h : c.starting) : c.settleFindings.starting := by
  obtain ⟨h15, ht15, hp, hu, hi, hs⟩ := h
  have counted : c.settleFindings.grant.strikes ≤ 15 := by
    rw [Chip.settleFindings_strikes]
    split
    · exact ht15
    · exact h15
  exact ⟨counted, ht15, hp, c.settleFindings_cycleChecked.trans hu, hi, hs⟩

theorem Chip.surveySettle_starting (h : c.starting) : c.surveySettle.starting := by
  have settled := Chip.settleFindings_starting h
  unfold Chip.surveySettle Chip.surveyCloseGrant
  generalize c.settleFindings = d at settled ⊢
  split
  · exact Chip.surveyRollbackStart_starting settled
  · exact Chip.surveyAppend_starting _ settled

theorem Chip.surveyWord_starting (slot : Nat) (got : List Word) (data : Word) (h : c.starting) :
    (c.surveyWord slot got data).starting := by
  have found (r : SlotRecord) : (if r.complete c.capacity slot then
      { c with supply.startUp.found := r :: c.supply.startUp.found } else c).starting := by
    split
    · exact h
    · exact h
  unfold Chip.surveyWord
  dsimp only
  split
  · exact h
  · split
    · exact found _
    · exact Chip.surveySettle_starting (found _)

theorem Chip.imageWord_starting (got : List Word) (data : Word) (h : c.starting) : (c.imageWord got data).starting := by
  unfold Chip.imageWord
  dsimp only
  split
  · exact h
  · let img := (data :: got).reverse.take checkedWords
    have started := Chip.startMonitor_starting (Chip.loadLimits_starting img (Chip.loadMap_starting img
      (Chip.settleParams_starting img h)))
    unfold Chip.imageComplete
    dsimp only [img] at started ⊢
    generalize Chip.startMonitor _ = d at started ⊢
    exact started

theorem Chip.startUpDone_keeps_lockoutSound (data : Word) (h : c.lockoutSound) : (c.startUpDone data).lockoutSound := by
  have starting := h.starting_of_phase
  unfold Chip.startUpDone
  split
  case h_1 hp => exact (Chip.imageWord_starting _ data (starting (by simp [hp]))).sound
  case h_2 hp => exact (Chip.surveyWord_starting _ _ data (starting (by simp [hp]))).sound
  case h_3 hp => exact (Chip.surveyEntries_starting _ (starting (by simp [hp]))).sound
  case h_4 hp => exact (Chip.rollbackWord_starting _ _ data (starting (by simp [hp]))).sound
  case h_5 hp =>
    exact (Chip.rollbackCompare_starting (c := { c with
      supply.startUp.restored := c.supply.startUp.restored + 1 }) _ (starting (by simp [hp]))).sound
  all_goals exact h

theorem Chip.surveySum_keeps_lockoutSound (w : Win) (sum : DWord) (h : c.lockoutSound) :
    (c.surveySum w sum).lockoutSound := by
  unfold Chip.surveySum
  split
  · next hp =>
    have starting := h.starting_of_phase (by simp [hp])
    refine (Chip.rollbackSums_starting _ (Chip.surveyAppend_starting _ ?_)).sound
    split
    · exact Chip.surveyAppend_starting _ starting
    · exact starting
  · exact h

theorem Chip.surveyFinished_keeps_lockoutSound (h : c.lockoutSound) : c.surveyFinished.lockoutSound := by
  unfold Chip.surveyFinished
  dsimp only
  split
  · next hp =>
    exact (Chip.surveyRollbackStart_starting (c := { c with supply.startUp.owed := c.supply.startUp.owed - 1 })
      (h.starting_of_phase (by simp [hp]))).sound
  · next hp =>
    exact (Chip.surveyDrain_starting (c := { c with supply.startUp.owed := c.supply.startUp.owed - 1 })
      (h.starting_of_phase (by simp [hp]))).sound
  · exact h

/-! ## The Record Engine (R136–R149) -/

theorem Chip.joinWaiter_keeps_lockoutSound (h : c.lockoutSound) : c.joinWaiter.lockoutSound := by
  unfold Chip.joinWaiter Chip.waiterJoined
  split
  · exact h
  · split
    · exact Chip.passWaited_keeps_lockoutSound (c := { c with
        engine.queue := c.engine.queue ++ [_], engine.waiting := _ }) _ h
    all_goals exact h
  · exact Chip.lockoutSound.of_view h (by rw [Chip.completePending_lockView, Chip.takeArchived_lockView]; rfl)

theorem Chip.adoptionEnds_keeps_lockoutSound (r : AppendRequest) (cause : SumCause) (h : c.lockoutSound) :
    (c.adoptionEnds r cause).lockoutSound := by
  unfold Chip.adoptionEnds
  split
  · exact Chip.passWaited_keeps_lockoutSound _ h
  · exact h

theorem Chip.tellWritten_keeps_lockoutSound (r : AppendRequest) (seq : Nat) (h : c.lockoutSound) :
    (c.tellWritten r seq).lockoutSound := by
  unfold Chip.tellWritten
  split
  · exact Chip.openingWritten_keeps_lockoutSound seq h
  · split
    · exact Chip.endingComplete_keeps_lockoutSound h
    · exact h
  · exact h.of_view (Chip.announced_lockView _ _ _)
  · exact Chip.adoptionEnds_keeps_lockoutSound (c := c.sumWritten _ _ _) r _ h
  · exact h
  · split
    · exact Chip.commitFinish_keeps_lockoutSound h
    · exact h
  all_goals exact h

theorem Chip.tellNotWritten_keeps_lockoutSound (r : AppendRequest) (h : c.lockoutSound) :
    (c.tellNotWritten r).lockoutSound := by
  unfold Chip.tellNotWritten
  split
  · exact Chip.openingFailed_keeps_lockoutSound h
  · split
    · exact Chip.endingComplete_keeps_lockoutSound h
    · exact h
  · exact h.of_view (Chip.announced_lockView _ _ _)
  · refine Chip.adoptionEnds_keeps_lockoutSound r _ ?_
    split <;> exact h
  · split
    · exact Chip.commitFinish_keeps_lockoutSound h
    · exact h
  all_goals exact h

theorem Chip.requestFinished_keeps_lockoutSound (r : AppendRequest) (written : Bool) (h : c.lockoutSound) :
    (c.requestFinished r written).lockoutSound := by
  unfold Chip.requestFinished
  split
  · split
    · exact h.of_view (Chip.commitNext_lockView c)
    · exact h.of_view (Chip.trimFinished_lockView c _ written)
    · exact h.of_view (Chip.commitNext_lockView c)
    all_goals exact h
  · split
    · split
      · exact h.of_view (Chip.rebaseFinished_lockView c)
      · exact h
    all_goals exact h
  · exact Chip.surveyFinished_keeps_lockoutSound h
  all_goals exact h

theorem Chip.notWrittenTold_keeps_lockoutSound (r : AppendRequest) (h : c.lockoutSound) :
    (c.notWrittenTold r).lockoutSound := by
  unfold Chip.notWrittenTold
  split
  · exact Chip.tellNotWritten_keeps_lockoutSound r h
  · split
    · refine Chip.together_keeps Chip.lockoutSound (fun _ hd => hd) 1 _ _ (fun f hf d hd => ?_) c h
      rcases List.mem_pair.mp hf with rfl | rfl
      · exact Chip.tellNotWritten_keeps_lockoutSound r hd
      · exact Chip.endCause_keeps_lockoutSound .recordsFull hd
    · exact Chip.endCause_keeps_lockoutSound .recordsFull (Chip.tellNotWritten_keeps_lockoutSound r h)

theorem Chip.beginAppend_keeps_lockoutSound (h : c.lockoutSound) : c.beginAppend.lockoutSound := by
  unfold Chip.beginAppend
  split
  · split
    · exact h
    · next r rest _ =>
      have joined : ({ c with engine.queue := rest } : Chip).joinWaiter.lockoutSound :=
        Chip.joinWaiter_keeps_lockoutSound (c := { c with engine.queue := rest }) h
      dsimp only
      split
      · exact joined.of_view (Chip.startAppend_lockView _ _)
      · refine Chip.requestFinished_keeps_lockoutSound r false (Chip.notWrittenTold_keeps_lockoutSound r ?_)
        exact joined.of_view (Chip.unclaim_lockView _ r)
  · exact h

theorem Chip.appendComplete_keeps_lockoutSound (p : Progress) (h : c.lockoutSound) :
    (c.appendComplete p).lockoutSound := by
  have counted : (({ c with engine.head := c.engine.head + 1 }.unclaim p.request).watchLow c.freeSlots).lockoutSound :=
    h.of_view (by rw [Chip.watchLow_lockView, Chip.unclaim_lockView]; rfl)
  have told := Chip.tellWritten_keeps_lockoutSound p.request c.engine.head counted
  unfold Chip.appendComplete
  dsimp only
  split
  · exact Chip.requestFinished_keeps_lockoutSound p.request true told
  · exact told.of_view (Chip.presentFirst_lockView _ _)

theorem Chip.engineDone_keeps_lockoutSound (data : Word) (h : c.lockoutSound) : (c.engineDone data).lockoutSound := by
  unfold Chip.engineDone Chip.progressDone
  split
  · next p _ =>
    split
    · exact h.of_view (Chip.startRecord_lockView _ _ _ _)
    · exact h
    · exact Chip.appendComplete_keeps_lockoutSound p h
    · exact h
    · exact Chip.requestFinished_keeps_lockoutSound (c := { c with engine.progress := none }) p.request true h
  · exact Chip.startUpDone_keeps_lockoutSound data h

/-! ## Sums (R160, R170) -/

theorem SumClient.takes_keeps_lockoutSound (w : Win) (sum : DWord) (client : SumClient) (f : Chip → Chip)
    (hf : f ∈ client.takes w sum) (h : c.lockoutSound) : (f c).lockoutSound := by
  cases client with
  | commit =>
    rw [List.mem_singleton.mp hf]
    exact h.of_view (Chip.commitSum_lockView c w sum)
  | closing =>
    rcases List.mem_pair.mp hf with rfl | rfl
    · exact h.of_view (Chip.closingSum_lockView c w sum)
    · exact h.of_view (Chip.closingGoesOn_lockView c)
  | survey =>
    rw [List.mem_singleton.mp hf]
    exact Chip.surveySum_keeps_lockoutSound w sum h
  | rebase =>
    rw [List.mem_singleton.mp hf]
    exact h.of_view (Chip.rebaseSum_lockView c w sum)

theorem Chip.deliver_keeps_lockoutSound (w : Win) (sum : DWord) (clients : List SumClient) (h : c.lockoutSound) :
    (c.deliver w sum clients).lockoutSound := by
  cases clients with
  | nil => exact h
  | cons first others =>
    refine Chip.together_keeps Chip.lockoutSound (fun _ hd => hd) _ _ _ (fun f hf d hd => ?_) c h
    rcases List.mem_append.mp hf with hf | hf
    · exact SumClient.takes_keeps_lockoutSound w sum first f hf hd
    · obtain ⟨client, _, hf⟩ := List.mem_flatMap.mp hf
      exact SumClient.takes_keeps_lockoutSound w sum client f hf hd

theorem Chip.sumRead_keeps_lockoutSound (data : Word) (h : c.lockoutSound) : (c.sumRead data).lockoutSound := by
  unfold Chip.sumRead Chip.sumComplete
  split
  · exact h
  · dsimp only
    split
    · exact h
    · split
      · exact Chip.passSum_keeps_lockoutSound (c := { c with scanner.sum := none }) _ _ h
      · exact Chip.deliver_keeps_lockoutSound (c := { c with scanner.sum := none }) _ _ _ h

theorem Chip.serveSum_keeps_lockoutSound (h : c.lockoutSound) : c.serveSum.lockoutSound := by
  unfold Chip.serveSum
  split
  · exact h
  · split
    · exact h
    · next rest _ =>
      dsimp only
      split
      · exact h
      · exact Chip.deliver_keeps_lockoutSound (c := { c with scanner.queue := rest }) _ _ _ h

/-! ## Power states and second ticks (R176–R188) -/

/-- The power state moves on to ACTIVE or AFTER_RUN once the start-up order is over and no wake is settling. -/
theorem Chip.lockoutSound.running (h : c.lockoutSound) (power : PowerState) (dormancy : Option Nat)
    (hp : power ≠ .start) (hend : c.supply.startUp.phase = .ended) (hset : c.supply.settling = false) :
    ({ c with supply.power := power, supply.dormancy := dormancy } : Chip).lockoutSound := by
  obtain ⟨h15, ht15, hforce, hopen, -, -, -⟩ := h
  exact ⟨h15, ht15, hforce, hopen, fun he => absurd hend he, fun hs => absurd hs hp, by simp [hset]⟩

theorem Chip.enterActive_keeps_lockoutSound (hend : c.supply.startUp.phase = .ended) (hset : c.supply.settling = false)
    (h : c.lockoutSound) : c.enterActive.lockoutSound :=
  Chip.startPass_keeps_lockoutSound (h.running .active none nofun hend hset)

theorem Chip.enterAfterRun_keeps_lockoutSound (hend : c.supply.startUp.phase = .ended)
    (hset : c.supply.settling = false) (h : c.lockoutSound) : c.enterAfterRun.lockoutSound := by
  have caused := Chip.endCause_keeps_lockoutSound .ignition (h.running .afterRun (some 0) nofun hend hset)
  obtain ⟨h15, ht15, hforce, hopen, hphase, hstart, hset⟩ := caused.of_view (Chip.dropPassSum_lockView _)
  exact ⟨h15, ht15, hforce, hopen, hphase, fun hp => ⟨rfl, (hstart hp).2⟩, hset⟩

theorem Chip.enterRunning_keeps_lockoutSound (hend : c.supply.startUp.phase = .ended) (hset : c.supply.settling = false)
    (h : c.lockoutSound) : c.enterRunning.lockoutSound := by
  unfold Chip.enterRunning
  split
  · exact Chip.enterActive_keeps_lockoutSound hend hset h
  · exact Chip.enterAfterRun_keeps_lockoutSound hend hset h
  · exact Chip.enterAfterRun_keeps_lockoutSound hend hset h

theorem Chip.endStart_keeps_lockoutSound (h : c.lockoutSound) : c.endStart.lockoutSound := by
  unfold Chip.endStart
  split
  · next ends =>
    obtain ⟨⟨hp, hend⟩, -⟩ : (c.supply.power = .start ∧ c.supply.startUp.phase = .ended)
        ∧ c.supply.filtered ≠ .unsettled := by
      simpa [Supply.startOver] using ends
    exact Chip.gateChanged_keeps_lockoutSound (Chip.enterRunning_keeps_lockoutSound
      (c := { c with bus.gate.start := false }) hend (h.starting hp).2.2.2.2.2 h)
  · exact h

/-- Out of START the start-up order is over. -/
theorem Chip.lockoutSound.ended (h : c.lockoutSound) (hp : c.supply.power ≠ .start) : c.supply.startUp.phase = .ended :=
  by_contra fun he => hp (h.2.2.2.2.1 he)

/-- Out of WAKING no wake is settling (R187). -/
theorem Chip.lockoutSound.settled (h : c.lockoutSound) (hp : c.supply.power ≠ .waking) : c.supply.settling = false :=
  Bool.eq_false_iff.mpr fun hs => hp (h.2.2.2.2.2.2 hs)

/-- A wake starts in DORMANT, out of START. -/
theorem Chip.startWake_keeps_lockoutSound (hp : c.supply.power ≠ .start) (h : c.lockoutSound) :
    c.startWake.lockoutSound := by
  have hend := h.ended hp
  obtain ⟨h15, ht15, hforce, hopen, -, -, -⟩ := h
  exact ⟨h15, ht15, hforce, hopen, fun he => absurd hend he, nofun, fun _ => rfl⟩

theorem Chip.settleEnds_keeps_lockoutSound (h : c.lockoutSound) : c.settleEnds.lockoutSound := by
  unfold Chip.settleEnds
  split
  · next settling =>
    have waking : c.supply.power = .waking := h.2.2.2.2.2.2 settling
    have hend := h.ended (by simp [waking])
    have begun : ({ c with
        bus.gate.waking := false, supply.settling := false, link.receiving := true } : Chip).lockoutSound := by
      obtain ⟨h15, ht15, hforce, hopen, hphase, hstart, -⟩ := h
      exact ⟨h15, ht15, hforce, hopen, hphase, hstart, nofun⟩
    have supply := Chip.startMonitor_supply { c with
      bus.gate.waking := false, supply.settling := false, link.receiving := true }
    exact Chip.gateChanged_keeps_lockoutSound (Chip.enterRunning_keeps_lockoutSound (by rw [supply]; exact hend)
      (by rw [supply]) (Chip.startMonitor_keeps_lockoutSound begun))
  · exact h

theorem Chip.ignitionFiltered_keeps_lockoutSound (h : c.lockoutSound) : c.ignitionFiltered.lockoutSound := by
  have event (d : Chip) (level : IgnitionLevel) (hd : d.lockoutSound) : (d.ignitionEvent level).lockoutSound := by
    unfold Chip.ignitionEvent
    split
    · next hp =>
      exact Chip.enterAfterRun_keeps_lockoutSound (hd.ended (by rw [hp]; nofun)) (hd.settled (by rw [hp]; nofun)) hd
    · next hp =>
      exact Chip.enterActive_keeps_lockoutSound (hd.ended (by rw [hp]; nofun)) (hd.settled (by rw [hp]; nofun)) hd
    · next hp => exact Chip.startWake_keeps_lockoutSound (by rw [hp]; nofun) hd
    · exact hd
  unfold Chip.ignitionFiltered
  split
  · dsimp only
    split
    · exact h
    · exact event _ _ h
  · exact h

theorem Chip.cycleArrives_keeps_lockoutSound (b : BusCycle) (h : c.lockoutSound) : (c.cycleArrives b).lockoutSound := by
  have reported : ({ c with pins.chipSelect := true } : Chip).arrivalReported.lockoutSound := by
    unfold Chip.arrivalReported
    split
    · exact h
    · next hp => exact Chip.startWake_keeps_lockoutSound (by rw [hp]; nofun) h
    all_goals exact h
  unfold Chip.cycleArrives
  split
  · split
    · unfold Chip.admitCycle
      split
      · exact Chip.decideCycle_keeps_lockoutSound _ reported
      · exact reported.of_view (Chip.unpark_lockView _)
    · exact h
  all_goals exact h

theorem Chip.chipSelectReleased_keeps_lockoutSound (h : c.lockoutSound) : c.chipSelectReleased.lockoutSound :=
  h.of_view (by unfold Chip.chipSelectReleased; rw [Chip.unpark_lockView, Chip.dropCycle_lockView]; rfl)

theorem Chip.strobeReleased_keeps_lockoutSound (h : c.lockoutSound) : c.strobeReleased.lockoutSound := by
  unfold Chip.strobeReleased
  split
  · exact h
  · exact h
  all_goals exact h.of_view (Chip.dropCycle_lockView c)

theorem Chip.resetAsserted_keeps_lockoutSound (h : c.lockoutSound) : c.resetAsserted.lockoutSound := by
  cases hr : c.pins.resetAsserted with
  | false =>
    rw [c.resetAsserted_eq hr]
    exact Chip.endCause_keeps_lockoutSound (c := c.abandoned) .reset h
  | true =>
    unfold Chip.resetAsserted
    rwa [if_pos hr]

theorem Chip.resetReleased_keeps_lockoutSound (h : c.lockoutSound) : c.resetReleased.lockoutSound := by
  unfold Chip.resetReleased
  split
  · exact Chip.gateChanged_keeps_lockoutSound h
  · exact h

theorem Chip.grantTick_keeps_lockoutSound (h : c.lockoutSound) : c.grantTick.lockoutSound :=
  Chip.applyDecay_keeps_lockoutSound (Chip.applyExpiry_keeps_lockoutSound h)

theorem Chip.secondTick_keeps_lockoutSound (h : c.lockoutSound) : c.secondTick.lockoutSound := by
  have ticked : c.tickTimers.lockoutSound := h.of_view c.tickTimers_lockView
  unfold Chip.secondTick
  split
  · exact h
  · dsimp only
    split
    · refine Chip.together_keeps Chip.lockoutSound (fun _ hd => hd) 1 _ _ (fun f hf d hd => ?_) _ ticked
      rcases List.mem_pair.mp hf with rfl | rfl
      · exact Chip.grantTick_keeps_lockoutSound hd
      · exact Chip.periodicExpiry_keeps_lockoutSound hd
    · exact Chip.periodicExpiry_keeps_lockoutSound (Chip.grantTick_keeps_lockoutSound ticked)

/-! ## Requests of the gateway link (R193, R194) -/

theorem Chip.ownGrant_keeps_lockoutSound (f : GrantFields) (h : c.lockoutSound) : (c.ownGrant f).lockoutSound := by
  unfold Chip.ownGrant
  split
  · exact h
  · next hf => exact Chip.admitGrant_keeps_lockoutSound f hf h

theorem Chip.ownDescribe_keeps_lockoutSound (kind index : Byte) (h : c.lockoutSound) :
    (c.ownDescribe kind index).lockoutSound := by
  unfold Chip.ownDescribe
  split <;> exact h

theorem Chip.ownKeep_keeps_lockoutSound (h : c.lockoutSound) : c.ownKeep.lockoutSound := h.of_view c.keepGrant_lockView

theorem Chip.ownCommit_keeps_lockoutSound (pages : PageSet) (h : c.lockoutSound) : (c.ownCommit pages).lockoutSound :=
  h.of_view (c.takeCommit_lockView pages)

theorem Chip.ownDiscard_keeps_lockoutSound (pages : PageSet) (h : c.lockoutSound) : (c.ownDiscard pages).lockoutSound :=
  h.of_view (c.takeDiscard_lockView pages)

theorem Chip.ownRebase_keeps_lockoutSound (h : c.lockoutSound) : c.ownRebase.lockoutSound :=
  h.of_view c.takeRebase_lockView

theorem Chip.ownArchived_keeps_lockoutSound (upTo : DWord) (h : c.lockoutSound) : (c.ownArchived upTo).lockoutSound :=
  h.of_view (c.requestArchived_lockView _)

theorem Chip.forward_keeps_lockoutSound (code : Byte) (payload : List Byte) (h : c.lockoutSound) :
    (c.forward code payload).lockoutSound := by
  unfold Chip.forward
  split
  · exact h
  · exact Chip.ownGrant_keeps_lockoutSound _ h
  · exact Chip.ownKeep_keeps_lockoutSound h
  · exact Chip.revokeGrant_keeps_lockoutSound h
  · exact Chip.ownCommit_keeps_lockoutSound _ h
  · exact Chip.ownDiscard_keeps_lockoutSound _ h
  · exact Chip.rescan_keeps_lockoutSound h
  · exact Chip.ownRebase_keeps_lockoutSound h
  · exact h
  · exact Chip.ownArchived_keeps_lockoutSound _ h
  · exact Chip.ownDescribe_keeps_lockoutSound _ _ h
  · exact h

/-- A request keeps the rule if its owner does. -/
theorem Chip.request_keeps_lockoutSound (length filler : Nat) (owner : Chip → Chip)
    (ho : ∀ d : Chip, d.lockoutSound → (owner d).lockoutSound) (h : c.lockoutSound) :
    (c.request length filler owner).lockoutSound := by
  unfold Chip.request Chip.takeRequest
  dsimp only
  split
  · split
    · exact h
    · exact ho _ h
  · exact h

theorem Chip.requestBytes_keeps_lockoutSound (bytes : List Byte) (h : c.lockoutSound) :
    (c.requestBytes bytes).lockoutSound := by
  have framed (d : Chip) (hd : d.lockoutSound) : (d.takeFrame bytes).lockoutSound := by
    unfold Chip.takeFrame
    split
    · exact hd
    · split <;> exact hd
    · split
      · exact hd
      · split
        · exact hd
        · split
          · exact hd
          · split
            · exact Chip.forward_keeps_lockoutSound _ _ hd
            · exact hd
  unfold Chip.requestBytes
  dsimp only
  split
  · exact framed _ h
  · exact h

/-! ## Every step -/

theorem operation_keeps_lockoutSound (i : Instr) (f : Chip → Chip) (hf : i.operation = some f) (c : Chip)
    (h : c.lockoutSound) : (f c).lockoutSound := by
  have request := fun length filler owner ho => Chip.request_keeps_lockoutSound length filler owner ho h
  cases i <;> cases hf
  case startEnd => exact Chip.endStart_keeps_lockoutSound h
  case processorCycleArrival cycle => exact Chip.cycleArrives_keeps_lockoutSound cycle h
  case strobeRelease => exact Chip.strobeReleased_keeps_lockoutSound h
  case cycleWithdrawn cause =>
    cases cause with
    | strobe => exact h.of_view c.dropCycle_lockView
    | chipSelect => exact Chip.chipSelectReleased_keeps_lockoutSound h
  case chipSelectRelease => exact Chip.chipSelectReleased_keeps_lockoutSound h
  case resetNAssert => exact Chip.resetAsserted_keeps_lockoutSound h
  case resetNRelease => exact Chip.resetReleased_keeps_lockoutSound h
  case channelTick channel sample => exact Chip.channelTick_keeps_lockoutSound channel sample h
  case silence channel => exact Chip.silence_keeps_lockoutSound channel h
  case parkInputChange level => exact h.of_view (c.parkInput_lockView level)
  case parkDebounceComplete => exact Chip.parkDebounced_keeps_lockoutSound h
  case grant fields filler => exact request _ _ _ fun _ => Chip.ownGrant_keeps_lockoutSound fields
  case secondTick => exact Chip.secondTick_keeps_lockoutSound h
  case grantTimerExpiry => exact Chip.applyExpiry_keeps_lockoutSound h
  case keep filler => exact request _ _ _ fun _ => Chip.ownKeep_keeps_lockoutSound
  case revoke filler => exact request _ _ _ fun _ => Chip.revokeGrant_keeps_lockoutSound
  case closingSumRequest => exact h.of_view c.askClosingSum_lockView
  case strikeDecay => exact Chip.applyDecay_keeps_lockoutSound h
  case refusals filler => exact request _ _ _ fun _ hd => hd
  case discard pages filler => exact request _ _ _ fun _ => Chip.ownDiscard_keeps_lockoutSound pages
  case appendBegin => exact Chip.beginAppend_keeps_lockoutSound h
  case commit pages filler => exact request _ _ _ fun _ => Chip.ownCommit_keeps_lockoutSound pages
  case archived upTo filler => exact request _ _ _ fun _ => Chip.ownArchived_keeps_lockoutSound upTo
  case periodicScanExpiry => exact Chip.periodicExpiry_keeps_lockoutSound h
  case passResume => exact Chip.resumePass_keeps_lockoutSound h
  case rescan filler => exact request _ _ _ fun _ => Chip.rescan_keeps_lockoutSound
  case sumRequestService => exact Chip.serveSum_keeps_lockoutSound h
  case rebase filler => exact request _ _ _ fun _ => Chip.ownRebase_keeps_lockoutSound
  case ignitionInputChange level => exact h.of_view (c.ignitionInput_lockView level)
  case ignitionFilterComplete => exact Chip.ignitionFiltered_keeps_lockoutSound h
  case dormancyDelayExpiry => exact h.of_view c.delayExpired_lockView
  case settleTimeEnd => exact Chip.settleEnds_keeps_lockoutSound h
  case transactionStart => exact h
  case nop filler => exact h
  case status filler => exact request _ _ _ fun _ hd => hd
  case describe kind index filler => exact request _ _ _ fun _ => Chip.ownDescribe_keeps_lockoutSound kind index
  case unknown bytes => exact Chip.requestBytes_keeps_lockoutSound bytes h
  case transactionEnd clocked => exact h.of_view (c.transactionEnd_lockView clocked)

/-- The end of a command enters DORMANT at most, from AFTER_RUN (R185). -/
theorem Chip.finish_keeps_lockoutSound (h : c.lockoutSound) : c.finish.lockoutSound := by
  have arbitrated : c.arbitrate.lockoutSound := h.of_view (by rw [Chip.arbitrate_eq]; rfl)
  unfold Chip.finish Chip.checkDormancy
  split
  · next due =>
    have afterRun : c.arbitrate.supply.power = .afterRun := by
      simp only [Chip.mayGoDormant, Bool.and_eq_true, beq_iff_eq] at due
      exact due.1.1.1.1.1
    have hend := arbitrated.ended (by rw [afterRun]; nofun)
    have hset := arbitrated.settled (by rw [afterRun]; nofun)
    exact arbitrated.running .dormant none nofun hend hset
  · exact arbitrated

theorem Chip.transferDone_keeps_lockoutSound (who : Requester) (live : Bool) (data : Word) (h : c.lockoutSound) :
    (c.transferDone who live data).lockoutSound := by
  have passed : (c.passDone data).lockoutSound := by
    refine h.of_view ?_
    unfold Chip.passDone
    split
    · rfl
    · split
      · exact Chip.reportServed_lockView _ _
      all_goals rfl
    all_goals rfl
  have told : (c.requesterDone who live data).lockoutSound := by
    unfold Chip.requesterDone
    split
    · exact passed
    · exact Chip.engineDone_keeps_lockoutSound data h
    · exact h.of_view (c.loaderRead_lockView data)
    · exact Chip.sumRead_keeps_lockoutSound data h
    · exact h
  have ended (d : Chip) (w : Requester) : (d.endInternal w).lockView = d.lockView := by
    rw [Chip.endInternal_eq]
    rfl
  refine told.of_view ?_
  unfold Chip.transferDone Chip.endTransfer
  split
  · rfl
  all_goals exact ended _ _

theorem exec_keeps_lockoutSound (i : Instr) (s t : State) (h : s.chip.lockoutSound) (he : exec i s = .next t) :
    t.chip.lockoutSound := by
  rcases exec_cases i s with ⟨f, hf, hx⟩ | ⟨returned, _, hx⟩ | ⟨_, hx⟩ | ⟨_, hx⟩ <;> (rw [hx] at he; cases he)
  · cases hs : s.supplied with
    | true =>
      rw [State.onPin_of_supplied _ f s hs]
      exact Chip.finish_keeps_lockoutSound (operation_keeps_lockoutSound i f hf s.chip h)
    | false =>
      rw [State.onPin_of_unsupplied _ f s hs]
      exact h
  · unfold State.transferComplete
    split
    · exact Chip.finish_keeps_lockoutSound (Chip.transferDone_keeps_lockoutSound _ _ _ h)
    · exact h
  · rw [s.loseSupply_chip]
    exact (Chip.powerOn_starting _ _).sound
  · exact Chip.finish_keeps_lockoutSound (Chip.fuseRead_starting _ (Chip.powerOn_starting _ _)).sound

/-- Settles O7: a grant takes force only without a pending end reason, the strike that reaches the threshold ends it, and in
START, where the parameters are settled, there is none. -/
theorem stepKeepsGrantsBelowLockout : Obligations.StepKeepsGrantsBelowLockout :=
  step_keeps (fun s => s.chip.lockoutSound) (fun _ _ h => h) exec_keeps_lockoutSound

end Sys2Proof.Machine
end

section
/-! Requests to the Grant Controller, its timers at 0, and the strike decay (R65, R66, R70–R74, R82, R84). -/

namespace Sys2Proof.Machine

/-! ## Requests -/

/-- With a place an append request joins the queue. -/
theorem RecordEngine.asked_of_place (e : RecordEngine) (x : AppendRequest) (h : e.queue.length < 8) :
    e.asked x = { e with queue := e.queue ++ [x] } := if_pos h

/-- The part once SEL_N has risen after a frame of `n` bytes, before its request is taken. -/
def Chip.heard (c : Chip) (snap : Snapshot) (n : Nat) : Chip := { c with link := c.link.risen snap n }

/-- A request taken by a calm, listening part, by what its owner makes of the part, where that leaves the Bus Path and the
supply alone. -/
theorem exec_of_request (i : Instr) (length filler : Nat) (owner : Chip → Chip) (s : State) (snap : Snapshot) (d : Chip)
    (blocks : List Block) (hi : i.operation = some (Chip.request length filler owner)) (hs : s.calm)
    (hl : s.chip.listening snap) (hd : owner (s.chip.heard snap (length + 3 + filler)) = d)
    (frame : s.chip.changesOnly blocks d) (noBus : Block.bus ∉ blocks) (noSupply : Block.supply ∉ blocks) :
    ∃ t, exec i s = .next t ∧ s.changesOnly blocks t ∧ t.chip = d :=
  exec_of_frame i _ s d blocks hi hs ((s.chip.request_of_listening snap length filler owner hl).trans hd) frame noBus
    noSupply

theorem GrantState.inForce_iff (g : GrantState) : g.inForce = true ↔ g = .active ∨ g = .suspended := by
  cases g <;> decide

/-! ## GRANT (R65, R66) -/

theorem belowFactory_iff (b : Byte) : belowFactory b = true ↔ b ≠ 3#8 := by
  unfold belowFactory levelOfCode
  split_ifs <;> simp_all

theorem levelOfCode_eq_none_iff (b : Byte) : levelOfCode b = none ↔ b ≠ 1#8 ∧ b ≠ 2#8 ∧ b ≠ 3#8 := by
  unfold levelOfCode
  split_ifs <;> simp_all

theorem Chip.lockout_iff (c : Chip) : c.lockout = true ↔ c.params.lockoutThreshold ≤ c.grant.strikes :=
  decide_eq_true_iff

theorem Chip.tamperFlag_iff (c : Chip) : c.tamperFlag = true ↔ c.scanner.tamper ≠ 0#24 := bne_iff_ne

/-- The seven checks of GRANT, as the statement gives them (R65). -/
theorem Chip.grantRefusal_eq (c : Chip) (f : GrantFields) : c.grantRefusal f =
    if c.grant.state ≠ .idle then some .busy
    else if c.scanner.cycleChecked = false then some .notReady
    else if c.params.image = .invalid ∧ f.level ≠ 3#8 then some .degraded
    else if c.params.lockoutThreshold ≤ c.grant.strikes then some .locked
    else if c.scanner.tamper ≠ 0#24 ∧ f.level ≠ 3#8 then some .tampered
    else if (f.level ≠ 1#8 ∧ f.level ≠ 2#8 ∧ f.level ≠ 3#8) ∨ f.duration = 0#16 ∨ 7 < f.idleChoice.toNat then
      some .badArg
    else if c.freeSlots ≤ 10 then some .noSpace
    else none := by
  have space : Config.reserve + 2 = 10 := rfl
  simp only [Chip.grantRefusal, belowFactory_iff, levelOfCode_eq_none_iff, c.lockout_iff, c.tamperFlag_iff, space]

/-- The rise of SEL_N has no part in the checks. -/
theorem Chip.heard_grantRefusal (c : Chip) (snap : Snapshot) (n : Nat) (f : GrantFields) :
    (c.heard snap n).grantRefusal f = c.grantRefusal f := rfl

/-- A set with a window added holds that window and what it held before. -/
theorem hasWin_addWin (s : WindowSet) (v w : Win) : hasWin (addWin s v) w = (hasWin s w || decide (w = v)) := by
  unfold hasWin addWin
  rw [BitVec.getLsbD_or, BitVec.getLsbD_shiftLeft]
  by_cases h : w = v
  · subst h
    simp [w.isLt]
  · have hne : w.val ≠ v.val := fun e => h (Fin.ext e)
    have bit : (1#24).getLsbD (w.val - v.val) = true → w.val ≤ v.val := fun hb => by
      have := BitVec.getLsbD_one (w := 24) (i := w.val - v.val)
      rw [this] at hb
      simp at hb
      omega
    by_cases hlt : w.val < v.val
    · simp [h, hlt]
    · have off : (1#24).getLsbD (w.val - v.val) = false := Bool.eq_false_iff.mpr fun hb => by
        have := bit hb
        omega
      simp [h, off]

/-- The set of the windows of a list that pass a test, joined to a set. -/
theorem hasWin_foldl_addWin (pick : Win → Bool) (ws : List Win) (s : WindowSet) (w : Win) :
    hasWin (ws.foldl (fun s w => if pick w then addWin s w else s) s) w
      = (hasWin s w || (decide (w ∈ ws) && pick w)) := by
  induction ws generalizing s with
  | nil => simp
  | cons v ws ih =>
    rw [List.foldl_cons, ih]
    by_cases hw : w = v
    · subst hw
      cases hp : pick w <;> simp [hasWin_addWin]
    · cases hp : pick v <;> simp [hasWin_addWin, hw]

/-- The scope admitted holds exactly the indexes that name an enabled window (R65). -/
theorem Chip.hasWin_admittedScope (c : Chip) (scope : DWord) (w : Win) :
    hasWin (c.admittedScope scope) w = (scope.getLsbD w.val && c.map.descriptors[w].standing == .enabled) := by
  unfold Chip.admittedScope
  rw [hasWin_foldl_addWin (fun w => scope.getLsbD w.val && c.map.descriptors[w].standing == .enabled)]
  simp [hasWin]

/-- The admission of a GRANT as one change of the Grant Controller and the Record Engine (R66). -/
theorem Chip.admitGrant_eq (c : Chip) (f : GrantFields) (l : Level) (hl : levelOfCode f.level = some l)
    (hq : c.engine.queue.length < 8) :
    c.admitGrant f = { c with
      grant := { c.grant with state := .opening, record := { GrantRecord.empty with
        level := some l
        scope := c.admittedScope f.scope
        workshop := f.workshop
        timeStamp := f.timeStamp
        duration := min f.duration.toNat 240
        idleChoice := f.idleChoice.toNat } }
      engine := { c.engine with queue := c.engine.queue ++
        [⟨.grantBegin l f.workshop f.timeStamp (c.admittedScope f.scope) (min f.duration.toNat 240)
          f.idleChoice.toNat, .grant, false, 0⟩] } } := by
  unfold Chip.admitGrant Chip.append
  dsimp only
  rw [Chip.requestAppend_asked, RecordEngine.asked_of_place c.engine _ hq]
  simp only [Chip.admittedRecord, hl, Option.getD_some]

/-- Settles O40, by the seven checks (`Chip.grantRefusal_eq`). -/
theorem grantIsAdmittedOrRefused : Obligations.GrantIsAdmittedOrRefused := by
  intro s f filler snap hs hl
  let c := s.chip.heard snap (16 + 3 + filler)
  refine ⟨fun l idle scanned degraded below tampered level duration idleChoice free place => ?_, fun code reply => ?_⟩
  · have coded : levelOfCode f.level = some l := by rw [level]; cases l <;> rfl
    have factory : f.level ≠ 3#8 → l ≠ .factory := fun h e => h (by rw [level, e])
    have assigned : ¬ (f.level ≠ 1#8 ∧ f.level ≠ 2#8 ∧ f.level ≠ 3#8) := fun h => by
      rw [(levelOfCode_eq_none_iff _).mpr h] at coded
      cases coded
    have admitted : s.chip.grantRefusal f = none := by
      rw [Chip.grantRefusal_eq, if_neg (not_not.mpr idle), if_neg (by simp [scanned]),
        if_neg (fun h => degraded.elim (fun hi => hi h.1) (factory h.2)), if_neg (Nat.not_le.mpr below),
        if_neg (fun h => tampered.elim h.1 (factory h.2)),
        if_neg (not_or.mpr ⟨assigned, not_or.mpr ⟨duration, Nat.not_lt.mpr idleChoice⟩⟩),
        if_neg (Nat.not_le.mpr free)]
    have owned : c.ownGrant f = (c.admitGrant f).answer 0x02#8 .pending [] := by
      unfold Chip.ownGrant
      rw [s.chip.heard_grantRefusal, admitted]
    obtain ⟨t, he, hf, ht⟩ := exec_of_request (.grant f filler) 16 filler (Chip.ownGrant f) s snap _
      [.grant, .engine, .link] rfl hs hl (owned.trans (by rw [c.admitGrant_eq f l coded place]))
      ((Chip.changesOnly_iff _ _ _).mpr (by simp [Chip.answer, c, Chip.heard])) (by simp) (by simp)
    refine ⟨t, c.admittedScope f.scope, he, hf, c.hasWin_admittedScope f.scope, ?_⟩
    rw [ht]
    exact ⟨rfl, rfl, rfl⟩
  · have refused : s.chip.grantRefusal f = some code := (s.chip.grantRefusal_eq f).trans reply
    have owned : c.ownGrant f = c.answer 0x02#8 code [] := by
      unfold Chip.ownGrant
      rw [s.chip.heard_grantRefusal, refused]
    obtain ⟨t, he, hf, ht⟩ := exec_of_request (.grant f filler) 16 filler (Chip.ownGrant f) s snap _
      [.link] rfl hs hl owned ((Chip.changesOnly_iff _ _ _).mpr (by simp [Chip.answer, c, Chip.heard])) (by simp) (by simp)
    exact ⟨t, he, hf, by rw [ht]; rfl⟩

/-! ## Timers at 0 and the strike decay (R71, R82, R84) -/

/-- With the loader idle and no write held for it, the close of the pages leaves the Bus Path alone (R114). -/
theorem Chip.closePages_bus_of_idle (c : Chip) (hr : c.bus.requestL = none)
    (hm : ∀ tr live, c.bus.memPort ≠ .busy .L tr live) (hp : ∀ y, c.bus.port ≠ .held y .pageLoading) :
    c.closePages.bus = c.bus := by
  have port := c.closePages_port_of_not_held hp
  have memPort : c.bus.memPort.disown .L = c.bus.memPort := by
    rw [MemPort.disown_L]
    split
    · next tr live h => exact absurd h (hm tr live)
    · rfl
  rw [c.closePages_eq]
  dsimp only
  rw [port, memPort, ← hr]

/-- The same, of the entry to ENDING. -/
theorem Chip.beginEnding_bus_of_idle (c : Chip) (reason : EndReason) (hr : c.bus.requestL = none)
    (hm : ∀ tr live, c.bus.memPort ≠ .busy .L tr live) (hp : ∀ y, c.bus.port ≠ .held y .pageLoading) :
    (c.beginEnding reason).bus = c.bus := by
  cases h : c.engine.commit with
  | none =>
    rw [c.beginEnding_of_no_commit reason h]
    exact c.closePages_bus_of_idle hr hm hp
  | some run => rw [c.beginEnding_of_commit reason (by simp [Chip.commitInFlight, h])]

/-- A grant in force ends for the first of its timers at 0 (R71). -/
theorem Chip.applyExpiry_of_inForce (c : Chip) (reason : EndReason)
    (h : c.grant.state = .active ∨ c.grant.state = .suspended) (hr : c.grant.record.expiry = some reason) :
    c.applyExpiry = c.beginEnding reason := by
  have due : c.grant.dueEnd = some reason := by
    unfold GrantController.dueEnd
    rw [if_pos ((GrantState.inForce_iff _).mpr h), hr]
  unfold Chip.applyExpiry
  rw [due]

/-- A strike decay that is due, as one change (R82); from the threshold it ends lockout (R84). -/
theorem Chip.applyDecay_eq (c : Chip) (h : c.decayDue = true) : c.applyDecay = { c with
    grant := { c.grant with strikes := c.grant.strikes - 1, decay := 0 }
    engine :=
      if c.grant.strikes = c.params.lockoutThreshold then
        c.engine.asked ⟨.lockoutEnd (c.grant.strikes - 1) c.params.lockoutThreshold, .grant, false, 0⟩
      else c.engine } := by
  have standing : 0 < c.grant.strikes := by
    simp only [Chip.decayDue, Bool.and_eq_true, decide_eq_true_eq] at h
    exact h.1
  have ends : (c.lockout && !({ c with grant.strikes := c.grant.strikes - 1, grant.decay := 0 } : Chip).lockout) = true
      ↔ c.grant.strikes = c.params.lockoutThreshold := by
    simp only [Chip.lockout, Bool.and_eq_true, Bool.not_eq_true', decide_eq_true_eq, decide_eq_false_iff_not]
    omega
  unfold Chip.applyDecay Chip.append
  rw [if_pos h]
  dsimp only
  simp only [ends, Chip.requestAppend_asked]
  split <;> rfl

/-- Settles O42, by what an end of the grant and a decay are as one change each. -/
theorem grantExpiryAndStrikeDecay : Obligations.GrantExpiryAndStrikeDecay := by
  refine ⟨fun s reason hs inForce row commit rewritten place queue requestL memPort port => ?_,
    fun s hs standing period place => ?_⟩
  · have expiry : s.chip.grant.record.expiry = some reason := by
      unfold GrantRecord.expiry
      rcases row with ⟨rfl, hrem⟩ | ⟨rfl, hrem, hsus⟩ | ⟨rfl, hrem, hsus, hidle⟩
      · rw [if_pos hrem]
      · rw [if_neg hrem, if_pos hsus]
      · rw [if_neg hrem, if_neg hsus, if_pos hidle]
    obtain ⟨grant, overlay, engine, -, -⟩ := s.chip.beginEnding_endedBy reason
    obtain ⟨closed, pages⟩ := overlay.2 commit
    have bus := s.chip.beginEnding_bus_of_idle reason requestL memPort port
    have frame : s.chip.changesOnly [.grant, .overlay, .engine] (s.chip.beginEnding reason) := by
      have all := (Chip.changesOnly_iff _ _ _).mp (s.chip.beginEnding_frame reason)
      simp only [List.mem_cons, reduceCtorEq, List.not_mem_nil, or_false, false_or, true_or, or_true, true_and] at all
      exact (Chip.changesOnly_iff _ _ _).mpr (by simp [all, bus])
    obtain ⟨t, he, hf, ht⟩ := exec_of_frame .grantTimerExpiry _ s _ _ rfl hs
      (s.chip.applyExpiry_of_inForce reason inForce expiry) frame (by simp) (by simp)
    refine ⟨t, he, hf, ?_⟩
    rw [ht, grant, engine, if_pos ⟨commit, rewritten⟩, RecordEngine.asked_of_place _ _ place]
    refine ⟨by simp [Chip.grantEnded, commit, rewritten], rfl, pages, ?_, ?_, ?_⟩ <;> rw [closed]
  · have due : s.chip.decayDue = true := by simp [Chip.decayDue, standing, period]
    obtain ⟨t, he, hf, ht⟩ := exec_of_frame .strikeDecay _ s _ [.grant, .engine] rfl hs (s.chip.applyDecay_eq due)
      ((Chip.changesOnly_iff _ _ _).mpr (by simp)) (by simp) (by simp)
    refine ⟨t, he, hf, ?_⟩
    rw [ht, RecordEngine.asked_of_place _ _ place]
    exact ⟨rfl, rfl⟩

/-! ## KEEP and REVOKE (R73, R74) -/

theorem Chip.keepGrant_of_inForce (c : Chip) (h : c.grant.state = .active ∨ c.grant.state = .suspended) :
    c.keepGrant = ({ c with grant := { c.grant with record := { c.grant.record with
      idleRemaining := 15 * 2 ^ c.grant.record.idleChoice } } }, .ok) :=
  if_pos ((GrantState.inForce_iff _).mpr h)

theorem Chip.keepGrant_of_not_inForce (c : Chip)
    (h : c.grant.state = .idle ∨ c.grant.state = .opening ∨ c.grant.state = .ending) : c.keepGrant = (c, .noGrant) := by
  refine if_neg fun hf => ?_
  rcases h with h | h | h <;> rw [h] at hf <;> cases hf

theorem Chip.revokeGrant_of_idle (c : Chip) (h : c.grant.state = .idle) : c.revokeGrant = (c, .noGrant) := if_pos h

theorem Chip.revokeGrant_of_grant (c : Chip) (h : c.grant.state ≠ .idle) :
    c.revokeGrant = (c.endCause .revoked, .ok) := if_neg h

/-- The end of a grant in force has nothing to do with the link. -/
theorem Chip.endedBy_link (c d : Chip) (reason : EndReason) (l l' : Link) (h : c.endedBy reason d) :
    ({ c with link := l } : Chip).endedBy reason { d with link := l' } := h

/-- REVOKE of a grant in force ends it (R74). -/
theorem exec_revoke_inForce (s : State) (filler : Nat) (snap : Snapshot) (hs : s.calm) (hl : s.chip.listening snap)
    (h : s.chip.grant.state = .active ∨ s.chip.grant.state = .suspended) :
    ∃ t, exec (.revoke filler) s = .next t ∧ s.changesOnly [.bus, .grant, .overlay, .engine, .link] t
      ∧ s.chip.endedBy .revoked t.chip
      ∧ t.chip.link = s.chip.link.answered snap (3 + filler) ⟨.ok, 0x04#8, []⟩ := by
  let c := s.chip.heard snap (0 + 3 + filler)
  have owned : c.ownRevoke = (c.beginEnding .revoked).answer 0x04#8 .ok [] := by
    unfold Chip.ownRevoke
    rw [c.revokeGrant_of_grant (by rcases h with h | h <;> simp [c, Chip.heard, h]), c.endCause_of_inForce .revoked h]
    rfl
  have ended : s.chip.endedBy .revoked ((c.beginEnding .revoked).answer 0x04#8 .ok []) :=
    Chip.endedBy_link c _ .revoked s.chip.link _ (c.beginEnding_endedBy .revoked)
  refine ⟨_, exec_of_settled (.revoke filler) _ s _ rfl hs
    ((s.chip.request_of_listening snap 0 filler Chip.ownRevoke hl).trans owned)
    (s.chip.settled_of_endedBy _ .revoked hs.2.1 ended) ?_, ?_, ended, ?_⟩
  · rw [c.beginEnding_eq]
    rfl
  · refine State.changesOnly_of_chip _ s _ ((Chip.changesOnly_iff _ _ _).mpr ?_)
    rw [c.beginEnding_eq]
    simp [Chip.answer, c, Chip.heard]
  · dsimp only
    rw [c.beginEnding_eq]
    simp [Chip.answer, c, Chip.heard, Link.answered]

/-- Settles O43, by the grant's state. -/
theorem keepAndRevokeActByTheGrantState : Obligations.KeepAndRevokeActByTheGrantState := by
  refine ⟨fun s filler snap hs hl => ⟨fun h => ?_, fun h => ?_⟩,
    fun s filler snap hs hl => ⟨fun h => exec_revoke_inForce s filler snap hs hl h, fun h => ?_, fun h => ?_, fun h => ?_⟩⟩
  all_goals let c := s.chip.heard snap (0 + 3 + filler)
  · -- KEEP of a grant in force
    obtain ⟨t, he, hf, ht⟩ := exec_of_request (.keep filler) 0 filler Chip.ownKeep s snap _ [.grant, .link] rfl hs hl
      (congrArg (answerWith 0x03#8) (c.keepGrant_of_inForce h))
      ((Chip.changesOnly_iff _ _ _).mpr (by simp [answerWith, Chip.answer, c, Chip.heard])) (by simp) (by simp)
    refine ⟨t, he, hf, ?_⟩
    rw [ht]
    exact ⟨rfl, by simp [answerWith, Chip.answer, c, Chip.heard, Link.answered]⟩
  · -- KEEP without one
    obtain ⟨t, he, hf, ht⟩ := exec_of_request (.keep filler) 0 filler Chip.ownKeep s snap _ [.link] rfl hs hl
      (congrArg (answerWith 0x03#8) (c.keepGrant_of_not_inForce h))
      ((Chip.changesOnly_iff _ _ _).mpr (by simp [answerWith, Chip.answer, c, Chip.heard])) (by simp) (by simp)
    exact ⟨t, he, hf, by rw [ht]; simp [answerWith, Chip.answer, c, Chip.heard, Link.answered]⟩
  · -- REVOKE in OPENING
    have revoked := (c.revokeGrant_of_grant (by simp [c, Chip.heard, h])).trans
      (congrArg (·, ResultCode.ok) (c.endCause_of_opening .revoked h))
    obtain ⟨t, he, hf, ht⟩ := exec_of_request (.revoke filler) 0 filler Chip.ownRevoke s snap _ [.grant, .link] rfl hs hl
      (congrArg (answerWith 0x04#8) revoked)
      ((Chip.changesOnly_iff _ _ _).mpr (by simp [answerWith, Chip.answer, c, Chip.heard])) (by simp) (by simp)
    refine ⟨t, he, hf, ?_⟩
    rw [ht]
    exact ⟨rfl, by simp [answerWith, Chip.answer, c, Chip.heard, Link.answered]⟩
  · -- REVOKE in ENDING
    have revoked := (c.revokeGrant_of_grant (by simp [c, Chip.heard, h])).trans
      (congrArg (·, ResultCode.ok) (c.endCause_of_idle .revoked (.inr h)))
    obtain ⟨t, he, hf, ht⟩ := exec_of_request (.revoke filler) 0 filler Chip.ownRevoke s snap _ [.link] rfl hs hl
      (congrArg (answerWith 0x04#8) revoked)
      ((Chip.changesOnly_iff _ _ _).mpr (by simp [answerWith, Chip.answer, c, Chip.heard])) (by simp) (by simp)
    exact ⟨t, he, hf, by rw [ht]; simp [answerWith, Chip.answer, c, Chip.heard, Link.answered]⟩
  · -- REVOKE in IDLE
    obtain ⟨t, he, hf, ht⟩ := exec_of_request (.revoke filler) 0 filler Chip.ownRevoke s snap _ [.link] rfl hs hl
      (congrArg (answerWith 0x04#8) (c.revokeGrant_of_idle h))
      ((Chip.changesOnly_iff _ _ _).mpr (by simp [answerWith, Chip.answer, c, Chip.heard])) (by simp) (by simp)
    exact ⟨t, he, hf, by rw [ht]; simp [answerWith, Chip.answer, c, Chip.heard, Link.answered]⟩

end Sys2Proof.Machine
end

section
/-! The strike that reaches the lockout threshold (R81, R83). -/

namespace Sys2Proof.Machine

/-- The part with the strike count at the threshold and LOCKOUT_BEGIN queued, before the end cause (R83). -/
def Chip.locking (c : Chip) : Chip :=
  { c with
    grant := { c.grant with strikes := c.params.lockoutThreshold, decay := 0 }
    engine := { c.engine with queue := c.engine.queue ++
      [⟨.lockoutBegin c.params.lockoutThreshold c.params.lockoutThreshold, .grant, false, 0⟩] } }

/-- The strike that takes the count to the threshold begins lockout (R83). -/
theorem Chip.strike_of_threshold (c : Chip) (h : c.grant.strikes + 1 = c.params.lockoutThreshold)
    (h15 : c.grant.strikes < 15) (place : c.engine.queue.length < 8) :
    c.strike = (c.locking.endCause .lockout).notify .lockoutBegan := by
  have counted : min (c.grant.strikes + 1) 15 = c.params.lockoutThreshold := by omega
  have below : c.lockout = false := decide_eq_false (by omega)
  have reached : c.struck.lockout = true := decide_eq_true (le_of_eq counted.symm)
  rw [Chip.strike_eq, if_pos (by simp [below, reached])]
  unfold Chip.beginLockout Chip.append
  rw [Chip.requestAppend_asked, RecordEngine.asked_of_place c.struck.engine _ place]
  unfold Chip.struck Chip.locking
  dsimp only
  rw [counted]

/-- The part that a striking refusal at the threshold leaves before the end cause: the arrived part with the refusal listed,
the count at the threshold and LOCKOUT_BEGIN queued. -/
def Chip.lockingAt (c : Chip) (y : CycleRecord) (e : Reason) (r : Resolution) : Chip := (c.arrived.listed y e r).locking

/-- What that part is, field by field. -/
theorem Chip.lockingAt_eq (c : Chip) (y : CycleRecord) (e : Reason) (r : Resolution) :
    c.lockingAt y e r = { c.arrived with
      adu := { c.adu with refusals := (recordRefusal c.adu.refusals (c.refusalEntry y e r)).1 }
      link := { c.link with notices :=
        if c.adu.refusals = [] then c.link.notices ||| 0x0020#16 else c.link.notices }
      grant := { c.grant with strikes := c.params.lockoutThreshold, decay := 0 }
      engine := { c.engine with queue := c.engine.queue ++
        [⟨.lockoutBegin c.params.lockoutThreshold c.params.lockoutThreshold, .grant, false, 0⟩] } } := by
  unfold Chip.lockingAt Chip.locking
  rw [Chip.listed_eq]
  rfl

/-- A WRITE that an awake part refuses for a striking reason with a new entry, and whose strike is the threshold's. -/
structure StrikesOut (s : State) (b : BusCycle) (e : Reason) (r : Resolution) : Prop where
  supplied : s.supplied = true
  port : s.chip.bus.port = .idle
  write : b.writeStrobe = true
  lanes : (b.lowLane || b.highLane) = true
  awake : s.chip.supply.power ≠ .dormant
  gate : s.chip.bus.gate.isOpen = true
  reached : s.chip.grant.strikes + 1 = s.chip.params.lockoutThreshold
  belowMax : s.chip.grant.strikes < 15
  place : s.chip.engine.queue.length < 7
  striking : e ∈ [Reason.noGrant, .scope, .level, .cls, .frozen]
  decided : s.chip.decision (captureCycle b) = ⟨.drop, some e, none, false, r⟩
  new : (recordRefusal s.chip.adu.refusals (s.chip.refusalEntry (captureCycle b) e r)).2 = true

/-- The answer to a WRITE refused for a striking reason at the threshold, for what the end cause makes of the part. -/
theorem exec_arrival_lockout (s : State) (b : BusCycle) (e : Reason) (r : Resolution) (d : Chip)
    (h : StrikesOut s b e r)
    (hd : (s.chip.lockingAt (captureCycle b) e r).endCause .lockout = d) (params : d.params = s.chip.params) :
    exec (.processorCycleArrival b) s = .next { s with chip := { d.notify .lockoutBegan with
      bus := s.chip.busAfter { d.bus with
        port := .done { captureCycle b with decision := some ⟨.drop, some e, none, false, r⟩ } none
        memPort := d.bus.memPort.unparked } } } := by
  obtain ⟨hs, port, write, lanes, awake, gate, reached, belowMax, place, striking, decided, new⟩ := h
  let y := captureCycle b
  have dir : y.direction = .write := by simp [y, captureCycle, write]
  have struck : (s.chip.arrived.refuse y e r) = d.notify .lockoutBegan := by
    have listed : (s.chip.arrived.listed y e r).strike = d.notify .lockoutBegan := by
      rw [Chip.strike_of_threshold, ← hd]
      · rfl
      all_goals rw [Chip.listed_eq]
      · exact reached
      · exact belowMax
      · exact Nat.lt_succ_of_lt place
    have new' : (recordRefusal s.chip.arrived.adu.refusals (s.chip.arrived.refusalEntry y e r)).2 = true := new
    rw [Chip.refuse_eq, if_pos ((Bool.and_eq_true _ _).mpr ⟨new', (Reason.strikes_iff e).mpr striking⟩), listed]
  have drops : s.chip.cycleArrives b
      = (d.notify .lockoutBegan).portTo (.done { y with decision := some ⟨.drop, some e, none, false, r⟩ } none) := by
    rw [s.chip.cycleArrives_decided b port (by simp [write]) lanes awake gate,
      s.chip.arrived.decideLanes_of_refused y _ e decided rfl rfl, struck]
    exact Chip.completeCycle_unpark_write _ _ _ dir
  exact exec_arrival s b _ hs drops params nofun

/-- The memory port once a WRITE under a refused cycle has ended parking, where `gone` says whether the loader gives up its
transfer in flight. -/
theorem MemPort.unparked_of_busy_L (m : MemPort) (gone : Prop) [Decidable gone] :
    (if gone then m.disown .L else m).unparked = (match m with
      | .busy .L tr live => .busy .L tr (live && !decide gone)
      | port => port.unparked) := by
  cases m with
  | busy who tr live => cases who <;> by_cases h : gone <;> simp [h, MemPort.disown, MemPort.unparked]
  | free => by_cases h : gone <;> simp [h, MemPort.disown, MemPort.unparked]
  | parked => by_cases h : gone <;> simp [h, MemPort.disown, MemPort.unparked]

/-- The command's outcome from the part `d` that the end cause leaves, block by block. -/
theorem exec_arrival_lockout_blocks (s : State) (b : BusCycle) (e : Reason) (r : Resolution) (d : Chip)
    (h : StrikesOut s b e r)
    (hd : (s.chip.lockingAt (captureCycle b) e r).endCause .lockout = d)
    (frame : (s.chip.lockingAt (captureCycle b) e r).changesOnly [.grant, .overlay, .engine, .bus] d) :
    ∃ t, exec (.processorCycleArrival b) s = .next t
      ∧ s.changesOnly [.pins, .bus, .supply, .adu, .link, .grant, .overlay, .engine] t
      ∧ t.chip.pins = { s.chip.pins with chipSelect := true } ∧ t.chip.supply = s.chip.supply.afterArrival
      ∧ t.chip.bus = s.chip.busAfter { d.bus with
          port := .done { captureCycle b with decision := some ⟨.drop, some e, none, false, r⟩ } none
          memPort := d.bus.memPort.unparked }
      ∧ t.chip.adu = { s.chip.adu with
          refusals := (recordRefusal s.chip.adu.refusals (s.chip.refusalEntry (captureCycle b) e r)).1 }
      ∧ t.chip.link = { s.chip.link with notices :=
          (if s.chip.adu.refusals = [] then s.chip.link.notices ||| 0x0020#16 else s.chip.link.notices) ||| 0x0200#16 }
      ∧ t.chip.grant = d.grant ∧ t.chip.engine = d.engine ∧ t.chip.overlay = d.overlay := by
  have kept := (Chip.changesOnly_iff _ _ _).mp frame
  rw [Chip.lockingAt_eq] at kept
  simp only [List.mem_cons, reduceCtorEq, List.not_mem_nil, or_false, false_or, true_or, or_true, true_and,
    Chip.arrived] at kept
  obtain ⟨pins, map, params, monitor, adu, scanner, supply, link, draws⟩ := kept
  refine ⟨_, exec_arrival_lockout s b e r d h hd params,
    State.changesOnly_of_chip _ _ _ ((Chip.changesOnly_iff _ _ _).mpr ?_), pins, supply, rfl, adu, ?_, rfl, rfl, rfl⟩
  · simp [Chip.notify, map, params, monitor, scanner, draws]
  · simp only [Chip.notify, link]
    rfl

/-- An end cause is at most the pending end reason of a grant that is not in force (R67, R75). -/
theorem Chip.endCause_of_not_inForce (c : Chip) (reason : EndReason)
    (h : ¬ (c.grant.state = .active ∨ c.grant.state = .suspended)) :
    c.endCause reason = { c with grant :=
      if c.grant.state = .opening ∧ c.grant.record.pendingEnd = none then
        { c.grant with record := { c.grant.record with pendingEnd := some reason } }
      else c.grant } := by
  cases state : c.grant.state with
  | active => exact absurd (.inl state) h
  | suspended => exact absurd (.inr state) h
  | idle => simp [c.endCause_of_idle reason (.inl state)]
  | ending => simp [c.endCause_of_idle reason (.inr state)]
  | opening =>
    rw [c.endCause_of_opening reason state]
    by_cases pending : c.grant.record.pendingEnd = none
    · simp [pending]
    · simp [pending]

/-- Settles O32, by the grant's state: the strike queues LOCKOUT_BEGIN and is an end cause. -/
theorem strikeAtTheThresholdLocksOut : Obligations.StrikeAtTheThresholdLocksOut := by
  intro s b e hs _ port write lanes awake gate reached h15 place y r g entry inForce closes locked striking decided new
  have dir : y.direction = .write := by simp [y, captureCycle, write]
  have listed : s.chip.refusalEntry y e r = entry := by
    unfold Chip.refusalEntry
    rw [dir]
  rw [← listed] at new ⊢
  have answer (d : Chip) := exec_arrival_lockout_blocks s b e r d
    ⟨hs, port, write, lanes, awake, gate, reached, h15, place, striking, decided, new⟩
  let c := s.chip.lockingAt y e r
  have before : c = _ := s.chip.lockingAt_eq y e r
  have grant : c.grant = locked := congrArg Chip.grant before
  have overlay : c.overlay = s.chip.overlay := (congrArg Chip.overlay before).trans rfl
  have bus : c.bus = s.chip.bus := (congrArg Chip.bus before).trans rfl
  have engine : c.engine = { s.chip.engine with queue := s.chip.engine.queue ++
      [⟨.lockoutBegin s.chip.params.lockoutThreshold s.chip.params.lockoutThreshold, .grant, false, 0⟩] } :=
    congrArg Chip.engine before
  have hbus (d : Chip) (h : d.bus = { s.chip.bus with
        requestL := if closes then none else s.chip.bus.requestL
        memPort := if closes then s.chip.bus.memPort.disown .L else s.chip.bus.memPort
        port := d.bus.port }) (p : Port) :
      s.chip.busAfter { d.bus with port := p, memPort := d.bus.memPort.unparked } = s.chip.busAfter { s.chip.bus with
        port := p
        requestL := if closes then none else s.chip.bus.requestL
        memPort := match s.chip.bus.memPort with
          | .busy .L tr live => .busy .L tr (live && !decide closes)
          | port => port.unparked } := by
    rw [h, ← s.chip.bus.memPort.unparked_of_busy_L closes]
  by_cases hf : inForce
  · -- in force: the grant enters ENDING
    have ended := c.endCause_of_inForce .lockout (grant ▸ hf)
    obtain ⟨t, he, frame, pins, supply, tbus, adu, link, hgrant, hengine, hoverlay⟩ :=
      answer _ ended (c.beginEnding_frame .lockout)
    obtain ⟨grantE, overlayE, engineE, busC, busN⟩ := c.beginEnding_endedBy .lockout
    rw [grant] at engineE
    rw [engine] at engineE busC busN
    rw [bus] at busC busN
    simp only [Chip.grantEnded, grant, engine] at grantE
    simp only [Chip.overlayEnded, overlay, engine] at overlayE
    refine ⟨t, he, frame, pins, supply, tbus.trans (hbus _ ?_ _), adu, link, ?_, ?_, fun hc => ?_, fun hc => ?_⟩
    · by_cases hcommit : s.chip.engine.commit = none
      · rw [if_pos ⟨hf, hcommit⟩, if_pos ⟨hf, hcommit⟩, s.chip.bus.memPort.disown_L]
        exact (busN hcommit).1
      · rw [if_neg fun h => hcommit h.2, if_neg fun h => hcommit h.2, busC hcommit]
    · rw [hgrant, grantE, if_pos hf]
    · rw [hengine, engineE]
      by_cases hc : closes ∧ g.rewritten = 0#24
      · rw [if_pos ⟨hc.1.2, hc.2⟩, if_pos hc, RecordEngine.asked_of_place _ _ (by simp; omega)]
        simp [locked, g]
      · rw [if_neg fun h => hc ⟨⟨hf, h.1⟩, h.2⟩, if_neg hc]
    · rw [hoverlay]
      obtain ⟨whole, pages⟩ := overlayE.2 hc.2
      exact ⟨pages, whole⟩
    · rw [hoverlay, overlayE.1 fun h => hc ⟨hf, h⟩]
  · -- not in force: only the pending end reason of a grant in OPENING can change
    have notCloses : ¬ closes := fun h => hf h.1
    have ended := c.endCause_of_not_inForce .lockout (grant ▸ hf)
    obtain ⟨t, he, frame, pins, supply, tbus, adu, link, hgrant, hengine, hoverlay⟩ :=
      answer _ ended ((Chip.changesOnly_iff _ _ _).mpr (by simp [c, y]))
    refine ⟨t, he, frame, pins, supply, tbus.trans (hbus _ ?_ _), adu, link, ?_, ?_, fun hc => absurd hc notCloses,
      fun _ => hoverlay.trans overlay⟩
    · dsimp only
      rw [if_neg notCloses, if_neg notCloses, bus]
    · rw [hgrant, if_neg hf]
      dsimp only
      rw [grant]
    · rw [hengine]
      dsimp only
      rw [engine, if_neg fun h => notCloses h.1]

end Sys2Proof.Machine
end

section
/-! The end of the opening at a written GRANT_BEGIN (R67, R111). -/

namespace Sys2Proof.Machine

/-! ## The pages that begin loading (R111) -/

/-- The overlay pages with these in LOADING. -/
def enterAll (pages : Vector Page 8) (ps : List PageNo) : Vector Page 8 :=
  Vector.ofFn fun p : PageNo => if p ∈ ps then pages[p].enterLoading else pages[p]

theorem enterAll_page (pages : Vector Page 8) (ps : List PageNo) (p : PageNo) :
    (enterAll pages ps)[p] = if p ∈ ps then pages[p].enterLoading else pages[p] := by
  simp [enterAll]

theorem enterAll_nil (pages : Vector Page 8) : enterAll pages [] = pages := by
  ext p hp : 1
  simpa using enterAll_page pages [] ⟨p, hp⟩

theorem enterAll_cons (pages : Vector Page 8) (p : PageNo) (ps : List PageNo) (h : p ∉ ps) :
    enterAll (pages.set p pages[p].enterLoading) ps = enterAll pages (p :: ps) := by
  ext q hq : 1
  have left := enterAll_page (pages.set p pages[p].enterLoading) ps ⟨q, hq⟩
  have right := enterAll_page pages (p :: ps) ⟨q, hq⟩
  refine left.trans (Eq.trans ?_ right.symm)
  by_cases same : p = ⟨q, hq⟩
  · subst same
    simp [h]
  · have other : (p : Nat) ≠ q := fun e => same (Fin.ext e)
    simp [other, Ne.symm same]

/-- Pages that enter LOADING one after another have entered it together. -/
theorem Chip.foldl_enterLoading (ps : List PageNo) (c : Chip) (h : ps.Nodup) :
    ps.foldl (fun c p => c.setPage p c.overlay.pages[p].enterLoading) c
      = { c with overlay.pages := enterAll c.overlay.pages ps } := by
  induction ps generalizing c with
  | nil => rw [enterAll_nil, List.foldl_nil]
  | cons p ps ih =>
    obtain ⟨hp, hps⟩ := List.nodup_cons.mp h
    rw [List.foldl_cons, ih _ hps, ← enterAll_cons _ p ps hp]
    rfl

/-- Without a page to load an idle loader stays idle. -/
theorem Chip.startLoads_nil (c : Chip) (idle : c.overlay.queue = []) : c.startLoads [] = c := by
  have loads : c.startLoads [] = { c with overlay.queue := [] } := by
    unfold Chip.startLoads
    rw [idle, List.foldl_nil]
    rfl
  rw [loads, ← idle]

/-- An idle loader presents the read of the first page's first served word. -/
theorem Chip.startLoads_cons (c : Chip) (p : PageNo) (rest : List PageNo) (i : Nat) (a : Addr)
    (idle : c.overlay.queue = []) (nodup : (p :: rest).Nodup) (first : c.servedAt p 0 = some (i, a)) :
    c.startLoads (p :: rest) = { c with
      overlay := { c.overlay with
        pages := enterAll c.overlay.pages (p :: rest), queue := p :: rest, loadWord := i }
      bus := { c.bus with requestL := some ⟨a, .read⟩ } } := by
  have first' : ({ c with overlay.pages := enterAll c.overlay.pages (p :: rest) } : Chip).servedAt p 0 = some (i, a) :=
    first
  unfold Chip.startLoads
  rw [idle, c.foldl_enterLoading _ nodup]
  dsimp only
  unfold Chip.loadAlong
  rw [first']
  rfl

/-- The pages that a grant taking force loads are the closed pages bound to a window in its scope. -/
theorem Chip.mem_scopePages (c : Chip) (p : PageNo) : p ∈ c.scopePages ↔
    c.overlay.pages[p].state = .closed ∧ ∃ w, c.map.bindings[p] = some w ∧ hasWin c.grant.record.scope w = true := by
  unfold Chip.scopePages
  rw [List.mem_filter]
  cases c.map.bindings[p] <;> simp [and_comm]

theorem Chip.scopePages_ascending (c : Chip) : c.scopePages.Pairwise (· < ·) :=
  (List.pairwise_lt_finRange 8).filter _

/-! ## The written GRANT_BEGIN (R67) -/

/-- The part with the head risen over a written record (R138, R140). -/
def Chip.recorded (c : Chip) : Chip := ({ c with engine.head := c.engine.head + 1 } : Chip).watchLow c.freeSlots

theorem Chip.recorded_eq (c : Chip) : c.recorded = { c with
    engine.head := c.engine.head + 1
    link.notices :=
      if 64 ≤ c.freeSlots ∧ ({ c with engine.head := c.engine.head + 1 } : Chip).freeSlots < 64 then
        c.link.notices ||| 0x0040#16
      else c.link.notices } := by
  unfold Chip.recorded Chip.watchLow
  split
  · next h =>
    have low : 64 ≤ c.freeSlots ∧ ({ c with engine.head := c.engine.head + 1 } : Chip).freeSlots < 64 := h
    rw [if_pos low]
    rfl
  · next h =>
    have notLow : ¬ (64 ≤ c.freeSlots ∧ ({ c with engine.head := c.engine.head + 1 } : Chip).freeSlots < 64) := h
    rw [if_neg notLow]

/-- The free slots follow from the area's size and the head, the mark and the claim. -/
theorem Chip.freeSlots_congr (c d : Chip) (map : c.map = d.map)
    (counts : (c.engine.head, c.engine.mark, c.engine.claimed) = (d.engine.head, d.engine.mark, d.engine.claimed)) :
    c.freeSlots = d.freeSlots := by
  simp only [Prod.mk.injEq] at counts
  obtain ⟨head, mark, claimed⟩ := counts
  simp only [Chip.freeSlots, Chip.capacity, Chip.unarchived, map, head, mark, claimed]

/-- The link once the record's head has risen, as the free slots of a later part tell it. -/
theorem Chip.recorded_link (c t : Chip) (reply : Reply) (map : t.map = c.map)
    (counts : (t.engine.head, t.engine.mark, t.engine.claimed) = (c.engine.head + 1, c.engine.mark, c.engine.claimed)) :
    { c.recorded.link with reply := reply } = { c.link with
      notices := if 64 ≤ c.freeSlots ∧ t.freeSlots < 64 then c.link.notices ||| 0x0040#16 else c.link.notices
      reply := reply } := by
  have free : t.freeSlots = ({ c with engine.head := c.engine.head + 1 } : Chip).freeSlots :=
    t.freeSlots_congr { c with engine.head := c.engine.head + 1 } map counts
  rw [c.recorded_eq, free]

/-- The part in which a written GRANT_BEGIN ends the opening: the head has risen, and the record keeps its number. -/
def Chip.begun (c : Chip) : Chip := { c.recorded with grant.record.beginSeq := c.engine.head }

theorem Chip.begun_eq (c : Chip) : c.begun = { c with
    engine := { c.engine with head := c.engine.head + 1 }
    link := c.recorded.link
    grant := { c.grant with record.beginSeq := c.engine.head } } := by
  unfold Chip.begun
  rw [c.recorded_eq]

/-- With an end reason the opening ends in ENDING. -/
theorem Chip.openingEnds_of_reason (c : Chip) (reason : EndReason)
    (h : c.grant.record.pendingEnd = some reason
      ∨ (c.grant.record.pendingEnd = none ∧ c.grant.view.road = .moving ∧ reason = .motion)) (seq : Nat) :
    c.openingEnds seq
      = (({ c with grant.record.beginSeq := seq } : Chip).beginEnding reason).completePending 0x02#8 .ok := by
  unfold Chip.openingEnds
  dsimp only
  rcases h with h | ⟨h, moving, rfl⟩
  · rw [h]
  · rw [h]
    dsimp only
    rw [if_pos moving]

/-- Without one the grant takes force. -/
theorem Chip.openingEnds_of_force (c : Chip) (h : c.grant.record.pendingEnd = none) (road : c.grant.view.road ≠ .moving)
    (seq : Nat) :
    c.openingEnds seq = (({ c with grant.record.beginSeq := seq } : Chip).takeForce
      (if c.grant.conditionHolds then .active else .suspended)
      (if c.grant.conditionHolds then none else some c.params.suspendLimit)).completePending 0x02#8 .ok := by
  unfold Chip.openingEnds
  dsimp only
  split
  · next hp => exact nomatch h.symm.trans hp
  · rw [if_neg road]
    split
    · next holds =>
      have holds' : c.grant.conditionHolds = true := holds
      rw [holds']
      rfl
    · next holds =>
      have holds' : c.grant.conditionHolds = false := Bool.eq_false_iff.mpr holds
      rw [holds']
      rfl

/-- The part with a grant taking force, before its pages begin loading. -/
def Chip.forced (c : Chip) (state : GrantState) (suspend : Option Nat) : Chip :=
  { c with grant := { c.grant with
    state := state
    record := { c.grant.record with
      suspendRemaining := suspend
      remaining := c.grant.record.duration * 60
      idleRemaining := 15 * 2 ^ c.grant.record.idleChoice
      elapsed := 0 } } }

theorem Chip.takeForce_eq (c : Chip) (state : GrantState) (suspend : Option Nat) :
    c.takeForce state suspend = (c.forced state suspend).startLoads (c.forced state suspend).scopePages := rfl

/-- The motion condition of a grant's level (R63). -/
theorem GrantController.conditionHolds_of_level (g : GrantController) (l : Level) (h : g.record.level = some l) :
    g.conditionHolds = decide (g.view.road = .stationary
      ∧ (l = .adjust ∨ (g.view.engine = .stopped ∧ g.view.park = .applied))) := by
  rw [g.conditionHolds_eq, h]
  cases l <;> simp [MotionView.meets]

/-- The last write of GRANT_BEGIN is in flight for the opening's grant, and its request waits for the reply. -/
structure WritesGrantBegin (s : State) (tr : Transfer) : Prop where
  supplied : s.supplied = true
  up : s.chip.staysUp
  port : s.chip.bus.memPort = .busy .R tr true
  progress : ∃ q x l workshop time scope duration idle, s.chip.engine.progress = some ⟨q, none, .slot [x]⟩
    ∧ q.source = .grant ∧ q.claimed = false ∧ q.kind = .grantBegin l workshop time scope duration idle
  opening : s.chip.grant.state = .opening
  code : s.chip.link.reply.code = .pending
  echo : s.chip.link.reply.echo = 0x02#8

/-- The completion of GRANT_BEGIN's last write, for what the end of the opening makes of the part. -/
theorem exec_grantBegin_written (s : State) (tr : Transfer) (o : Chip) (h : WritesGrantBegin s tr)
    (ends : s.chip.recorded.openingEnds s.chip.engine.head = o.completePending 0x02#8 .ok)
    (params : o.params = s.chip.params) (supply : o.supply = s.chip.supply) (link : o.link = s.chip.recorded.link)
    (requestR : o.bus.requestR = none) :
    exec (.memoryTransferComplete none) s = .next { s with
      memory := (s.memory.complete tr none).1
      chip := { o with
        engine := { o.engine with progress := none }
        link := { s.chip.recorded.link with reply := ⟨.ok, 0x02#8, []⟩ }
        bus := s.chip.busAfter { o.bus with memPort := .free } } } := by
  obtain ⟨hs, up, port, ⟨q, x, l, workshop, time, scope, duration, idle, progress, source, claimed, kind⟩, opening, code,
    echo⟩ := h
  have pending : o.completePending 0x02#8 .ok
      = { o with link := { s.chip.recorded.link with reply := ⟨.ok, 0x02#8, []⟩ } } := by
    have waits : o.link.reply.code = .pending ∧ o.link.reply.echo = 0x02#8 := by
      rw [link, Chip.recorded_eq]
      exact ⟨code, echo⟩
    rw [← link]
    exact if_pos waits
  have done (data : Word) : s.chip.engineDone data = { o with
      engine := { o.engine with progress := none }
      link := { s.chip.recorded.link with reply := ⟨.ok, 0x02#8, []⟩ } } := by
    have told : s.chip.recorded.tellWritten q s.chip.engine.head
        = { o with link := { s.chip.recorded.link with reply := ⟨.ok, 0x02#8, []⟩ } } := by
      have state : s.chip.recorded.grant.state = .opening := by rw [Chip.recorded_eq]; exact opening
      unfold Chip.tellWritten Chip.openingWritten
      rw [kind]
      dsimp only
      rw [if_pos state, ends, pending]
    have follow : s.chip.followOn ⟨q, none, .slot [x]⟩ = [] := by
      unfold Chip.followOn
      rw [kind]
    have unclaimed (c : Chip) : c.unclaim q = c := if_neg (by simp [claimed])
    unfold Chip.engineDone Chip.progressDone Chip.appendComplete
    rw [progress]
    dsimp only
    rw [follow, unclaimed]
    unfold Chip.finishRequest Chip.requestFinished
    rw [source]
    dsimp only
    exact congrArg (fun c : Chip => { c with engine.progress := none }) told
  have ended (data : Word) : s.chip.transferDone .R true data = { o with
      engine := { o.engine with progress := none }
      link := { s.chip.recorded.link with reply := ⟨.ok, 0x02#8, []⟩ }
      bus := { o.bus with memPort := .free } } := by
    unfold Chip.transferDone Chip.requesterDone
    dsimp only
    rw [done]
    unfold Chip.endTransfer Chip.endInternal BusPath.request
    dsimp only
    rw [requestR]
  refine congrArg Host.Outcome.next ((s.transferComplete_of_busy none .R tr true hs port).trans ?_)
  rw [ended]
  refine congrArg (fun c : Chip => ({ s with memory := _, chip := c } : State)) (Chip.finish_eq s.chip _ params (.inl ?_))
  unfold Chip.staysUp
  dsimp only
  rw [supply]
  exact up

/-- The grant of the part taking force: its timers set, its sequence number kept (R67). -/
theorem Chip.begun_forced_grant (c : Chip) (state : GrantState) (suspend : Option Nat) :
    (c.begun.forced state suspend).grant = { c.grant with
      state := state
      record := { c.grant.record with
        suspendRemaining := suspend
        remaining := c.grant.record.duration * 60
        idleRemaining := 15 * 2 ^ c.grant.record.idleChoice
        elapsed := 0
        beginSeq := c.engine.head } } := by
  rw [c.begun_eq]
  rfl

/-- The outcome where the grant takes force, from what the loader's start makes of the part. -/
theorem exec_grantBegin_force (s : State) (tr : Transfer) (h : WritesGrantBegin s tr)
    (requestR : s.chip.bus.requestR = none) (pending : s.chip.grant.record.pendingEnd = none)
    (road : s.chip.grant.view.road ≠ .moving) (f : Chip)
    (hf : f = s.chip.begun.forced (if s.chip.grant.conditionHolds then .active else .suspended)
      (if s.chip.grant.conditionHolds then none else some s.chip.params.suspendLimit))
    (pages : Vector Page 8) (queue : List PageNo) (word : Nat) (load : Option Transfer)
    (started : f.startLoads f.scopePages = { f with
      overlay := { f.overlay with pages := pages, queue := queue, loadWord := word }
      bus := { f.bus with requestL := load } }) :
    ∃ t, exec (.memoryTransferComplete none) s = .next t
      ∧ s.chip.changesOnly [.bus, .grant, .overlay, .engine, .link] t.chip
      ∧ t.chip.engine = { s.chip.engine with head := s.chip.engine.head + 1, progress := none }
      ∧ t.chip.grant = f.grant
      ∧ t.chip.link = { s.chip.link with
          notices :=
            if 64 ≤ s.chip.freeSlots ∧ t.chip.freeSlots < 64 then s.chip.link.notices ||| 0x0040#16
            else s.chip.link.notices
          reply := ⟨.ok, 0x02#8, []⟩ }
      ∧ t.chip.overlay = { s.chip.overlay with pages := pages, queue := queue, loadWord := word }
      ∧ t.chip.bus = s.chip.busAfter { s.chip.bus with memPort := .free, requestL := load } := by
  have ends : s.chip.recorded.openingEnds s.chip.engine.head
      = (f.startLoads f.scopePages).completePending 0x02#8 .ok := by
    have condition : s.chip.recorded.grant.conditionHolds = s.chip.grant.conditionHolds := by rw [s.chip.recorded_eq]
    have limit : s.chip.recorded.params.suspendLimit = s.chip.params.suspendLimit := by rw [s.chip.recorded_eq]
    rw [hf, ← Chip.takeForce_eq, ← condition, ← limit]
    exact Chip.openingEnds_of_force _ (by rw [s.chip.recorded_eq]; exact pending) (by rw [s.chip.recorded_eq]; exact road) _
  have fields : f = { s.chip with
      engine := { s.chip.engine with head := s.chip.engine.head + 1 }
      link := s.chip.recorded.link
      grant := f.grant } := by
    rw [hf, s.chip.begun_eq]
    rfl
  have done := exec_grantBegin_written s tr (f.startLoads f.scopePages) h ends (by rw [started, fields])
    (by rw [started, fields]) (by rw [started, fields]) (by rw [started, fields]; exact requestR)
  rw [started, fields] at done
  exact ⟨_, done, (Chip.changesOnly_iff _ _ _).mpr (by simp), rfl, rfl, s.chip.recorded_link _ _ rfl rfl, rfl, rfl⟩

/-- The outcome where the grant ends at once, from what its entry to ENDING makes of the part. -/
theorem exec_grantBegin_end (s : State) (tr : Transfer) (h : WritesGrantBegin s tr) (reason : EndReason)
    (requestR : s.chip.bus.requestR = none) (place : s.chip.engine.queue.length < 8)
    (why : s.chip.grant.record.pendingEnd = some reason
      ∨ (s.chip.grant.record.pendingEnd = none ∧ s.chip.grant.view.road = .moving ∧ reason = .motion)) :
    ∃ t, exec (.memoryTransferComplete none) s = .next t
      ∧ s.chip.changesOnly [.bus, .grant, .overlay, .engine, .link] t.chip
      ∧ t.chip.engine = { (s.chip.begun.beginEnding reason).engine with progress := none }
      ∧ t.chip.grant = s.chip.begun.grantEnded reason
      ∧ t.chip.link = { s.chip.link with
          notices :=
            if 64 ≤ s.chip.freeSlots ∧ t.chip.freeSlots < 64 then s.chip.link.notices ||| 0x0040#16
            else s.chip.link.notices
          reply := ⟨.ok, 0x02#8, []⟩ }
      ∧ t.chip.overlay = (s.chip.begun.beginEnding reason).overlay
      ∧ t.chip.bus = s.chip.busAfter { (s.chip.begun.beginEnding reason).bus with memPort := .free } := by
  have ends := s.chip.recorded.openingEnds_of_reason reason (by rw [s.chip.recorded_eq]; exact why) s.chip.engine.head
  have frame := s.chip.begun.beginEnding_frame reason
  have begun : s.chip.changesOnly [.grant, .engine, .link] s.chip.begun := by
    rw [s.chip.begun_eq]
    exact (Chip.changesOnly_iff _ _ _).mpr (by simp)
  obtain ⟨grant, -, engine, busC, busN⟩ := s.chip.begun.beginEnding_endedBy reason
  have bus : s.chip.begun.bus = s.chip.bus := begun .bus (by simp)
  have stillR : (s.chip.begun.beginEnding reason).bus.requestR = s.chip.bus.requestR := by
    rw [← bus]
    by_cases hc : s.chip.begun.engine.commit = none
    · rw [(busN hc).1]
    · rw [busC hc]
  have map : (s.chip.begun.beginEnding reason).map = s.chip.map := (frame .map (by simp)).trans (begun .map (by simp))
  have counts : ((s.chip.begun.beginEnding reason).engine.head, (s.chip.begun.beginEnding reason).engine.mark,
      (s.chip.begun.beginEnding reason).engine.claimed)
      = (s.chip.engine.head + 1, s.chip.engine.mark, s.chip.engine.claimed) := by
    have begunEngine : s.chip.begun.engine = { s.chip.engine with head := s.chip.engine.head + 1 } := by rw [s.chip.begun_eq]
    rw [engine, begunEngine]
    split
    · rw [RecordEngine.asked_of_place _ _ (by exact place)]
    · rfl
  have done := exec_grantBegin_written s tr (s.chip.begun.beginEnding reason) h ends
    ((frame .params (by simp)).trans (begun .params (by simp))) ((frame .supply (by simp)).trans (begun .supply (by simp)))
    ((frame .link (by simp)).trans (by rw [s.chip.begun_eq])) (stillR.trans requestR)
  refine ⟨_, done, fun b hb => ?_, rfl, grant, s.chip.recorded_link _ _ map counts, rfl, rfl⟩
  simp only [List.mem_cons, List.not_mem_nil, or_false, not_or] at hb
  obtain ⟨notBus, notGrant, notOverlay, notEngine, notLink⟩ := hb
  have first := begun b (by simp [notGrant, notEngine, notLink])
  have second := frame b (by simp [notGrant, notOverlay, notEngine, notBus])
  cases b with
  | bus => exact absurd rfl notBus
  | grant => exact absurd rfl notGrant
  | overlay => exact absurd rfl notOverlay
  | engine => exact absurd rfl notEngine
  | link => exact absurd rfl notLink
  | _ => exact Eq.trans second first

/-- Settles O15, by whether an end reason stands when the record is written. -/
theorem writtenGrantBeginTakesForce : Obligations.WrittenGrantBeginTakesForce := by
  intro s tr q x l workshop time scope duration idle hs up port progress source claimed kind opening level code echo requestR
    requestL queue g holds loads engine linked
  have writes : WritesGrantBegin s tr := ⟨hs, up, port,
    ⟨q, x, l, workshop, time, scope, duration, idle, progress, source, claimed, kind⟩, opening, code, echo⟩
  refine ⟨fun pending road served => ?_, fun reason why place => ?_⟩
  · -- the grant takes force
    have condition : s.chip.grant.conditionHolds = holds := s.chip.grant.conditionHolds_of_level l level
    let f : Chip := s.chip.begun.forced (if holds then .active else .suspended)
      (if holds then none else some s.chip.params.suspendLimit)
    have grant := s.chip.begun_forced_grant (if holds then .active else .suspended)
      (if holds then none else some s.chip.params.suspendLimit)
    have overlay : f.overlay = s.chip.overlay := by simp only [f, s.chip.begun_eq, Chip.forced]
    have map : f.map = s.chip.map := by simp only [f, s.chip.begun_eq, Chip.forced]
    have fbus : f.bus = s.chip.bus := by simp only [f, s.chip.begun_eq, Chip.forced]
    have loading (p : PageNo) : p ∈ f.scopePages ↔ loads p := by
      rw [f.mem_scopePages, overlay, map, show f.grant = _ from grant]
    have ascending := f.scopePages_ascending
    have idle : f.overlay.queue = [] := by rw [overlay]; exact queue
    have outcome := exec_grantBegin_force s tr writes requestR pending road f (by rw [condition])
    cases pages : f.scopePages with
    | nil =>
      have none (p : PageNo) : ¬ loads p := fun h => by simpa [pages] using (loading p).mpr h
      obtain ⟨t, he, frame, engine, tgrant, link, toverlay, bus⟩ := outcome s.chip.overlay.pages [] s.chip.overlay.loadWord
        Option.none (by rw [pages, f.startLoads_nil idle, overlay, ← queue, ← requestL, ← fbus, ← overlay])
      refine ⟨t, he, frame, engine, tgrant.trans grant, link, ?_⟩
      rw [toverlay, bus, ← requestL]
      exact ⟨fun p => ⟨fun h => absurd h (none p), fun _ => rfl⟩, by simp [none], .nil, rfl, fun _ => rfl, nofun⟩
    | cons p rest =>
      obtain ⟨⟨i, a⟩, first⟩ := Option.isSome_iff_exists.mp (served p ((loading p).mp (by simp [pages])))
      have first' : f.servedAt p 0 = some (i, a) := by
        unfold Chip.servedAt at first ⊢
        rwa [map]
      obtain ⟨t, he, frame, engine, tgrant, link, toverlay, bus⟩ := outcome (enterAll s.chip.overlay.pages (p :: rest))
        (p :: rest) i (some ⟨a, .read⟩)
        (by rw [pages, f.startLoads_cons p rest i a idle (pages ▸ ascending.nodup) first', overlay])
      rw [pages] at loading ascending
      refine ⟨t, he, frame, engine, tgrant.trans grant, link, ?_⟩
      rw [toverlay, bus]
      refine ⟨fun n => ?_, loading, ascending, rfl, nofun, fun n rest' j b hq hn => ?_⟩
      · dsimp only
        rw [enterAll_page]
        exact ⟨fun h => if_pos ((loading n).mpr h), fun h => if_neg (mt (loading n).mp h)⟩
      · obtain ⟨rfl, rfl⟩ := List.cons.inj hq
        obtain ⟨rfl, rfl⟩ := Prod.mk.inj (Option.some.inj (first.symm.trans hn))
        exact ⟨rfl, rfl⟩
  · -- the grant ends at once
    have fgrant : s.chip.begun.grant = { s.chip.grant with record.beginSeq := s.chip.engine.head } := by
      rw [s.chip.begun_eq]
    have fengine : s.chip.begun.engine = { s.chip.engine with head := s.chip.engine.head + 1 } := by rw [s.chip.begun_eq]
    have fbus : s.chip.begun.bus = s.chip.bus := by rw [s.chip.begun_eq]
    have foverlay : s.chip.begun.overlay = s.chip.overlay := by rw [s.chip.begun_eq]
    obtain ⟨t, he, frame, tengine, tgrant, link, toverlay, bus⟩ :=
      exec_grantBegin_end s tr writes reason requestR place why
    obtain ⟨-, ⟨overlayC, overlayN⟩, hengine, -, -⟩ := s.chip.begun.beginEnding_endedBy reason
    rw [fengine, foverlay, ← toverlay] at overlayC overlayN
    rw [fengine, fgrant] at hengine
    refine ⟨t, he, frame, ?_, tgrant.trans ?_, link, fun p => ?_, ?_, fun hp => ?_⟩
    · rw [tengine, hengine]
      by_cases hc : s.chip.engine.commit = none ∧ g.rewritten = 0#24
      · rw [if_pos hc, if_pos hc, RecordEngine.asked_of_place _ _ (by exact place)]
      · rw [if_neg hc, if_neg hc]
    · simp only [Chip.grantEnded, fgrant, fengine]
      rfl
    · by_cases hc : s.chip.engine.commit = none
      · simpa only [hc, ne_eq, not_true_eq_false, false_or] using (overlayN hc).2 p
      · simp only [hc, overlayC hc, ne_eq, not_false_eq_true, true_or, if_true]
    · by_cases hc : s.chip.engine.commit = none
      · exact (overlayN hc).1.trans (by rw [← queue])
      · rw [overlayC hc]
    · have idle := s.chip.begun.beginEnding_bus_of_idle reason (by rw [fbus]; exact requestL)
        (by rw [fbus, port]; simp) (by rw [fbus]; exact hp)
      rw [bus, idle, fbus]

end Sys2Proof.Machine
end

section
/-! The sum requests: asked, served and delivered (R78, R169, R170). -/

namespace Sys2Proof.Machine

/-! ## Two chains made together -/

/-- `ks` is made of `ls` and `ms`, each in its own order. -/
inductive Interleaves {β : Type} : List β → List β → List β → Prop
  | onlyRight (ms : List β) : Interleaves [] ms ms
  | onlyLeft (ls : List β) : Interleaves ls [] ls
  | left (l : β) (ls ms ks : List β) : Interleaves ls ms ks → Interleaves (l :: ls) ms (l :: ks)
  | right (m : β) (ls ms ks : List β) : Interleaves ls ms ks → Interleaves ls (m :: ms) (m :: ks)

namespace Interleaves

variable {β : Type} {ls ms ks : List β}

theorem append (ls ms : List β) : Interleaves ls ms (ls ++ ms) := by
  induction ls with
  | nil => exact .onlyRight ms
  | cons l ls ih => exact ih.left l

theorem perm (h : Interleaves ls ms ks) : ks.Perm (ls ++ ms) := by
  induction h with
  | onlyRight => rfl
  | onlyLeft ls => rw [List.append_nil]
  | left l ls ms ks _ ih => exact ih.cons l
  | right m ls ms ks _ ih => exact (ih.cons m).trans List.perm_middle.symm

theorem left_sublist (h : Interleaves ls ms ks) : ls.Sublist ks := by
  induction h with
  | onlyRight ms => exact List.nil_sublist ms
  | onlyLeft ls => exact List.Sublist.refl ls
  | left l ls ms ks _ ih => exact ih.cons_cons l
  | right m ls ms ks _ ih => exact ih.cons m

theorem right_sublist (h : Interleaves ls ms ks) : ms.Sublist ks := by
  induction h with
  | onlyRight ms => exact List.Sublist.refl ms
  | onlyLeft ls => exact List.nil_sublist ls
  | left l ls ms ks _ ih => exact ih.cons l
  | right m ls ms ks _ ih => exact ih.cons_cons m

theorem pairwise {R : β → β → Prop} (h : Interleaves ls ms ks) (hl : ls.Pairwise R) (hm : ms.Pairwise R)
    (cross : ∀ a ∈ ls, ∀ b ∈ ms, R a b ∧ R b a) : ks.Pairwise R := by
  induction h with
  | onlyRight ms => exact hm
  | onlyLeft ls => exact hl
  | left l ls ms ks hk ih =>
    obtain ⟨first, rest⟩ := List.pairwise_cons.mp hl
    refine List.pairwise_cons.mpr ⟨fun b hb => ?_, ih rest hm fun a ha => cross a (List.mem_cons_of_mem l ha)⟩
    rcases List.mem_append.mp (hk.perm.mem_iff.mp hb) with hb | hb
    · exact first b hb
    · exact (cross l List.mem_cons_self b hb).1
  | right m ls ms ks hk ih =>
    obtain ⟨first, rest⟩ := List.pairwise_cons.mp hm
    refine List.pairwise_cons.mpr ⟨fun b hb => ?_, ih hl rest fun a ha b hb => cross a ha b (List.mem_cons_of_mem m hb)⟩
    rcases List.mem_append.mp (hk.perm.mem_iff.mp hb) with hb | hb
    · exact (cross b hb m List.mem_cons_self).2
    · exact first b hb

end Interleaves

/-- Two chains of changes that do not look at the free values are made in some interleaving, whatever those values say. -/
theorem Chip.together_interleaves {β : Type} (act : β → Chip → Chip)
    (blind : ∀ k c d, act k { c with draws := d } = { act k c with draws := d }) (n : Nat) (ls ms : List β) (c : Chip) :
    ∃ ks d, Interleaves ls ms ks
      ∧ Chip.together n (ls.map act) (ms.map act) c = ({ c with draws := d } : Chip).inOrder (ks.map act) := by
  induction n generalizing ls ms c with
  | zero => exact ⟨ls ++ ms, c.draws, .append ls ms, by rw [List.map_append]; rfl⟩
  | succ n ih =>
    match ls, ms with
    | [], ms => exact ⟨ms, c.draws, .onlyRight ms, rfl⟩
    | l :: ls, [] => exact ⟨l :: ls, c.draws, .onlyLeft _, by simp [Chip.together]⟩
    | l :: ls, m :: ms =>
      simp only [List.map_cons, Chip.together]
      split
      · obtain ⟨ks, d, made, eq⟩ := ih (l :: ls) ms (act m c.drawn)
        refine ⟨m :: ks, d, made.right m, eq.trans ?_⟩
        rw [← blind]
        rfl
      · obtain ⟨ks, d, made, eq⟩ := ih ls (m :: ms) (act l c.drawn)
        refine ⟨l :: ks, d, made.left l, eq.trans ?_⟩
        rw [← blind]
        rfl

/-! ## What the delivery of a sum brings about (R150, R173, R78, R79) -/

/-- A change that a delivered sum brings about. -/
inductive SumStep where
  | commit
  | rebase
  | closing
  | closingGoesOn

/-- The change itself, for the sum of window `w`. -/
def SumStep.act (w : Win) (sum : DWord) : SumStep → Chip → Chip
  | .commit => Chip.commitSum w sum
  | .rebase => Chip.rebaseSum w sum
  | .closing => Chip.closingSum w sum
  | .closingGoesOn => Chip.closingGoesOn

/-- The changes of each requester but the survey, in order. -/
def SumClient.steps : SumClient → List SumStep
  | .commit => [.commit]
  | .rebase => [.rebase]
  | .closing => [.closing, .closingGoesOn]
  | .survey => []

theorem SumClient.takes_eq (client : SumClient) (w : Win) (sum : DWord) (h : client ≠ .survey) :
    client.takes w sum = client.steps.map (SumStep.act w sum) := by
  cases client with
  | survey => exact absurd rfl h
  | commit => rfl
  | rebase => rfl
  | closing => rfl

/-- The appends that a change asks for, where the ending has the windows `left` still to go under the record `g`. -/
def SumStep.asks (w : Win) (sum : DWord) (left : List Win) (g : GrantRecord) : SumStep → List AppendRequest
  | .commit => [⟨.windowSum w .commit sum, .commit, true, 0⟩]
  | .rebase => [⟨.windowSum w .rebase sum, .scanner, false, 0⟩]
  | .closing => [⟨.windowSum w .reflash sum, .grant, false, 0⟩]
  | .closingGoesOn => if left = [] then [⟨g.endAppend, .grant, false, 0⟩] else []

/-- The part with appends asked for in this order, and the ending at this step. -/
def Chip.asking (c : Chip) (made : List AppendRequest) (step : EndingStep) : Chip :=
  { c with engine := made.foldl RecordEngine.asked c.engine, grant.step := step }

/-- Whether a change finds what it acts on: the commit, the REBASE, or the ending at window `w`. -/
def SumStep.ready (w : Win) (left : List Win) (c : Chip) : SumStep → Prop
  | .commit => c.engine.commit ≠ none
  | .rebase => c.scanner.rebase ≠ none
  | .closing => c.grant.step = .closing (w :: left) true
  | .closingGoesOn => c.grant.step = .closing (w :: left) true

/-- The ending's step after a change. -/
def SumStep.after (left : List Win) (step : EndingStep) : SumStep → EndingStep
  | .closingGoesOn => if left = [] then .grantEnd else .closing left false
  | .commit => step
  | .rebase => step
  | .closing => step

theorem Chip.closingSum_of_step (c : Chip) (w : Win) (sum : DWord) {v : Win} {left : List Win}
    (h : c.grant.step = .closing (v :: left) true) : c.closingSum w sum = c.append .grant (.windowSum w .reflash sum) := by
  unfold Chip.closingSum
  rw [h]

theorem Chip.closingGoesOn_of_step (c : Chip) {v : Win} {left : List Win} (h : c.grant.step = .closing (v :: left) true) :
    c.closingGoesOn = c.closeWindows left := by
  unfold Chip.closingGoesOn
  rw [h]

/-- A change that finds what it acts on asks for its appends, and the ending may go on. -/
theorem SumStep.act_eq (k : SumStep) (w : Win) (sum : DWord) {v : Win} (left : List Win) (c : Chip) (h : k.ready v left c) :
    k.act w sum c = c.asking (k.asks w sum left c.grant.record) (k.after left c.grant.step) := by
  cases k with
  | commit =>
    have running : c.commitInFlight = true := Option.isSome_iff_ne_none.mpr h
    exact (if_pos running).trans (Chip.requestAppend_asked c _)
  | rebase =>
    have running : c.rebaseInFlight = true := Option.isSome_iff_ne_none.mpr h
    exact (if_pos running).trans (Chip.requestAppend_asked c _)
  | closing => exact (c.closingSum_of_step w sum h).trans (Chip.requestAppend_asked c _)
  | closingGoesOn =>
    refine (c.closingGoesOn_of_step h).trans ?_
    cases left with
    | nil => exact Chip.requestAppend_asked _ _
    | cons v left => rfl

/-- A change that does not find what it acts on changes nothing. -/
theorem SumStep.act_of_not_ready (k : SumStep) (w : Win) (sum : DWord) (c : Chip) (h : ∀ v left, ¬ k.ready v left c) :
    k.act w sum c = c := by
  have notClosing (v : Win) (left : List Win) (hk : k = .closing ∨ k = .closingGoesOn) :
      c.grant.step ≠ .closing (v :: left) true := by
    rcases hk with rfl | rfl
    · exact h v left
    · exact h v left
  cases k with
  | commit =>
    have none : c.engine.commit = none := not_not.mp (h w [])
    exact if_neg (by simp [Chip.commitInFlight, none])
  | rebase =>
    have none : c.scanner.rebase = none := not_not.mp (h w [])
    exact if_neg (by simp [Chip.rebaseInFlight, none])
  | closing =>
    unfold SumStep.act Chip.closingSum
    dsimp only
    split
    · next v left step => exact absurd step (notClosing v left (.inl rfl))
    · rfl
  | closingGoesOn =>
    unfold SumStep.act Chip.closingGoesOn
    dsimp only
    split
    · next v left step => exact absurd step (notClosing v left (.inr rfl))
    · rfl

/-- In any state a change asks for appends and moves the ending's step at most, and it does not look at the free values. -/
theorem SumStep.act_asking (k : SumStep) (w : Win) (sum : DWord) (c : Chip) :
    ∃ made step, ∀ d, k.act w sum { c with draws := d } = ({ c with draws := d } : Chip).asking made step := by
  have blind (v : Win) (left : List Win) (d : Nat) : k.ready v left { c with draws := d } ↔ k.ready v left c := by
    cases k <;> rfl
  by_cases h : ∃ v left, k.ready v left c
  · obtain ⟨v, left, h⟩ := h
    exact ⟨k.asks w sum left c.grant.record, k.after left c.grant.step,
      fun d => k.act_eq w sum left { c with draws := d } ((blind v left d).mpr h)⟩
  · refine ⟨[], c.grant.step, fun d => k.act_of_not_ready w sum _ fun v left hr => h ⟨v, left, (blind v left d).mp hr⟩⟩

theorem SumStep.act_blind (k : SumStep) (w : Win) (sum : DWord) (c : Chip) (d : Nat) :
    k.act w sum { c with draws := d } = { k.act w sum c with draws := d } := by
  obtain ⟨made, step, act⟩ := k.act_asking w sum c
  rw [act d]
  exact congrArg (fun e : Chip => { e with draws := d }) (act c.draws).symm

/-- Changes made one after the other ask for appends and move the ending's step at most. -/
theorem Chip.inOrder_asking (ks : List SumStep) (w : Win) (sum : DWord) (c : Chip) :
    ∃ made step, c.inOrder (ks.map (SumStep.act w sum)) = c.asking made step := by
  induction ks generalizing c with
  | nil => exact ⟨[], c.grant.step, rfl⟩
  | cons k ks ih =>
    obtain ⟨first, step, act⟩ := k.act_asking w sum c
    obtain ⟨made, step', rest⟩ := ih (k.act w sum c)
    refine ⟨first ++ made, step', rest.trans ?_⟩
    rw [show k.act w sum c = c.asking first step from act c.draws]
    unfold Chip.asking
    rw [List.foldl_append]

theorem RecordEngine.foldl_asked_commit (made : List AppendRequest) (e : RecordEngine) :
    (made.foldl RecordEngine.asked e).commit = e.commit := by
  induction made generalizing e with
  | nil => rfl
  | cons x made ih =>
    refine (ih (e.asked x)).trans ?_
    unfold RecordEngine.asked
    split <;> rfl

theorem SumStep.after_of_not_goesOn (k : SumStep) (left : List Win) (step : EndingStep) (h : k ≠ .closingGoesOn) :
    k.after left step = step := by
  cases k with
  | closingGoesOn => exact absurd rfl h
  | commit => rfl
  | rebase => rfl
  | closing => rfl

/-- Nothing of the ending comes after its going on. -/
def SumStep.goesOnLast (k l : SumStep) : Prop := k = .closingGoesOn → l ≠ .closing ∧ l ≠ .closingGoesOn

theorem SumStep.foldl_after_of_not_mem (ks : List SumStep) (left : List Win) (step : EndingStep)
    (h : .closingGoesOn ∉ ks) : ks.foldl (fun step k => k.after left step) step = step := by
  induction ks with
  | nil => rfl
  | cons k ks ih =>
    rw [List.foldl_cons, k.after_of_not_goesOn left step fun e => h (by simp [e]),
      ih fun later => h (List.mem_cons_of_mem k later)]

/-- Once the ending goes on, no other change moves its step. -/
theorem SumStep.foldl_after_of_mem (ks : List SumStep) (left : List Win) (step : EndingStep) (h : .closingGoesOn ∈ ks) :
    ks.foldl (fun step k => k.after left step) step = if left = [] then .grantEnd else .closing left false := by
  induction ks generalizing step with
  | nil => cases h
  | cons k ks ih =>
    by_cases later : .closingGoesOn ∈ ks
    · exact ih _ later
    · have first : k = .closingGoesOn := by simpa [later, eq_comm] using h
      subst first
      exact SumStep.foldl_after_of_not_mem ks left _ later

/-- Changes that each find what they act on, where nothing of the ending follows its going on, ask for their appends in
order, and the ending goes on if one of them says so. -/
theorem Chip.inOrder_steps (ks : List SumStep) (w : Win) (sum : DWord) (left : List Win) (c : Chip)
    (ready : ∀ k ∈ ks, k.ready w left c) (last : ks.Pairwise SumStep.goesOnLast) :
    c.inOrder (ks.map (SumStep.act w sum)) = c.asking (ks.flatMap (SumStep.asks w sum left c.grant.record))
      (ks.foldl (fun step k => k.after left step) c.grant.step) := by
  induction ks generalizing c with
  | nil => rfl
  | cons k ks ih =>
    obtain ⟨notYet, last⟩ := List.pairwise_cons.mp last
    have acts := k.act_eq w sum left c (ready k List.mem_cons_self)
    have rest := ih (k.act w sum c) (fun l hl => ?_) last
    · refine Eq.trans rest ?_
      rw [acts]
      unfold Chip.asking
      rw [List.flatMap_cons, List.foldl_append, List.foldl_cons]
    · have hr := ready l (List.mem_cons_of_mem k hl)
      rw [acts]
      cases l with
      | commit => exact (RecordEngine.foldl_asked_commit _ c.engine).trans_ne hr
      | rebase => exact hr
      | closing => exact (SumStep.after_of_not_goesOn k left _ fun e => (notYet _ hl e).1 rfl).trans hr
      | closingGoesOn => exact (SumStep.after_of_not_goesOn k left _ fun e => (notYet _ hl e).2 rfl).trans hr

theorem SumClient.steps_goesOnLast (x : SumClient) : x.steps.Pairwise SumStep.goesOnLast := by
  cases x <;> simp [SumClient.steps, SumStep.goesOnLast]

/-- Two requesters have no step in common, and only one is the ending. -/
theorem SumClient.goesOnLast_of_ne (x y : SumClient) (h : x ≠ y) :
    ∀ k ∈ x.steps, ∀ l ∈ y.steps, k.goesOnLast l ∧ l.goesOnLast k := by
  cases x <;> cases y <;> simp [SumClient.steps, SumStep.goesOnLast] at h ⊢

/-- The delivery of a sum to one requester or to two, as the steps it makes (R136, R170). -/
theorem Chip.deliver_steps (c : Chip) (w : Win) (sum : DWord) (clients : List SumClient) (survey : .survey ∉ clients)
    (nodup : clients.Nodup) (count : clients.length = 1 ∨ clients.length = 2) :
    ∃ ks n, c.deliver w sum clients = ({ c with draws := n } : Chip).inOrder (ks.map (SumStep.act w sum))
      ∧ ks.Perm (clients.flatMap SumClient.steps) ∧ (∀ x ∈ clients, x.steps.Sublist ks)
      ∧ ks.Pairwise SumStep.goesOnLast ∧ (clients.length = 1 → n = c.draws) := by
  match clients, count with
  | [x], _ =>
    refine ⟨x.steps, c.draws, ?_, by simp, by simp, x.steps_goesOnLast, fun _ => rfl⟩
    rw [c.deliver_one, x.takes_eq w sum fun h => survey (by simp [h])]
  | [x, y], _ =>
    have deliver : c.deliver w sum [x, y]
        = Chip.together 3 (x.steps.map (SumStep.act w sum)) (y.steps.map (SumStep.act w sum)) c := by
      unfold Chip.deliver
      dsimp only
      rw [x.takes_eq w sum fun h => survey (by simp [h]), List.flatMap_singleton,
        y.takes_eq w sum fun h => survey (by simp [h])]
      rfl
    obtain ⟨ks, n, made, eq⟩ := Chip.together_interleaves (SumStep.act w sum) (fun k c d => k.act_blind w sum c d) 3 x.steps
      y.steps c
    have ne : x ≠ y := by simpa using nodup
    refine ⟨ks, n, deliver.trans eq, by simpa using made.perm, ?_,
      made.pairwise x.steps_goesOnLast y.steps_goesOnLast (x.goesOnLast_of_ne y ne), by simp⟩
    intro z hz
    rcases List.mem_pair.mp hz with rfl | rfl
    · exact made.left_sublist
    · exact made.right_sublist

/-- The delivery of a sum to one requester or to two: the appends of each in its own order, and the ending's next step. -/
theorem Chip.deliver_asks (c : Chip) (w : Win) (sum : DWord) (clients : List SumClient) (survey : .survey ∉ clients)
    (nodup : clients.Nodup) (count : clients.length = 1 ∨ clients.length = 2) :
    ∃ engine step n, c.deliver w sum clients = { c with engine := engine, grant.step := step, draws := n }
      ∧ (clients.length = 1 → n = c.draws)
      ∧ ∀ left : List Win, (.closing ∈ clients → c.grant.step = .closing (w :: left) true) →
        (.commit ∈ clients → c.engine.commit ≠ none) → (.rebase ∈ clients → c.scanner.rebase ≠ none) →
        (∃ made : List AppendRequest,
          made.Perm (clients.flatMap fun x => x.steps.flatMap (SumStep.asks w sum left c.grant.record))
          ∧ (∀ x ∈ clients, (x.steps.flatMap (SumStep.asks w sum left c.grant.record)).Sublist made)
          ∧ engine = made.foldl RecordEngine.asked c.engine)
        ∧ step = if .closing ∈ clients then (if left = [] then .grantEnd else .closing left false) else c.grant.step := by
  obtain ⟨ks, n, deliver, perm, sublist, last, draws⟩ := c.deliver_steps w sum clients survey nodup count
  obtain ⟨made, step, asking⟩ := Chip.inOrder_asking ks w sum { c with draws := n }
  refine ⟨made.foldl RecordEngine.asked c.engine, step, n, deliver.trans asking, draws, fun left closing commit rebase => ?_⟩
  have whose (k : SumStep) : k ∈ ks ↔ ∃ x ∈ clients, k ∈ x.steps := by rw [perm.mem_iff, List.mem_flatMap]
  have ready : ∀ k ∈ ks, k.ready w left { c with draws := n } := fun k hk => by
    obtain ⟨x, hx, hk⟩ := (whose k).mp hk
    cases x with
    | commit => rw [List.mem_singleton.mp hk]; exact commit hx
    | rebase => rw [List.mem_singleton.mp hk]; exact rebase hx
    | closing => rcases List.mem_pair.mp hk with rfl | rfl <;> exact closing hx
    | survey => exact absurd hx survey
  have goesOn : .closingGoesOn ∈ ks ↔ .closing ∈ clients := by
    refine (whose .closingGoesOn).trans ⟨fun ⟨x, hx, hk⟩ => ?_, fun h => ⟨.closing, h, by simp [SumClient.steps]⟩⟩
    cases x with
    | closing => exact hx
    | commit => simp [SumClient.steps] at hk
    | rebase => simp [SumClient.steps] at hk
    | survey => simp [SumClient.steps] at hk
  have steps := asking.symm.trans (Chip.inOrder_steps ks w sum left _ ready last)
  refine ⟨⟨_, ?_, ?_, congrArg Chip.engine steps⟩, ?_⟩
  · rw [← List.flatMap_assoc]
    exact perm.flatMap_right _
  · exact fun x hx => List.Sublist.flatMap (sublist x hx) _
  · refine (congrArg (fun d : Chip => d.grant.step) steps).trans ?_
    by_cases h : .closing ∈ clients
    · rw [if_pos h]
      exact SumStep.foldl_after_of_mem ks left _ (goesOn.mpr h)
    · rw [if_neg h]
      exact SumStep.foldl_after_of_not_mem ks left _ (mt goesOn.mp h)

/-- The appends that each requester but the survey asks for (R78, R79, R150, R173). -/
def SumClient.asks (w : Win) (sum : DWord) (left : List Win) (g : GrantRecord) : SumClient → List AppendRequest
  | .commit => [⟨.windowSum w .commit sum, .commit, true, 0⟩]
  | .rebase => [⟨.windowSum w .rebase sum, .scanner, false, 0⟩]
  | .closing => ⟨.windowSum w .reflash sum, .grant, false, 0⟩ ::
      (if left = [] then [⟨g.endAppend, .grant, false, 0⟩] else [])
  | .survey => []

theorem SumClient.steps_asks (x : SumClient) (w : Win) (sum : DWord) (left : List Win) (g : GrantRecord) :
    x.steps.flatMap (SumStep.asks w sum left g) = x.asks w sum left g := by
  cases x <;> simp [SumClient.steps, SumStep.asks, SumClient.asks]

/-! ## The sum request queue (R78, R169) -/

/-- A request merges into the one that waits for its window, and else stands at the end. -/
theorem mergeSum_joins (w : Win) (client : SumClient) (queue : List SumRequest) :
    sumJoins w client queue (mergeSum w client queue) := by
  constructor
  · intro other
    induction queue with
    | nil => rfl
    | cons r rest ih =>
      unfold mergeSum
      rw [if_neg (other r List.mem_cons_self), ih fun x hx => other x (List.mem_cons_of_mem r hx)]
      rfl
  · rintro early late clients rfl other
    induction early with
    | nil =>
      unfold mergeSum
      exact if_pos rfl
    | cons r early ih =>
      rw [List.cons_append, mergeSum, if_neg (other r List.mem_cons_self), ih fun x hx => other x (List.mem_cons_of_mem r hx)]
      rfl

theorem Chip.askClosingSum_of_free (c : Chip) (w : Win) (rest : List Win) (step : c.grant.step = .closing (w :: rest) false)
    (free : c.bus.port.passWriteTo w = false) :
    c.askClosingSum = { c with
      grant := { c.grant with step := .closing (w :: rest) true }
      scanner := { c.scanner with queue := mergeSum w .closing c.scanner.queue } } := by
  unfold Chip.askClosingSum
  rw [step]
  dsimp only
  rw [if_neg (by simp [free])]
  rfl

theorem Chip.askClosingSum_of_write (c : Chip) (w : Win) (rest : List Win)
    (step : c.grant.step = .closing (w :: rest) false) (write : c.bus.port.passWriteTo w = true) : c.askClosingSum = c := by
  unfold Chip.askClosingSum
  rw [step]
  exact if_pos write

/-- The scanner is between two windows while no pass runs, or its pass is between two. -/
theorem Chip.betweenWindows_iff (c : Chip) : c.betweenWindows = true ↔
    (c.scanner.pass = none ∨ ∃ left, c.scanner.pass = some ⟨left, .between⟩) := by
  unfold Chip.betweenWindows
  cases h : c.scanner.pass with
  | none => simp
  | some run =>
    obtain ⟨left, phase⟩ := run
    simp

/-- Between two windows the oldest request is taken (R170). -/
theorem Chip.serveSum_of_between (c : Chip) (q : SumRequest) (rest : List SumRequest) (queue : c.scanner.queue = q :: rest)
    (sum : c.scanner.sum = none) (between : c.betweenWindows = true) :
    c.serveSum = match c.map.ownedAt q.window 0 with
      | some i => ({ c with scanner.queue := rest } : Chip).startSum q.window i (.request q.clients)
      | none => ({ c with scanner.queue := rest } : Chip).deliver q.window 0x00000001#32 q.clients := by
  unfold Chip.serveSum
  rw [if_neg (by simp [sum, between]), queue]
  rfl

/-- While a window is judged, or a sum is in progress, none is taken (R160, R170). -/
theorem Chip.serveSum_of_busy (c : Chip)
    (h : c.scanner.sum ≠ none ∨ ∃ left phase, c.scanner.pass = some ⟨left, phase⟩ ∧ phase ≠ .between) : c.serveSum = c := by
  refine if_pos (h.imp Option.isSome_iff_ne_none.mpr ?_)
  rintro ⟨left, phase, pass, judged⟩
  have notBetween : ¬ c.betweenWindows = true := by
    rw [Chip.betweenWindows_iff, pass]
    rintro (none | ⟨l, same⟩)
    · cases none
    · cases same
      exact judged rfl
  simpa using notBetween

/-- A supplied part's command that leaves the parameters and the dormancy delay alone, with the arbitration that ends it. -/
theorem exec_of_params (i : Instr) (f : Chip → Chip) (s : State) (d : Chip) (hi : i.operation = some f)
    (hs : s.supplied = true) (hd : f s.chip = d) (params : d.params = s.chip.params) (up : d.staysUp) :
    exec i s = .next { s with chip := { d with bus := s.chip.busAfter d.bus } } := by
  rw [exec_of_operation i f s hi, State.onPin_of_supplied _ f s hs, hd, Chip.finish_eq s.chip d params (.inl up)]

/-- The memory's ready with a transfer in flight, for what its requester makes of the part. -/
theorem exec_of_transferDone (s : State) (who : Requester) (tr : Transfer) (live : Bool) (d : Chip) (hs : s.supplied = true)
    (port : s.chip.bus.memPort = .busy who tr live)
    (hd : s.chip.transferDone who live (s.memory.complete tr none).2 = d) (params : d.params = s.chip.params)
    (up : d.staysUp) :
    exec (.memoryTransferComplete none) s = .next { s with
      memory := (s.memory.complete tr none).1, chip := { d with bus := s.chip.busAfter d.bus } } := by
  refine congrArg Host.Outcome.next ((s.transferComplete_of_busy none who tr live hs port).trans ?_)
  rw [hd, Chip.finish_eq s.chip d params (.inl up)]

/-- Settles O44: the ending's request, its service by the scanner, and the delivery at the sum's last word. -/
theorem sumRequestsAreAskedAndServed : Obligations.SumRequestsAreAskedAndServed := by
  unfold Obligations.SumRequestsAreAskedAndServed
  intro delivered
  have handed (c d t : Chip) (w : Win) (sum : DWord) (clients : List SumClient) (survey : .survey ∉ clients)
      (nodup : clients.Nodup) (count : clients.length = 1 ∨ clients.length = 2) (engine : d.engine = c.engine)
      (grant : d.grant = c.grant) (rebase : d.scanner.rebase = c.scanner.rebase) (draws : d.draws = c.draws)
      (tengine : t.engine = (d.deliver w sum clients).engine) (tgrant : t.grant = (d.deliver w sum clients).grant)
      (tdraws : t.draws = (d.deliver w sum clients).draws) : delivered c t w sum clients := by
    intro left closing commit hrebase
    obtain ⟨e, step, n, deliver, alone, made⟩ := d.deliver_asks w sum clients survey nodup count
    obtain ⟨⟨made, perm, sublist, asked⟩, next⟩ := made left (grant ▸ closing) (engine ▸ commit) (rebase ▸ hrebase)
    have each (x : SumClient) : x.steps.flatMap (SumStep.asks w sum left d.grant.record)
        = x.asks w sum left c.grant.record := by rw [grant, x.steps_asks]
    simp only [each] at perm sublist
    refine ⟨⟨made, perm, sublist, ?_⟩, ?_, fun one => ?_⟩
    · rw [tengine, deliver, asked, engine]
    · rw [tgrant, deliver, next, grant]
      split <;> rfl
    · rw [tdraws, deliver, alone one, draws]
  refine ⟨fun s w rest hs step => ⟨fun free => ?_, fun write => ?_⟩,
    fun s q rest hs queue => ⟨fun sum between => ⟨fun i first => ?_, fun none survey nodup count => ?_⟩, fun busy => ?_⟩, ?_⟩
  · obtain ⟨t, he, frame, ht⟩ := exec_of_frame .closingSumRequest _ s _ [.grant, .scanner] rfl hs
      (s.chip.askClosingSum_of_free w rest step free) ((Chip.changesOnly_iff _ _ _).mpr (by simp)) (by simp) (by simp)
    exact ⟨t, he, frame, by rw [ht], by rw [ht], by rw [ht]; exact mergeSum_joins w .closing s.chip.scanner.queue⟩
  · exact exec_of_unchanged .closingSumRequest _ s rfl hs (s.chip.askClosingSum_of_write w rest step write)
  · have served := s.chip.serveSum_of_between q rest queue sum ((s.chip.betweenWindows_iff).mpr between)
    rw [first] at served
    refine ⟨_, exec_of_params .sumRequestService _ s _ rfl hs.1 served rfl hs.2.2, State.changesOnly_of_chip _ s _
      ((Chip.changesOnly_iff _ _ _).mpr (by simp [Chip.startSum])), rfl, rfl⟩
  · have served := s.chip.serveSum_of_between q rest queue sum ((s.chip.betweenWindows_iff).mpr between)
    rw [none] at served
    let d : Chip := { s.chip with scanner.queue := rest }
    obtain ⟨engine, step, n, deliver, -, -⟩ := d.deliver_asks q.window 0x00000001#32 q.clients survey nodup count
    obtain ⟨t, he, frame, ht⟩ := exec_of_frame .sumRequestService _ s _ [.scanner, .engine, .grant, .draws] rfl hs
      (served.trans deliver) ((Chip.changesOnly_iff _ _ _).mpr (by simp [d])) (by simp) (by simp)
    refine ⟨t, he, frame, by rw [ht], handed s.chip d t.chip _ _ _ survey nodup count rfl rfl rfl rfl ?_ ?_ ?_⟩
    · rw [ht, deliver]
    · rw [ht, deliver]
    · rw [ht, deliver]
  · exact exec_of_unchanged .sumRequestService _ s rfl hs (s.chip.serveSum_of_busy busy)
  · intro s tr r clients sum hs up read port requestS running purpose last survey nodup count hsum
    let d : Chip := { s.chip with scanner.sum := none }
    obtain ⟨engine, step, n, deliver, -, -⟩ := d.deliver_asks r.window sum clients survey nodup count
    have memory : s.memory.complete tr none = (s.memory, s.memory.readWord tr.address) := by
      unfold Memory.complete
      rw [read]
    have done : s.chip.sumRead (s.memory.readWord tr.address) = d.deliver r.window sum clients := by
      unfold Chip.sumRead
      rw [running]
      dsimp only
      rw [last]
      unfold Chip.sumComplete SumRun.total SumRun.add
      dsimp only
      rw [purpose, hsum]
    have ended : s.chip.transferDone .S true (s.memory.complete tr none).2
        = { d with engine := engine, grant.step := step, draws := n, bus := { s.chip.bus with memPort := .free } } := by
      unfold Chip.transferDone Chip.requesterDone
      dsimp only
      rw [memory, done, deliver]
      unfold Chip.endTransfer Chip.endInternal BusPath.request
      dsimp only
      rw [requestS]
    have he := exec_of_transferDone s .S tr true _ hs port ended rfl up
    rw [memory] at he
    refine ⟨_, he, State.changesOnly_of_chip _ s _ ((Chip.changesOnly_iff _ _ _).mpr (by simp [d])), rfl, rfl,
      handed s.chip d _ _ _ _ survey nodup count rfl rfl rfl rfl ?_ ?_ ?_⟩
    · rw [deliver]
    · rw [deliver]
    · rw [deliver]

end Sys2Proof.Machine
end

section
/-! A second tick: its timers, and what they bring to their end (R70, R71, R82, R166). -/

namespace Sys2Proof.Machine

/-! ## What the scanner does beside the grant -/

/-- The part with this scanner, link, request of S and count of free values: what a periodic expiry can change, and what a
grant's end and a strike decay neither change nor look at. -/
def Chip.scanning (c : Chip) (x : Scanner) (l : Link) (q : Option Transfer) (n : Nat) : Chip :=
  { c with scanner := x, link := l, draws := n, bus := { c.bus with requestS := q } }

/-- What the close of the pages does to the processor port follows from that port alone (R10). -/
theorem Chip.closePages_port_congr (c d : Chip) (h : c.bus.port = d.bus.port) :
    c.closePages.bus.port = d.closePages.bus.port := by
  by_cases held : ∃ y, d.bus.port = .held y .pageLoading
  · obtain ⟨y, hy⟩ := held
    have dropped (e : Chip) (he : e.bus.port = .held y .pageLoading) :
        e.closePages.bus.port = .done y (match y.direction with | .read => some 0#16 | .write => none) := by
      have port : (({ e with
          overlay.pages := Vector.ofFn fun p : PageNo => e.overlay.pages[p].close
          overlay.queue := [] } : Chip).giveUp .L).bus.port = .held y .pageLoading := he
      unfold Chip.closePages Chip.dropHeld
      rw [port]
      rfl
    rw [dropped c (h.trans hy), dropped d hy]
  · have notHeld : ∀ y, d.bus.port ≠ .held y .pageLoading := fun y hy => held ⟨y, hy⟩
    rw [c.closePages_port_of_not_held (h ▸ notHeld), d.closePages_port_of_not_held notHeld, h]

section

variable (c : Chip) (x : Scanner) (l : Link) (q : Option Transfer) (n : Nat)

theorem Chip.closePages_scanning : (c.scanning x l q n).closePages = c.closePages.scanning x l q n := by
  rw [Chip.closePages_eq, c.closePages_eq, (c.scanning x l q n).closePages_port_congr c rfl]
  rfl

theorem Chip.beginEnding_scanning (reason : EndReason) :
    (c.scanning x l q n).beginEnding reason = (c.beginEnding reason).scanning x l q n := by
  cases h : c.engine.commit with
  | none =>
    rw [(c.scanning x l q n).beginEnding_of_no_commit reason h, c.beginEnding_of_no_commit reason h,
      c.closePages_scanning]
    rfl
  | some run =>
    have hc : c.commitInFlight = true := by simp [Chip.commitInFlight, h]
    rw [(c.scanning x l q n).beginEnding_of_commit reason hc, c.beginEnding_of_commit reason hc]
    rfl

theorem Chip.applyExpiry_scanning : (c.scanning x l q n).applyExpiry = c.applyExpiry.scanning x l q n := by
  unfold Chip.applyExpiry
  have same : (c.scanning x l q n).grant = c.grant := rfl
  rw [same]
  split
  · exact c.beginEnding_scanning x l q n _
  · rfl

theorem Chip.applyDecay_scanning : (c.scanning x l q n).applyDecay = c.applyDecay.scanning x l q n := by
  have same : (c.scanning x l q n).decayDue = c.decayDue := rfl
  by_cases due : c.decayDue = true
  · rw [c.applyDecay_eq due, (c.scanning x l q n).applyDecay_eq (same.trans due)]
    rfl
  · unfold Chip.applyDecay
    rw [same, if_neg due, if_neg due]

theorem Chip.grantTick_scanning : (c.scanning x l q n).grantTick = c.grantTick.scanning x l q n := by
  unfold Chip.grantTick
  rw [Chip.applyExpiry_scanning, Chip.applyDecay_scanning]

end

/-- The part `d` is `c` but for its grant, its overlay, its append queue, the loader's side of the Bus Path and the free
values; a window that `c` does not skip it does not skip either (R163). -/
structure Chip.Alongside (c d : Chip) : Prop where
  scanner : d.scanner = c.scanner
  link : d.link = c.link
  map : d.map = c.map
  params : d.params = c.params
  supply : d.supply = c.supply
  requestS : d.bus.requestS = c.bus.requestS
  skips : ∀ w, c.skips w = false → d.skips w = false

namespace Chip.Alongside

theorem refl (c : Chip) : c.Alongside c := ⟨rfl, rfl, rfl, rfl, rfl, rfl, fun _ h => h⟩

theorem drawn (c : Chip) : c.Alongside c.drawn := ⟨rfl, rfl, rfl, rfl, rfl, rfl, fun _ h => h⟩

theorem trans {c d e : Chip} (h : c.Alongside d) (h' : d.Alongside e) : c.Alongside e :=
  ⟨h'.scanner.trans h.scanner, h'.link.trans h.link, h'.map.trans h.map, h'.params.trans h.params,
    h'.supply.trans h.supply, h'.requestS.trans h.requestS, fun w hw => h'.skips w (h.skips w hw)⟩

/-- A grant's end takes no window into the skip condition: its record keeps the rewritten windows, and a page only closes. -/
theorem beginEnding (c : Chip) (reason : EndReason) : c.Alongside (c.beginEnding reason) := by
  have kept := (Chip.changesOnly_iff _ _ _).mp (c.beginEnding_frame reason)
  simp only [List.mem_cons, reduceCtorEq, List.not_mem_nil, or_false, false_or, true_or, or_true, true_and] at kept
  obtain ⟨-, map, params, -, -, scanner, supply, link, -⟩ := kept
  obtain ⟨grant, ⟨overlayC, overlayN⟩, -, busC, busN⟩ := c.beginEnding_endedBy reason
  refine ⟨scanner, link, map, params, supply, ?_, fun w hw => ?_⟩
  · by_cases hc : c.engine.commit = none
    · rw [(busN hc).1]
    · rw [busC hc]
  · unfold Chip.skips at hw ⊢
    rw [map, grant]
    obtain ⟨rewritten, page⟩ := Bool.or_eq_false_iff.mp hw
    refine Bool.or_eq_false_iff.mpr ⟨rewritten, ?_⟩
    split
    · rfl
    · next p hp =>
      rw [hp] at page
      have notCommitting : c.overlay.pages[p].state ≠ .committing := by simpa using page
      have after : (c.beginEnding reason).overlay.pages[p].state ≠ .committing := by
        by_cases hc : c.engine.commit = none
        · rw [(overlayN hc).2 p]
          split
          · exact notCommitting
          · simp
        · rwa [overlayC hc]
      simpa using after

theorem applyDecay (c : Chip) : c.Alongside c.applyDecay := by
  by_cases due : c.decayDue = true
  · rw [c.applyDecay_eq due]
    exact ⟨rfl, rfl, rfl, rfl, rfl, rfl, fun _ h => h⟩
  · rw [show c.applyDecay = c from if_neg due]
    exact refl c

theorem grantTick (c : Chip) : c.Alongside c.grantTick := by
  refine trans ?_ (applyDecay c.applyExpiry)
  unfold Chip.applyExpiry
  split
  · exact beginEnding c _
  · exact refl c

end Chip.Alongside

/-- Where the periodic expiry leaves every part alongside the ticked one with the same scanner, link and request of S, the
tick leaves those, with what it brings about in the grant, in whichever order the two are made (R136). -/
theorem Chip.secondTick_eq (c : Chip) (x : Scanner) (l : Link) (q : Option Transfer) (awake : c.supply.power ≠ .dormant)
    (expires : ∀ d, c.tickTimers.Alongside d → d.periodicExpiry = d.scanning x l q d.draws) :
    ∃ n, c.secondTick = c.tickTimers.grantTick.scanning x l q n ∧ (c.tickTimers.bothDue = false → n = c.draws) := by
  have later := expires _ (.drawn c.tickTimers)
  have sooner := expires _ ((Chip.Alongside.drawn c.tickTimers).trans (.grantTick c.tickTimers.drawn))
  let ticked := c.tickTimers
  have same (n : Nat) : (ticked.scanning ticked.scanner ticked.link ticked.bus.requestS n).grantTick
      = ticked.grantTick.scanning ticked.scanner ticked.link ticked.bus.requestS n :=
    ticked.grantTick_scanning _ _ _ n
  have drawn : ticked.drawn.grantTick
      = ticked.grantTick.scanning ticked.scanner ticked.link ticked.bus.requestS (ticked.draws + 1) := same (ticked.draws + 1)
  have other := congrArg (fun d : Chip => d.scanning x l q (ticked.draws + 1)) drawn
  have undrawn : ticked.grantTick
      = ticked.grantTick.scanning ticked.scanner ticked.link ticked.bus.requestS ticked.draws := same ticked.draws
  unfold Chip.secondTick
  rw [if_neg awake]
  cases both : c.tickTimers.bothDue with
  | false =>
    refine ⟨ticked.grantTick.draws, ?_, fun _ => (congrArg Chip.draws undrawn).trans rfl⟩
    simp [both, expires _ (.grantTick c.tickTimers), ticked]
  | true =>
    refine ⟨ticked.draws + 1, ?_, nofun⟩
    simp only [both, if_true, Chip.together, Chip.inOrder, List.foldl_cons, List.foldl_nil, List.append_nil,
      List.nil_append]
    split
    · rw [later]
      exact (ticked.drawn.grantTick_scanning x l q _).trans (other.trans rfl)
    · have draws : ticked.drawn.grantTick.draws = ticked.draws + 1 := (congrArg Chip.draws drawn).trans rfl
      rw [sooner, draws]
      exact other.trans rfl

/-! ## What a tick brings about in the grant (R71, R82) -/

/-- A strike decay, due or not (R82, R84). -/
theorem Chip.applyDecay_parts (c : Chip) : c.applyDecay = { c with
    grant := { c.grant with
      strikes := if c.decayDue then c.grant.strikes - 1 else c.grant.strikes
      decay := if c.decayDue then 0 else c.grant.decay }
    engine :=
      if c.decayDue ∧ c.grant.strikes = c.params.lockoutThreshold then
        c.engine.asked ⟨.lockoutEnd (c.grant.strikes - 1) c.params.lockoutThreshold, .grant, false, 0⟩
      else c.engine } := by
  by_cases due : c.decayDue = true
  · rw [c.applyDecay_eq due]
    simp [due]
  · rw [show c.applyDecay = c from if_neg due]
    simp [due]

theorem GrantController.inForce_of_dueEnd (g : GrantController) (r : EndReason) (h : g.dueEnd = some r) :
    g.state = .active ∨ g.state = .suspended := by
  refine (GrantState.inForce_iff _).mp ?_
  by_contra hf
  exact nomatch h.symm.trans (if_neg hf)

/-- Without a timer at 0 a tick brings about a decay at most. -/
theorem Chip.grantTick_of_none (c : Chip) (h : c.grant.dueEnd = none) : c.grantTick = c.applyDecay := by
  unfold Chip.grantTick Chip.applyExpiry
  rw [h]

/-- With one the grant ends, and a decay from below the threshold asks for nothing (R83). -/
theorem Chip.grantTick_of_some (c : Chip) (r : EndReason) (h : c.grant.dueEnd = some r)
    (below : c.grant.strikes < c.params.lockoutThreshold) :
    c.grantTick = { c.beginEnding r with grant := { c.grantEnded r with
      strikes := if c.decayDue then c.grant.strikes - 1 else c.grant.strikes
      decay := if c.decayDue then 0 else c.grant.decay } } := by
  have grant := (c.beginEnding_endedBy r).1
  have params : (c.beginEnding r).params = c.params := (Chip.Alongside.beginEnding c r).params
  have due : (c.beginEnding r).decayDue = c.decayDue := by
    unfold Chip.decayDue
    rw [grant, params]
    rfl
  have strikes : (c.beginEnding r).grant.strikes = c.grant.strikes := by rw [grant]; rfl
  unfold Chip.grantTick Chip.applyExpiry
  rw [h]
  dsimp only
  have quiet : ¬ (c.decayDue = true ∧ c.grant.strikes = c.params.lockoutThreshold) :=
    fun hd => absurd hd.2 (Nat.ne_of_lt below)
  rw [Chip.applyDecay_parts, due, strikes, params, if_neg quiet, grant]
  rfl

/-- Where the loader has nothing to give up, or a commit is waited for, a tick leaves the Bus Path alone. -/
theorem Chip.grantTick_bus_of_idle (c : Chip)
    (below : c.grant.state = .active ∨ c.grant.state = .suspended → c.grant.strikes < c.params.lockoutThreshold)
    (idle : c.grant.dueEnd = none ∨ c.engine.commit ≠ none
      ∨ (c.bus.requestL = none ∧ (∀ tr live, c.bus.memPort ≠ .busy .L tr live)
          ∧ ∀ y, c.bus.port ≠ .held y .pageLoading)) : c.grantTick.bus = c.bus := by
  cases hr : c.grant.dueEnd with
  | none => rw [c.grantTick_of_none hr, Chip.applyDecay_parts]
  | some r =>
    rw [c.grantTick_of_some r hr (below (c.grant.inForce_of_dueEnd r hr))]
    rcases idle with none | commit | ⟨requestL, memPort, port⟩
    · exact nomatch hr.symm.trans none
    · exact (c.beginEnding_endedBy r).2.2.2.1 commit
    · exact c.beginEnding_bus_of_idle r requestL memPort port

/-- A tick changes no more of the part than a grant's end and a decay do. -/
theorem Chip.grantTick_frame (c : Chip) : c.changesOnly [.grant, .overlay, .engine, .bus] c.grantTick := by
  have expiry : c.changesOnly [.grant, .overlay, .engine, .bus] c.applyExpiry := by
    unfold Chip.applyExpiry
    split
    · exact c.beginEnding_frame _
    · exact (Chip.changesOnly_iff _ _ _).mpr (by simp)
  have kept := (Chip.changesOnly_iff _ _ _).mp expiry
  refine (Chip.changesOnly_iff _ _ _).mpr ?_
  unfold Chip.grantTick
  rw [Chip.applyDecay_parts]
  simpa using kept

/-! ## What the arbitration at the end leaves -/

/-- An arbitration leaves a DONE processor port as it is. -/
theorem Chip.busAfter_port_of_done (c : Chip) (b : BusPath) (y : CycleRecord) (data : Option Word)
    (h : b.port = .done y data) : (c.busAfter b).port = .done y data := by
  unfold Chip.busAfter
  rcases ({ c with bus := b } : Chip).arbitrate_cases with same | ⟨who, t, -, ht, granted⟩
  · rw [same]
    exact h
  · rw [granted]
    by_cases hw : who = .P
    · subst hw
      unfold BusPath.grantTo
      rw [ht]
      dsimp only
      rw [h]
      rfl
    · exact ((b.grantTo_internal who hw).1).trans h

/-- After an arbitration a request of S still waits or has the memory port. -/
theorem Chip.busAfter_requestS (c : Chip) (b : BusPath) (x : Transfer) (h : b.requestS = some x) :
    (c.busAfter b).requestS = some x ∨ (c.busAfter b).memPort = .busy .S x true := by
  unfold Chip.busAfter
  rcases ({ c with bus := b } : Chip).arbitrate_cases with same | ⟨who, t, -, ht, granted⟩
  · rw [same]
    exact .inl h
  · rw [granted]
    unfold BusPath.grantTo
    rw [ht]
    cases who with
    | S => 
      have same : some x = some t := h.symm.trans ht
      cases same
      exact .inr rfl
    | P => exact .inl h
    | R => exact .inl h
    | L => exact .inl h

theorem Chip.Alongside.scanDue {c d : Chip} (h : c.Alongside d) : d.scanDue = c.scanDue := by
  unfold Chip.scanDue Chip.timerRuns
  rw [h.scanner, h.params, h.supply]

theorem Chip.periodicExpiry_of_not_due (c : Chip) (h : c.scanDue = false) : c.periodicExpiry = c :=
  if_neg (by simp [h])

/-- While a pass runs, the periodic timer returns to zero and no more (R166). -/
theorem Chip.periodicExpiry_of_running (c : Chip) (h : c.scanDue = true) (running : c.scanner.pass ≠ none) :
    c.periodicExpiry = { c with scanner.timer := 0 } := by
  unfold Chip.periodicExpiry
  rw [if_pos h]
  split
  · next none => exact absurd none running
  · rfl

theorem Chip.periodicExpiry_of_idle (c : Chip) (h : c.scanDue = true) (idle : c.scanner.pass = none) :
    c.periodicExpiry = c.startPass := by
  unfold Chip.periodicExpiry
  rw [if_pos h, idle]

/-- A pass over an empty scan group is complete at once (R165). -/
theorem Chip.startPass_of_empty (c : Chip) (h : c.map.scanGroup = []) (power : c.supply.power = .active) :
    c.startPass = { c with
      scanner := { c.scanner with
        timer := 0, pass := none, passCount := c.scanner.passCount + 1, cycleChecked := true }
      link := { c.link with notices := c.link.notices ||| 0x0004#16 } } := by
  unfold Chip.startPass
  rw [h]
  unfold Chip.passOn Chip.passComplete
  rw [power]
  simp [Chip.notify]
  rfl

/-- A pass starts with the sum of its first window that is neither skipped nor without a word (R160, R162). -/
theorem Chip.startPass_of_first (c : Chip) (w : Win) (ws : List Win) (i : Nat) (h : c.map.scanGroup = w :: ws)
    (queue : c.scanner.queue = []) (sum : c.scanner.sum = none) (skips : c.skips w = false)
    (first : c.map.ownedAt w 0 = some i) :
    c.startPass = { c with
      scanner := { c.scanner with
        timer := 0, pass := some ⟨ws, .summing w⟩, sum := some ⟨w, i, 1#16, 0#16, .pass⟩ }
      bus := { c.bus with requestS := some ⟨c.map.wordOf w i, .read⟩ } } := by
  let e : Chip := { c with scanner.timer := 0, scanner.pass := some ⟨w :: ws, .between⟩ }
  have free : e.sumsWaiting = false := by simp [Chip.sumsWaiting, e, queue, sum]
  have notSkipped : e.skips w = false := skips
  have word : e.map.ownedAt w 0 = some i := first
  have on : Chip.passOn (w :: ws) e = { e with scanner.pass := some ⟨ws, .summing w⟩ }.startSum w i .pass := by
    unfold Chip.passOn
    rw [if_neg (by simp [free]), if_neg (by simp [notSkipped]), word]
  unfold Chip.startPass
  rw [h]
  exact on

theorem State.changesOnly_of_same {s t : State} {b : Block} {blocks : List Block} (h : s.changesOnly (b :: blocks) t)
    (same : s.chip.same t.chip b) : s.changesOnly blocks t := by
  obtain ⟨pending, supplied, fuse, memory, chip⟩ := h
  refine ⟨pending, supplied, fuse, memory, fun b' hb => ?_⟩
  by_cases hb' : b' = b
  · rw [hb']
    exact same
  · exact chip b' (by simp [hb, hb'])

/-! ## The periodic expiry beside the grant's ends -/

namespace Chip.Alongside

variable {c d : Chip}

theorem periodicExpiry_of_not_due (h : c.Alongside d) (due : c.scanDue = false) :
    d.periodicExpiry = d.scanning c.scanner c.link c.bus.requestS d.draws := by
  rw [d.periodicExpiry_of_not_due (h.scanDue.trans due), ← h.scanner, ← h.link, ← h.requestS]
  rfl

theorem periodicExpiry_of_running (h : c.Alongside d) (due : c.scanDue = true) (running : c.scanner.pass ≠ none) :
    d.periodicExpiry = d.scanning { c.scanner with timer := 0 } c.link c.bus.requestS d.draws := by
  rw [d.periodicExpiry_of_running (h.scanDue.trans due) (by rwa [h.scanner]), ← h.scanner, ← h.link, ← h.requestS]
  rfl

theorem periodicExpiry_of_empty (h : c.Alongside d) (due : c.scanDue = true) (pass : c.scanner.pass = none)
    (empty : c.map.scanGroup = []) (power : c.supply.power = .active) :
    d.periodicExpiry = d.scanning
      { c.scanner with timer := 0, pass := none, passCount := c.scanner.passCount + 1, cycleChecked := true }
      { c.link with notices := c.link.notices ||| 0x0004#16 } c.bus.requestS d.draws := by
  rw [d.periodicExpiry_of_idle (h.scanDue.trans due) (by rwa [h.scanner]), d.startPass_of_empty (by rwa [h.map])
    (by rwa [h.supply]), ← h.scanner, ← h.link, ← h.requestS]
  rfl

theorem periodicExpiry_of_first (h : c.Alongside d) (due : c.scanDue = true) (pass : c.scanner.pass = none) (w : Win)
    (ws : List Win) (i : Nat) (group : c.map.scanGroup = w :: ws) (queue : c.scanner.queue = [])
    (sum : c.scanner.sum = none) (skips : c.skips w = false) (first : c.map.ownedAt w 0 = some i) :
    d.periodicExpiry = d.scanning
      { c.scanner with timer := 0, pass := some ⟨ws, .summing w⟩, sum := some ⟨w, i, 1#16, 0#16, .pass⟩ }
      c.link (some ⟨c.map.wordOf w i, .read⟩) d.draws := by
  rw [d.periodicExpiry_of_idle (h.scanDue.trans due) (by rwa [h.scanner]), d.startPass_of_first w ws i (by rwa [h.map])
    (by rwa [h.scanner]) (by rwa [h.scanner]) (h.skips w skips) (by rwa [h.map]), ← h.scanner, ← h.link,
    show c.map = d.map from h.map.symm]
  rfl

end Chip.Alongside

/-- The timers alone take no window into the skip condition (R163). -/
theorem Chip.tickTimers_skips (c : Chip) (w : Win) : c.tickTimers.skips w = c.skips w := by
  have rewritten : c.tickTimers.grant.record.rewritten = c.grant.record.rewritten := by
    unfold Chip.tickTimers
    dsimp only
    split <;> rfl
  unfold Chip.skips
  rw [rewritten]
  rfl

/-! ## The command -/

/-- A second tick, from what the periodic expiry leaves of the scanner, the link and S's request. -/
theorem exec_secondTick (s : State) (x : Scanner) (l : Link) (q : Option Transfer) (hs : s.calm)
    (awake : s.chip.supply.power ≠ .dormant)
    (expires : ∀ d, s.chip.tickTimers.Alongside d → d.periodicExpiry = d.scanning x l q d.draws) :
    ∃ t, exec .secondTick s = .next t
      ∧ s.changesOnly [.link, .draws, .grant, .overlay, .engine, .bus, .scanner] t
      ∧ t.chip.grant = s.chip.tickTimers.grantTick.grant ∧ t.chip.overlay = s.chip.tickTimers.grantTick.overlay
      ∧ t.chip.engine = s.chip.tickTimers.grantTick.engine
      ∧ t.chip.bus = s.chip.busAfter { s.chip.tickTimers.grantTick.bus with requestS := q }
      ∧ t.chip.scanner = x ∧ t.chip.link = l
      ∧ (s.chip.tickTimers.bothDue = false → t.chip.draws = s.chip.draws) := by
  obtain ⟨n, tick, draws⟩ := s.chip.secondTick_eq x l q awake expires
  have kept := (Chip.changesOnly_iff _ _ _).mp s.chip.tickTimers.grantTick_frame
  simp only [List.mem_cons, reduceCtorEq, List.not_mem_nil, or_false, false_or, true_or, or_true, true_and] at kept
  obtain ⟨pins, map, params, monitor, adu, -, supply, -, -⟩ := kept
  have up : (s.chip.tickTimers.grantTick.scanning x l q n).staysUp := by
    unfold Chip.staysUp
    rw [show (s.chip.tickTimers.grantTick.scanning x l q n).supply = s.chip.supply from supply]
    exact hs.2.2
  refine ⟨_, exec_of_params .secondTick _ s _ rfl hs.1 tick params up,
    State.changesOnly_of_chip _ s _ ((Chip.changesOnly_iff _ _ _).mpr ?_), rfl, rfl, rfl, rfl, rfl, rfl, draws⟩
  exact ⟨.inr pins, .inl (by simp), .inr map, .inr params, .inr monitor, .inl (by simp), .inr adu, .inl (by simp),
    .inl (by simp), .inl (by simp), .inr supply, .inl (by simp), .inl (by simp)⟩

/-- Settles O41: the scanner's part of a tick stands beside the grant's, and is told apart by its timer and its scan group. -/
theorem secondTickCounts : Obligations.SecondTickCounts := by
  intro s hs
  refine ⟨fun dormant => exec_of_unchanged .secondTick _ s rfl hs (if_pos dormant), fun awake place below => ?_⟩
  intro active inForce g reason decay decays strikes decay' timer scans blocks granted still drawn
  let ticked := s.chip.tickTimers
  have force : s.chip.grant.state.inForce = true ↔ inForce := GrantState.inForce_iff _
  have runs : s.chip.timerRuns = true ↔ active ∧ s.chip.params.scanPeriod ≠ 0 := by
    simp [Chip.timerRuns, active]
  have grant : ticked.grant = { s.chip.grant with record := g, decay := decay } := by
    have record : (if s.chip.grant.state.inForce then s.chip.grant.record.secondPassed else s.chip.grant.record) = g := by
      simp only [force]
      rfl
    exact congrArg (fun r => ({ s.chip.grant with record := r, decay := decay } : GrantController)) record
  have scanner : ticked.scanner = { s.chip.scanner with timer := timer } := by
    have count : (if s.chip.timerRuns then s.chip.scanner.timer + 1 else s.chip.scanner.timer) = timer := by
      simp only [runs]
      rfl
    exact congrArg (fun n => ({ s.chip.scanner with timer := n } : Scanner)) count
  have due : ticked.grant.dueEnd = reason := by
    unfold GrantController.dueEnd
    rw [grant]
    dsimp only
    simp only [force]
    by_cases hf : inForce
    · rw [if_pos hf]
      exact (if_neg (not_not.mpr hf)).symm
    · rw [if_neg hf]
      exact (if_pos hf).symm
  have decayDue : ticked.decayDue = true ↔ decays := by
    unfold Chip.decayDue
    rw [grant]
    simp only [Bool.and_eq_true, decide_eq_true_eq]
    rfl
  have scanDue : ticked.scanDue = true ↔ scans := by
    unfold Chip.scanDue
    rw [scanner, show ticked.timerRuns = s.chip.timerRuns from rfl]
    simp only [Bool.and_eq_true, decide_eq_true_eq, runs, and_assoc, Nat.mul_comm _ 60]
    rfl
  have below' : ticked.grant.state = .active ∨ ticked.grant.state = .suspended →
      ticked.grant.strikes < ticked.params.lockoutThreshold := below
  have ended_of (r : EndReason) (hr : reason = some r) := ticked.grantTick_of_some r (due.trans hr)
    (below' (ticked.grant.inForce_of_dueEnd r (due.trans hr)))
  have hgranted (t : State) (tgrant : t.chip.grant = ticked.grantTick.grant)
      (toverlay : t.chip.overlay = ticked.grantTick.overlay) (tengine : t.chip.engine = ticked.grantTick.engine)
      (tport : ∀ y data, ticked.grantTick.bus.port = .done y data → t.chip.bus.port = .done y data) : granted t := by
    refine ⟨fun none => ?_, fun r hr => ?_⟩
    · rw [tgrant, toverlay, tengine, ticked.grantTick_of_none (due.trans none), Chip.applyDecay_parts, grant]
      simp only [decayDue]
      refine ⟨rfl, rfl, ?_⟩
      by_cases hd : decays ∧ s.chip.grant.strikes = s.chip.params.lockoutThreshold
      · have lowered : strikes = s.chip.grant.strikes - 1 := if_pos hd.1
        rw [if_pos hd, lowered]
        exact (if_pos hd).trans (RecordEngine.asked_of_place _ _ place)
      · rw [if_neg hd]
        exact if_neg hd
    · obtain ⟨ended, ⟨overlayC, overlayN⟩, engine, -, busN⟩ := ticked.beginEnding_endedBy r
      rw [ended_of r hr] at tgrant toverlay tengine tport
      refine ⟨?_, fun hc => ⟨?_, ?_, fun y hy write => ?_⟩, fun hc => ?_, ?_⟩
      · rw [tgrant]
        simp only [decayDue, Chip.grantEnded, grant]
        rfl
      · rw [toverlay]
        exact (overlayN hc).2
      · rw [toverlay]
        exact (overlayN hc).1
      · exact tport y none ((busN hc).2.2 y hy write)
      · rw [toverlay]
        exact overlayC hc
      · rw [tengine]
        refine engine.trans ?_
        rw [grant]
        by_cases hc : s.chip.engine.commit = none ∧ g.rewritten = 0#24
        · rw [if_pos hc]
          exact (if_pos hc).trans (RecordEngine.asked_of_place _ _ place)
        · rw [if_neg hc]
          exact if_neg hc
  have bus := ticked.grantTick_bus_of_idle below'
  rw [due] at bus
  have outcome (x : Scanner) (l : Link) (q : Option Transfer)
      (expires : ∀ d, ticked.Alongside d → d.periodicExpiry = d.scanning x l q d.draws) :
      ∃ t, exec .secondTick s = .next t ∧ s.changesOnly (.link :: .draws :: blocks) t ∧ granted t
        ∧ still t (s.chip.busAfter { s.chip.bus with requestS := q }) ∧ t.chip.scanner = x ∧ t.chip.link = l
        ∧ (ticked.bothDue = false → t.chip.draws = s.chip.draws)
        ∧ ∀ first, q = some first → t.chip.bus.requestS = q ∨ t.chip.bus.memPort = .busy .S first true := by
    obtain ⟨t, he, frame, tgrant, toverlay, tengine, tbus, tscanner, tlink, draws⟩ :=
      exec_secondTick s x l q hs awake expires
    refine ⟨t, he, frame, hgranted t tgrant toverlay tengine fun y data h => ?_, fun h => ?_, tscanner, tlink, draws, ?_⟩
    · rw [tbus]
      exact s.chip.busAfter_port_of_done _ y data h
    · exact tbus.trans (congrArg (fun b : BusPath => s.chip.busAfter { b with requestS := q }) (bus h))
    · rintro first rfl
      rw [tbus]
      exact s.chip.busAfter_requestS _ first rfl
  have steady : s.chip.busAfter s.chip.bus = s.chip.bus := s.chip.busAfter_of_settled s.chip.bus hs.2.1
  have notBoth (h : reason = none) (h' : ¬ decays) : ticked.bothDue = false := by
    have notDue : ticked.decayDue = false := Bool.eq_false_iff.mpr fun hd => h' (decayDue.mp hd)
    simp [Chip.bothDue, due, h, notDue]
  refine ⟨fun idle => ?_, fun hscans running => ?_, fun hscans pass empty => ?_,
    fun w ws i hscans pass group queue sum skips owned => ?_⟩
  · have notDue : ticked.scanDue = false := Bool.eq_false_iff.mpr fun hd => idle (scanDue.mp hd)
    obtain ⟨t, he, frame, hg, hst, hscanner, hlink, draws, -⟩ :=
      outcome _ _ _ fun d hd => hd.periodicExpiry_of_not_due notDue
    exact ⟨t, he, State.changesOnly_of_same (State.changesOnly_of_same frame hlink)
      (draws (by simp [Chip.bothDue, notDue])), hg, steady ▸ hst, hscanner.trans scanner⟩
  · obtain ⟨t, he, frame, hg, hst, hscanner, hlink, draws, -⟩ :=
      outcome _ _ _ fun d hd => hd.periodicExpiry_of_running (scanDue.mpr hscans) running
    exact ⟨t, he, State.changesOnly_of_same frame hlink, hg, steady ▸ hst, fun h h' => draws (notBoth h h'),
      hscanner.trans rfl⟩
  · obtain ⟨t, he, frame, hg, hst, hscanner, hlink, draws, -⟩ :=
      outcome _ _ _ fun d hd => hd.periodicExpiry_of_empty (scanDue.mpr hscans) pass empty hscans.1
    exact ⟨t, he, frame, hg, steady ▸ hst, fun h h' => draws (notBoth h h'), hscanner.trans
      (congrArg (fun p => ({ s.chip.scanner with
        timer := 0, pass := p, passCount := s.chip.scanner.passCount + 1, cycleChecked := true } : Scanner)) pass.symm), hlink⟩
  · obtain ⟨t, he, frame, hg, hst, hscanner, hlink, draws, hfirst⟩ := outcome _ _ _ fun d hd =>
      hd.periodicExpiry_of_first (scanDue.mpr hscans) pass w ws i group queue sum
        ((s.chip.tickTimers_skips w).trans skips) owned
    exact ⟨t, he, State.changesOnly_of_same frame hlink, hg, hst, fun h h' => draws (notBoth h h'), hfirst _ rfl,
      hscanner.trans rfl⟩

end Sys2Proof.Machine
end

section
/-! The decision on a cycle: the class table of READs and the check order of WRITEs (R89–R101). -/

namespace Sys2Proof.Machine

theorem Chip.decision_read (c : Chip) (y : CycleRecord) (h : y.direction = .read) :
    c.decision y = c.decideRead (c.map.resolve y.address) := by
  unfold Chip.decision
  rw [h]

theorem Chip.decision_write (c : Chip) (y : CycleRecord) (h : y.direction = .write) :
    c.decision y = c.decideWrite (c.map.resolve y.address) := by
  unfold Chip.decision
  rw [h]

/-! ## Reads (R89, R90) -/

theorem GrantController.factoryInForce_iff (g : GrantController) :
    g.factoryInForce = true ↔ (g.state = .active ∨ g.state = .suspended) ∧ g.record.level = some .factory := by
  unfold GrantController.factoryInForce
  rw [Bool.and_eq_true, GrantState.inForce_iff, beq_iff_eq]

/-- A decision on a READ says its service, and HIDDEN for a FILL alone (R89, R91). -/
theorem Chip.decideRead_of_service (c : Chip) (r : Resolution) (s : Service) (h : c.readService r = s) :
    (c.decideRead r).service = s ∧ (c.decideRead r).refusal = if s = .fill then some .hidden else none := by
  subst h
  exact ⟨rfl, rfl⟩

/-- Words of these classes may be read by anybody (R89). -/
theorem Chip.readService_of_open (c : Chip) (r : Resolution)
    (h : r.cls = .site .openWindow ∨ r.cls = .site .calibration ∨ r.cls = .site .identity ∨ r.cls = .record) :
    c.readService r = .pass := by
  unfold Chip.readService
  rcases h with h | h | h | h <;> rw [h]

/-- KEYS words, and IMAGE words outside the reference table, are shown to FACTORY alone (R89). -/
theorem Chip.readService_of_guarded (c : Chip) (r : Resolution)
    (h : r.cls = .site .keys ∨ r.cls = .image ∧ r.refTable = false) :
    c.readService r = if c.grant.factoryInForce then .pass else .fill := by
  unfold Chip.readService
  rcases h with h | ⟨h, href⟩
  · rw [h]
  · simp [h, href]

/-- The reference table is never shown (R89). -/
theorem Chip.readService_of_refTable (c : Chip) (r : Resolution) (h : r.cls = .image) (href : r.refTable = true) :
    c.readService r = .fill := by
  simp [Chip.readService, h, href]

/-- A TRIM word is read from its page where the page has it, else from memory (R90). -/
theorem Chip.readService_of_page (c : Chip) (r : Resolution) (p : PageNo) (h : r.cls = .site .trim)
    (hp : r.page = some p) :
    c.readService r =
      if c.overlay.pages[p].state = .opened ∨ c.overlay.pages[p].state = .committing
          ∨ (c.overlay.pages[p].state = .loading ∧ (c.overlay.pages[p].word r.pageWord).loaded = true)
      then .overlayRead else .pass := by
  simp only [Chip.readService, h, Chip.trimRead, hp]
  cases c.overlay.pages[p].state <;> simp

/-- Settles O26, one class of R89's table after the other. -/
theorem readsFollowTheClassTable : Obligations.ReadsFollowTheClassTable := by
  intro c y dir
  rw [c.decision_read y dir]
  refine ⟨rfl, rfl, rfl, ?_⟩
  intro r factory
  have service := c.decideRead_of_service r
  refine ⟨fun h => service _ (c.readService_of_open r h), fun h => ⟨fun hf => ?_, fun hf => ?_⟩,
    fun h href => service _ (c.readService_of_refTable r h href), fun p h hp => ?_⟩
  · refine service .pass ((c.readService_of_guarded r h).trans (if_pos ?_))
    exact c.grant.factoryInForce_iff.mpr hf
  · refine service .fill ((c.readService_of_guarded r h).trans (if_neg ?_))
    exact mt c.grant.factoryInForce_iff.mp hf
  · have trim := c.readService_of_page r p h hp
    refine ⟨?_, fun hs => ?_, fun hs => ?_⟩
    · split at trim
      · exact (service _ trim).2
      · exact (service _ trim).2
    · exact (service .overlayRead (trim.trans (if_pos hs))).1
    · refine (service .pass (trim.trans (if_neg ?_))).1
      rcases hs with hs | ⟨hs, hl⟩
      · rw [hs]
        simp
      · rw [hs, hl]
        simp

/-! ## Writes (R92–R101) -/

/-- Only a TRIM word of a window has a governing record (R94). -/
theorem Chip.governs_of_not_trim (c : Chip) (r : Resolution) (h : r.cls ≠ .site .trim) : c.governs r = none := by
  unfold Chip.governs
  split
  · exact if_neg h
  all_goals rfl

/-- A limit record governs a word: it is ENABLED for the word's TRIM window and page word (R94, R126). -/
def Chip.enabledFor (c : Chip) (r : Resolution) (j : LimitNo) : Prop :=
  r.cls = .site .trim ∧ (∃ w : Win, r.owner = .window w ∧ c.overlay.limits[j].window = w.val)
    ∧ c.overlay.limits[j].standing = .enabled ∧ c.overlay.limits[j].offset = r.pageWord

/-- Of the records for a word the one with the lowest index governs it (R126). -/
theorem Chip.governs_eq (c : Chip) (r : Resolution) (governing : Option LimitNo)
    (first : ∀ j, governing = some j → c.enabledFor r j ∧ ∀ i, i < j → ¬ c.enabledFor r i)
    (none_ : governing = none → ∀ j, ¬ c.enabledFor r j) : c.governs r = governing := by
  by_cases trim : ∃ w, r.cls = .site .trim ∧ r.owner = .window w
  · obtain ⟨w, cls, owner⟩ := trim
    have names (j : LimitNo) : c.enabledFor r j ↔ (c.overlay.limits[j].standing == .enabled
        && c.overlay.limits[j].window == w.val && c.overlay.limits[j].offset == r.pageWord) = true := by
      simp only [Chip.enabledFor, cls, owner, Bool.and_eq_true, beq_iff_eq]
      constructor
      · rintro ⟨-, ⟨v, hv, window⟩, standing, offset⟩
        cases hv
        exact ⟨⟨standing, window⟩, offset⟩
      · rintro ⟨⟨standing, window⟩, offset⟩
        exact ⟨trivial, ⟨w, rfl, window⟩, standing, offset⟩
    simp only [names] at first none_
    simp only [Chip.governs, owner, cls, if_true, Chip.governing]
    cases governing with
    | none => exact List.find?_eq_none.mpr fun j _ => none_ rfl j
    | some j =>
      obtain ⟨here, before⟩ := first j rfl
      exact find?_of_pairwise (List.pairwise_lt_finRange 32) (List.mem_finRange j) here fun i hi before_ =>
        before i before_ hi
  · have nobody (j : LimitNo) : ¬ c.enabledFor r j := fun ⟨cls, ⟨w, owner, _⟩, _⟩ => trim ⟨w, cls, owner⟩
    have nothing : c.governs r = none := by
      unfold Chip.governs
      split
      · next w owner => exact if_neg fun cls => trim ⟨w, cls, owner⟩
      all_goals rfl
    cases governing with
    | none => exact nothing
    | some j => exact absurd (first j rfl).1 (nobody j)

theorem Level.ne_factory_iff (l : Level) : l ≠ .factory ↔ l = .adjust ∨ l = .reflash := by
  cases l <;> decide

/-- Check 4 of R93. -/
theorem Chip.outOfScope_iff (c : Chip) (r : Resolution) : c.outOfScope r = true ↔
    r.owner = .background ∨ ∃ w, r.owner = .window w ∧ hasWin c.grant.record.scope w = false := by
  unfold Chip.outOfScope
  split <;> next owner => simp [owner]

/-- Check 5 of R93, with R94's. -/
theorem Chip.levelFails_iff (c : Chip) (r : Resolution) (level : Level) : c.levelFails r level = true ↔
    (r.cls = .site .calibration ∧ level = .adjust)
      ∨ ((r.cls = .site .identity ∨ r.cls = .site .keys ∨ r.cls = .image) ∧ (level = .adjust ∨ level = .reflash))
      ∨ ∃ j, c.governs r = some j ∧ level = .adjust ∧ c.overlay.limits[j].required = 2 := by
  have ungoverned := c.governs_of_not_trim r
  unfold Chip.levelFails
  split
  case h_5 cls =>
    cases c.governs r <;> simp [cls]
  all_goals
    next cls => simp [cls, ungoverned (by simp [cls]), Level.ne_factory_iff]

/-- Check 6 of R93, with R94's. -/
theorem Chip.frozenFails_iff (c : Chip) (r : Resolution) (level : Level) : c.frozenFails r level = true ↔
    ∃ j, c.governs r = some j ∧ c.overlay.limits[j].frozen = true ∧ (level = .adjust ∨ level = .reflash) := by
  unfold Chip.frozenFails
  cases c.governs r <;> simp [Level.ne_factory_iff, and_comm]

theorem announcedClass_iff (k : OwnerClass) : announcedClass k = true ↔
    k = .site .calibration ∨ k = .site .identity ∨ k = .site .keys := by
  unfold announcedClass
  split <;> simp

/-- Check 8 of R93 (R97). -/
theorem Chip.noSpaceToAnnounce_iff (c : Chip) (r : Resolution) : c.noSpaceToAnnounce r = true ↔
    announcedClass r.cls = true ∧ ∃ w, r.owner = .window w ∧
      ((hasWin c.grant.record.rewritten w = false ∧ c.freeSlots ≤ 8)
        ∨ (hasWin c.grant.record.rewritten w = true ∧ c.adu.announcements[w] = some .failed)) := by
  unfold Chip.noSpaceToAnnounce Chip.firstReflash Chip.announcement
  change (_ && decide (c.freeSlots ≤ 8) || _) = true ↔ _
  cases owner : r.owner with
  | window w =>
    cases announcedClass r.cls <;> cases hasWin c.grant.record.rewritten w <;> simp
  | image => simp
  | record => simp
  | background => simp

/-- Without a grant in force only the first two checks of R93 are left. -/
theorem Chip.writeRefusal_of_not_inForce (c : Chip) (r : Resolution)
    (h : c.grant.state = .idle ∨ c.grant.state = .opening ∨ c.grant.state = .ending) :
    c.writeRefusal r = some (if r.cls = .record ∨ (r.cls = .image ∧ r.refTable = true) then .cls else .noGrant) := by
  unfold Chip.writeRefusal
  rw [apply_ite some, if_pos h]

theorem Chip.decideWrite_of_openWindow (c : Chip) (r : Resolution) (h : r.cls = .site .openWindow) :
    c.decideWrite r = ⟨.pass, none, none, false, r⟩ := if_pos h

theorem Chip.decideWrite_of_refusal (c : Chip) (r : Resolution) (e : Reason) (h : r.cls ≠ .site .openWindow)
    (he : c.writeRefusal r = some e) : c.decideWrite r = ⟨.drop, some e, none, false, r⟩ := by
  unfold Chip.decideWrite
  rw [if_neg h, he]

theorem Chip.decideWrite_of_served (c : Chip) (r : Resolution) (h : r.cls ≠ .site .openWindow)
    (he : c.writeRefusal r = none) : c.decideWrite r = c.servedWriteDecision r := by
  unfold Chip.decideWrite
  rw [if_neg h, he]

/-- Check 3 of R93 and the ones after it, for a grant with a level. -/
theorem Chip.writeRefusal_of_level (c : Chip) (r : Resolution) (level : Level) (h : c.grant.record.level = some level) :
    c.writeRefusal r =
      if r.cls = .record ∨ (r.cls = .image ∧ r.refTable = true) then some .cls
      else if c.grant.state = .idle ∨ c.grant.state = .opening ∨ c.grant.state = .ending then some .noGrant
      else if c.tamperFlag ∧ (r.cls = .site .calibration ∨ r.cls = .site .trim) ∧ level ≠ .factory then some .tampered
      else if c.outOfScope r then some .scope
      else if c.levelFails r level then some .level
      else if c.frozenFails r level then some .frozen
      else if c.grant.state = .suspended then some .motion
      else if c.noSpaceToAnnounce r then some .space
      else none := by
  unfold Chip.writeRefusal
  rw [h]

/-! ## Writes that no check refuses (R98, R99, R101) -/

theorem Chip.servedWriteDecision_of_trim (c : Chip) (r : Resolution) (h : r.cls = .site .trim) :
    c.servedWriteDecision r
      = ⟨.overlayWrite (c.appliedLimit r), none, if c.pageIsLoading r then some .pageLoading else none, false, r⟩ :=
  if_pos h

theorem Chip.servedWriteDecision_of_not_announced (c : Chip) (r : Resolution) (h : r.cls ≠ .site .trim)
    (ha : announcedClass r.cls = false) : c.servedWriteDecision r = ⟨.pass, none, none, false, r⟩ := by
  have first : c.firstReflash r = false := by
    unfold Chip.firstReflash
    split <;> simp [ha]
  have state : c.announcement r = none := by
    unfold Chip.announcement
    split <;> simp [ha]
  simp [Chip.servedWriteDecision, h, first, state]

/-- A write to a window that is announced, by the window's announcement state (R98, R99). -/
theorem Chip.servedWriteDecision_of_announced (c : Chip) (r : Resolution) (w : Win) (ha : announcedClass r.cls = true)
    (owner : r.owner = .window w) :
    c.servedWriteDecision r =
      if hasWin c.grant.record.rewritten w = false then ⟨.pass, none, some .windowOpening, true, r⟩
      else if c.adu.announcements[w] = some .announcing then ⟨.pass, none, some .windowOpening, false, r⟩
      else ⟨.pass, none, none, false, r⟩ := by
  have notTrim : r.cls ≠ .site .trim := fun h => by simp [h, announcedClass] at ha
  cases rewritten : hasWin c.grant.record.rewritten w <;>
    simp [Chip.servedWriteDecision, notTrim, Chip.firstReflash, Chip.announcement, owner, ha, rewritten]

/-- A TRIM write applies its governing record below FACTORY (R101). -/
theorem Chip.appliedLimit_of_governed (c : Chip) (r : Resolution) (j : LimitNo) (hj : c.governs r = some j)
    (frozen : c.overlay.limits[j].frozen = false) (level : c.grant.record.level ≠ some .factory) :
    c.appliedLimit r = some j := by
  simp [Chip.appliedLimit, hj, level]
  exact frozen

theorem Chip.appliedLimit_of_free (c : Chip) (r : Resolution)
    (h : c.governs r = none ∨ c.grant.record.level = some .factory) : c.appliedLimit r = none := by
  unfold Chip.appliedLimit
  rcases h with h | h
  · rw [h]
    exact ite_self none
  · rw [if_pos h]

theorem Chip.pageIsLoading_of_page (c : Chip) (r : Resolution) (p : PageNo) (h : r.page = some p) :
    c.pageIsLoading r = true ↔ c.overlay.pages[p].state = .loading := by
  unfold Chip.pageIsLoading
  rw [h]
  exact beq_iff_eq

/-- Settles O27: the checks are those of R93 in their order, and a write that none refuses is served by its class. -/
theorem writesFollowTheCheckOrder : Obligations.WritesFollowTheCheckOrder := by
  constructor
  · intro c y dir r
    rw [c.decision_write y dir]
    exact ⟨c.decideWrite_of_openWindow r,
      fun h hs => c.decideWrite_of_refusal r _ h (c.writeRefusal_of_not_inForce r hs)⟩
  · intro c y level governing dir hlevel r governs frozen announced reason first none_
    rw [c.decision_write y dir]
    obtain rfl : c.governs r = governing := c.governs_eq r governing first none_
    have announced_eq : announced = announcedClass r.cls :=
      Bool.eq_iff_iff.mpr (decide_eq_true_iff.trans (announcedClass_iff r.cls).symm)
    have refusal : c.writeRefusal r = reason := by
      rw [c.writeRefusal_of_level r level hlevel]
      simp only [Chip.tamperFlag_iff, Level.ne_factory_iff, Chip.outOfScope_iff, Chip.levelFails_iff,
        Chip.frozenFails_iff, Chip.noSpaceToAnnounce_iff, ← announced_eq]
      rfl
    refine ⟨c.decideWrite_of_openWindow r, fun notOpen => ⟨fun e he => ?_, fun served => ?_⟩⟩
    · exact c.decideWrite_of_refusal r e notOpen (refusal.trans he)
    rw [c.decideWrite_of_served r notOpen (refusal.trans served)]
    refine ⟨fun trim => ?_, fun image => ?_, fun w ha owner => ?_⟩
    · rw [c.servedWriteDecision_of_trim r trim]
      refine ⟨rfl, rfl, rfl, fun j hj thawed below => ?_, fun free => ?_, fun p hp => ?_⟩
      · rw [c.appliedLimit_of_governed r j hj thawed (by rw [hlevel]; rcases below with rfl | rfl <;> simp)]
      · rw [c.appliedLimit_of_free r (free.imp_right (by rintro rfl; exact hlevel))]
      · exact if_congr (c.pageIsLoading_of_page r p hp) rfl rfl
    · exact c.servedWriteDecision_of_not_announced r (by simp [image]) (by rw [image]; rfl)
    · rw [c.servedWriteDecision_of_announced r w (announced_eq ▸ ha) owner]
      refine ⟨fun h => if_pos h, fun h state => ?_, fun h state => ?_⟩
      · rw [if_neg (by simp [h]), if_pos state]
      · rw [if_neg (by simp [h]), if_neg (by rw [state]; simp)]

end Sys2Proof.Machine
end

section
/-! The items that R104 and the ranges of R17, R18, R43 and R51 bound, first part: what leaves them alone. -/

namespace Sys2Proof.Machine

/-! ## The items -/

/-- The refusal list, and the speeds and counts whose ranges `Chip.inRanges` states. -/
structure BoundView where
  refusals : List Refused
  engineSpeed : Nat
  roadSpeed : Nat
  engineWraps : Nat
  roadWraps : Nat
  burst : Nat
  starvation : Nat
  starvationLimit : Nat

/-- What `Chip.refusalsOk` and `Chip.inRanges` read of a part. -/
def Chip.boundView (c : Chip) : BoundView where
  refusals := c.adu.refusals
  engineSpeed := c.monitor.engine.speed
  roadSpeed := c.monitor.road.speed
  engineWraps := c.monitor.engine.wraps
  roadWraps := c.monitor.road.wraps
  burst := c.bus.burst
  starvation := c.bus.starvation
  starvationLimit := c.params.starvationLimit

/-! ## Shared operations -/

@[simp] theorem Chip.requestAppend_boundView (c : Chip) (r : AppendRequest) :
    (c.requestAppend r).boundView = c.boundView := by
  simp [Chip.boundView]

@[simp] theorem Chip.append_boundView (c : Chip) (source : AppendSource) (kind : AppendKind) :
    (c.append source kind).boundView = c.boundView := c.requestAppend_boundView _

@[simp] theorem Chip.appendClaimed_boundView (c : Chip) (kind : AppendKind) :
    (c.appendClaimed kind).boundView = c.boundView := c.requestAppend_boundView _

@[simp] theorem Chip.notify_boundView (c : Chip) (n : Notice) : (c.notify n).boundView = c.boundView := rfl

@[simp] theorem Chip.watchLow_boundView (c : Chip) (before : Nat) : (c.watchLow before).boundView = c.boundView := by
  simp [Chip.boundView]

@[simp] theorem Chip.completePending_boundView (c : Chip) (echo : Byte) (code : ResultCode) :
    (c.completePending echo code).boundView = c.boundView := by
  simp [Chip.boundView]

@[simp] theorem Chip.dropCycle_boundView (c : Chip) : c.dropCycle.boundView = c.boundView := by
  unfold Chip.dropCycle
  split <;> rfl

@[simp] theorem Chip.unpark_boundView (c : Chip) : c.unpark.boundView = c.boundView := by
  unfold Chip.unpark
  split <;> rfl

/-- Changes made together leave the items alone if each of them does. -/
theorem Chip.together_boundView (n : Nat) (fs gs : List (Chip → Chip))
    (h : ∀ f ∈ fs ++ gs, ∀ c : Chip, (f c).boundView = c.boundView) (c : Chip) :
    (Chip.together n fs gs c).boundView = c.boundView :=
  Chip.together_keeps (fun d => d.boundView = c.boundView) (fun _ hd => hd) n fs gs
    (fun f hf d hd => (h f hf d).trans hd) c rfl

/-- A chain of changes leaves the items alone if each of them does. -/
theorem Chip.foldl_boundView {α : Type} (f : Chip → α → Chip) (h : ∀ c x, (f c x).boundView = c.boundView) (xs : List α)
    (c : Chip) : (xs.foldl f c).boundView = c.boundView :=
  Chip.foldl_keeps (fun d => d.boundView = c.boundView) f (fun d x hd => (h d x).trans hd) xs c rfl

/-! ## The overlay (R111–R121) -/

@[simp] theorem Chip.reportServed_boundView (c : Chip) (owner : Owner) :
    (c.reportServed owner).boundView = c.boundView := by
  rw [Chip.reportServed_eq]
  rfl

@[simp] theorem Chip.serveOverlayWrite_boundView (c : Chip) (y : CycleRecord) (limit : Option LimitNo) (r : Resolution) :
    (c.serveOverlayWrite y limit r).boundView = c.boundView := by
  unfold Chip.serveOverlayWrite
  split
  · rfl
  · rw [Chip.reportServed_boundView, Chip.storeOverlay_eq]
    rfl

@[simp] theorem Chip.serveHeld_boundView (c : Chip) (p : PageNo) : (c.serveHeld p).boundView = c.boundView := by
  unfold Chip.serveHeld
  split
  · split
    · split
      · split <;> simp
      · rfl
    · rfl
  · rfl

@[simp] theorem Chip.loadAlong_boundView (ps : List PageNo) (n : Nat) (c : Chip) :
    (Chip.loadAlong ps n c).boundView = c.boundView := by
  induction ps generalizing n c with
  | nil => rfl
  | cons p rest ih =>
    unfold Chip.loadAlong
    split
    · rfl
    · exact (ih 0 _).trans (Chip.serveHeld_boundView _ p)

@[simp] theorem Chip.startLoads_boundView (c : Chip) (ps : List PageNo) : (c.startLoads ps).boundView = c.boundView := by
  have entered := Chip.foldl_boundView (fun c p => c.setPage p c.overlay.pages[p].enterLoading) (fun _ _ => rfl) ps c
  unfold Chip.startLoads
  split
  · exact (Chip.loadAlong_boundView ps 0 _).trans entered
  · exact entered

@[simp] theorem Chip.loaderRead_boundView (c : Chip) (data : Word) : (c.loaderRead data).boundView = c.boundView := by
  unfold Chip.loaderRead
  split
  · rfl
  · exact Chip.loadAlong_boundView _ _ _

@[simp] theorem Chip.setPages_boundView (c : Chip) (ps : List PageNo) (state : PageState) :
    (c.setPages ps state).boundView = c.boundView :=
  Chip.foldl_boundView (fun c p => c.setPage p { c.overlay.pages[p] with state := state }) (fun _ _ => rfl) ps c

/-! ## The Grant Controller (R63–R86) -/

@[simp] theorem Chip.closeWindows_boundView (c : Chip) (left : List Win) :
    (c.closeWindows left).boundView = c.boundView := by
  cases left with
  | nil => exact Chip.append_boundView _ _ _
  | cons w ws => rfl

@[simp] theorem Chip.closeGrant_boundView (c : Chip) : c.closeGrant.boundView = c.boundView := by
  unfold Chip.closeGrant
  rw [Chip.closeWindows_boundView, Chip.closePages_eq]
  rfl

@[simp] theorem Chip.beginEnding_boundView (c : Chip) (reason : EndReason) :
    (c.beginEnding reason).boundView = c.boundView := by
  unfold Chip.beginEnding
  dsimp only
  split
  · rfl
  · exact Chip.closeGrant_boundView _

@[simp] theorem Chip.endCause_boundView (c : Chip) (reason : EndReason) :
    (c.endCause reason).boundView = c.boundView := by
  unfold Chip.endCause
  split
  · exact Chip.beginEnding_boundView c reason
  · exact Chip.beginEnding_boundView c reason
  · split <;> rfl
  all_goals rfl

@[simp] theorem Chip.tamperCause_boundView (c : Chip) : c.tamperCause.boundView = c.boundView := by
  unfold Chip.tamperCause
  split <;> simp

@[simp] theorem Chip.closingSum_boundView (c : Chip) (w : Win) (sum : DWord) :
    (c.closingSum w sum).boundView = c.boundView := by
  unfold Chip.closingSum
  split <;> simp

@[simp] theorem Chip.closingGoesOn_boundView (c : Chip) : c.closingGoesOn.boundView = c.boundView := by
  unfold Chip.closingGoesOn
  split <;> simp

@[simp] theorem Chip.askClosingSum_boundView (c : Chip) : c.askClosingSum.boundView = c.boundView := by
  unfold Chip.askClosingSum
  split
  · split <;> rfl
  · rfl

@[simp] theorem Chip.motionEvent_boundView (c : Chip) (e : MotionEvent) : (c.motionEvent e).boundView = c.boundView := by
  unfold Chip.motionEvent Chip.judgeMotion
  split
  · split
    · exact Chip.beginEnding_boundView _ _
    · split <;> rfl
  · split
    · exact Chip.beginEnding_boundView _ _
    · split <;> rfl
  all_goals rfl

@[simp] theorem Chip.admitGrant_boundView (c : Chip) (f : GrantFields) : (c.admitGrant f).boundView = c.boundView :=
  Chip.append_boundView _ _ _

@[simp] theorem Chip.openingEnds_boundView (c : Chip) (seq : Nat) : (c.openingEnds seq).boundView = c.boundView := by
  unfold Chip.openingEnds
  rw [Chip.completePending_boundView]
  dsimp only
  split
  · exact Chip.beginEnding_boundView _ _
  · split
    · exact Chip.beginEnding_boundView _ _
    · split
      · exact Chip.startLoads_boundView _ _
      · exact Chip.startLoads_boundView _ _

@[simp] theorem Chip.openingWritten_boundView (c : Chip) (seq : Nat) :
    (c.openingWritten seq).boundView = c.boundView := by
  unfold Chip.openingWritten
  split <;> simp

@[simp] theorem Chip.openingFailed_boundView (c : Chip) : c.openingFailed.boundView = c.boundView := by
  unfold Chip.openingFailed
  split
  · exact Chip.completePending_boundView _ _ _
  · rfl

@[simp] theorem Chip.applyExpiry_boundView (c : Chip) : c.applyExpiry.boundView = c.boundView := by
  unfold Chip.applyExpiry
  split <;> simp

@[simp] theorem Chip.strike_boundView (c : Chip) : c.strike.boundView = c.boundView := by
  rw [Chip.strike_eq]
  split
  · unfold Chip.beginLockout
    rw [Chip.notify_boundView, Chip.endCause_boundView, Chip.append_boundView]
    rfl
  · rfl

@[simp] theorem Chip.applyDecay_boundView (c : Chip) : c.applyDecay.boundView = c.boundView := by
  unfold Chip.applyDecay
  split
  · dsimp only
    split
    · exact Chip.append_boundView _ _ _
    · rfl
  · rfl

@[simp] theorem Chip.keepGrant_boundView (c : Chip) : c.keepGrant.1.boundView = c.boundView := by
  unfold Chip.keepGrant
  split <;> rfl

@[simp] theorem Chip.revokeGrant_boundView (c : Chip) : c.revokeGrant.1.boundView = c.boundView := by
  unfold Chip.revokeGrant
  split <;> simp

/-! ## Cycles that are carried out, and holds that end (R4–R13, R98, R99) -/

@[simp] theorem Chip.openWindow_boundView (c : Chip) (w : Win) : (c.openWindow w).boundView = c.boundView :=
  Chip.append_boundView _ _ _

@[simp] theorem Chip.carryOut_boundView (c : Chip) (y : CycleRecord) (d : Decision) :
    (c.carryOut y d).boundView = c.boundView := by
  unfold Chip.carryOut
  split
  case h_5 => exact c.serveOverlayWrite_boundView y _ _
  all_goals rfl

@[simp] theorem Chip.announced_boundView (c : Chip) (w : Win) (written : Bool) :
    (c.announced w written).boundView = c.boundView := by
  have released (d : Chip) : (d.releaseOpening w written).boundView = d.boundView := by
    unfold Chip.releaseOpening
    split
    · split
      · split <;> rfl
      · rfl
    · rfl
  unfold Chip.announced
  rw [released]
  split <;> rfl

/-! ## Commits and DISCARD (R119, R147–R151) -/

@[simp] theorem Chip.claim_boundView (c : Chip) (n : Nat) : (c.claim n).boundView = c.boundView :=
  Chip.watchLow_boundView _ _

@[simp] theorem Chip.takeCommit_boundView (c : Chip) (pages : PageSet) :
    (c.takeCommit pages).1.boundView = c.boundView := by
  unfold Chip.takeCommit Chip.acceptCommit
  split
  · rfl
  · split
    · rfl
    · simp only [Chip.appendClaimed_boundView, Chip.claim_boundView, Chip.setPages_boundView]
      rfl

@[simp] theorem Chip.commitNext_boundView (c : Chip) : c.commitNext.boundView = c.boundView := by
  unfold Chip.commitNext
  split
  · rfl
  · split <;> simp

@[simp] theorem Chip.trimFinished_boundView (c : Chip) (p : PageNo) (written : Bool) :
    (c.trimFinished p written).boundView = c.boundView := by
  unfold Chip.trimFinished
  split
  · rfl
  · dsimp only
    split
    · exact Chip.commitNext_boundView _
    · rfl

@[simp] theorem Chip.commitSum_boundView (c : Chip) (w : Win) (sum : DWord) :
    (c.commitSum w sum).boundView = c.boundView := by
  unfold Chip.commitSum
  split <;> simp

@[simp] theorem Chip.commitFinish_boundView (c : Chip) : c.commitFinish.boundView = c.boundView := by
  unfold Chip.commitFinish Chip.leaveCommitting
  split
  · rfl
  · rw [Chip.notify_boundView]
    split
    · exact Chip.closeGrant_boundView _
    · exact Chip.setPages_boundView _ _ _

@[simp] theorem Chip.takeDiscard_boundView (c : Chip) (pages : PageSet) :
    (c.takeDiscard pages).1.boundView = c.boundView := by
  unfold Chip.takeDiscard
  split <;> simp

/-! ## The scanner (R162–R173) -/

@[simp] theorem Chip.tamperFound_boundView (c : Chip) (w : Win) (found : DWord) :
    (c.tamperFound w found).1.boundView = c.boundView := by
  unfold Chip.tamperFound
  dsimp only
  split
  · rw [Chip.requestAppend_boundView, Chip.tamperCause_boundView]
    rfl
  · rw [Chip.tamperCause_boundView, Chip.requestAppend_boundView]
    rfl

@[simp] theorem Chip.judge_boundView (c : Chip) (w : Win) (found : DWord) :
    (c.judge w found).1.boundView = c.boundView := by
  have differs (result : ScanResult) : (c.judgeDiffers w result found).1.boundView = c.boundView := by
    unfold Chip.judgeDiffers
    dsimp only
    split
    · rfl
    · exact Chip.tamperFound_boundView _ w found
  unfold Chip.judge
  split
  · rfl
  · split
    · exact Chip.requestAppend_boundView _ _
    · split
      · exact differs .unknownRef
      · split
        · rfl
        · exact differs .mismatch

@[simp] theorem Chip.passOn_boundView (left : List Win) (c : Chip) : (Chip.passOn left c).boundView = c.boundView := by
  induction left generalizing c with
  | nil => rfl
  | cons w ws ih =>
    unfold Chip.passOn
    split
    · rfl
    · split
      · exact ih _
      · split
        · rfl
        · have judged := c.judge_boundView w emptySum
          split
          · next hj => rw [hj] at judged; exact (ih _).trans judged
          · next hj => rw [hj] at judged; exact judged

@[simp] theorem Chip.startPass_boundView (c : Chip) : c.startPass.boundView = c.boundView := Chip.passOn_boundView _ _

@[simp] theorem Chip.passSum_boundView (c : Chip) (w : Win) (found : DWord) :
    (c.passSum w found).boundView = c.boundView := by
  unfold Chip.passSum
  split
  · rfl
  · have judged := c.judge_boundView w found
    split
    · next hj => rw [hj] at judged; exact (Chip.passOn_boundView _ _).trans judged
    · next hj => rw [hj] at judged; exact judged

@[simp] theorem Chip.passWaited_boundView (c : Chip) (phase : PassPhase) :
    (c.passWaited phase).boundView = c.boundView := by
  unfold Chip.passWaited
  split
  · rfl
  · split <;> simp

@[simp] theorem Chip.resumePass_boundView (c : Chip) : c.resumePass.boundView = c.boundView := by
  unfold Chip.resumePass
  split <;> simp

@[simp] theorem Chip.dropPassSum_boundView (c : Chip) : c.dropPassSum.boundView = c.boundView := by
  unfold Chip.dropPassSum
  split <;> rfl

@[simp] theorem Chip.rescan_boundView (c : Chip) : c.rescan.1.boundView = c.boundView := by
  unfold Chip.rescan Chip.restartPass
  split
  · split
    · exact c.startPass_boundView
    · dsimp only
      split
      · rfl
      · exact c.startPass_boundView
      · exact c.startPass_boundView
      · exact (Chip.startPass_boundView _).trans c.dropPassSum_boundView
  · rfl

@[simp] theorem Chip.periodicExpiry_boundView (c : Chip) : c.periodicExpiry.boundView = c.boundView := by
  unfold Chip.periodicExpiry
  split
  · split
    · exact c.startPass_boundView
    · rfl
  · rfl

@[simp] theorem Chip.rebaseNext_boundView (c : Chip) (left : List Win) : (c.rebaseNext left).boundView = c.boundView := by
  cases left <;> rfl

@[simp] theorem Chip.takeRebase_boundView (c : Chip) : c.takeRebase.1.boundView = c.boundView := by
  unfold Chip.takeRebase
  split <;> simp

@[simp] theorem Chip.rebaseFinished_boundView (c : Chip) : c.rebaseFinished.boundView = c.boundView := by
  unfold Chip.rebaseFinished
  split <;> simp

@[simp] theorem Chip.rebaseSum_boundView (c : Chip) (w : Win) (sum : DWord) :
    (c.rebaseSum w sum).boundView = c.boundView := by
  unfold Chip.rebaseSum
  split <;> simp

/-! ## The loads, the survey and the rollback (R153–R157, R178–R181) -/

@[simp] theorem Chip.addFaults_boundView (c : Chip) (fs : List (LoadItem × FaultKind)) :
    (c.addFaults fs).boundView = c.boundView := by
  rw [Chip.addFaults_eq]
  rfl

/-- Neither the map nor the overlay is among these items. -/
theorem Chip.boundView_of_map (c : Chip) (map : WindowMap) (overlay : Overlay) :
    ({ c with map := map, overlay := overlay } : Chip).boundView = c.boundView := rfl

@[simp] theorem Chip.loadAnchors_boundView (c : Chip) (f : FuseBlock) : (c.loadAnchors f).boundView = c.boundView :=
  (Chip.addFaults_boundView _ _).trans (c.boundView_of_map _ c.overlay)

@[simp] theorem Chip.takeSettleChoice_boundView (c : Chip) (choice : Byte) :
    (c.takeSettleChoice choice).boundView = c.boundView := by
  rw [Chip.takeSettleChoice_eq]
  exact Chip.addFaults_boundView _ _

@[simp] theorem Chip.fuseRead_boundView (c : Chip) (f : FuseBlock) : (c.fuseRead f).boundView = c.boundView := by
  have chosen := ((c.loadAnchors f).takeSettleChoice_boundView f.settleChoice).trans (c.loadAnchors_boundView f)
  unfold Chip.fuseRead
  dsimp only
  generalize Chip.takeSettleChoice _ _ = d at chosen ⊢
  exact chosen

@[simp] theorem Chip.completeMap_boundView (c : Chip) (ds : Vector Descriptor 24) :
    (c.completeMap ds).boundView = c.boundView :=
  (Chip.addFaults_boundView _ _).trans (c.boundView_of_map _ _)

@[simp] theorem Chip.loadMap_boundView (c : Chip) (img : List Word) : (c.loadMap img).boundView = c.boundView := by
  unfold Chip.loadMap
  dsimp only
  split
  · rw [Chip.completeMap_boundView, Chip.addFaults_boundView]
    exact c.boundView_of_map _ c.overlay
  · exact (Chip.completeMap_boundView _ _).trans (c.boundView_of_map _ c.overlay)

@[simp] theorem Chip.loadLimits_boundView (c : Chip) (img : List Word) : (c.loadLimits img).boundView = c.boundView := by
  unfold Chip.loadLimits
  dsimp only
  split
  · rw [Chip.addFaults_boundView, Chip.addFaults_boundView]
    exact c.boundView_of_map c.map _
  · rfl

@[simp] theorem Chip.surveyAppend_boundView (c : Chip) (kind : AppendKind) :
    (c.surveyAppend kind).boundView = c.boundView := Chip.append_boundView _ _ _

@[simp] theorem Chip.surveyEntries_boundView (c : Chip) (left : List (Addr × Word)) :
    (c.surveyEntries left).boundView = c.boundView := by
  unfold Chip.surveyEntries Chip.surveyEnd
  split
  · dsimp only
    split <;> rfl
  · rfl

@[simp] theorem Chip.surveyDrain_boundView (c : Chip) : c.surveyDrain.boundView = c.boundView := by
  unfold Chip.surveyDrain
  split
  · exact c.surveyEntries_boundView _
  · rfl

@[simp] theorem Chip.rollbackSums_boundView (c : Chip) (left : List Win) :
    (c.rollbackSums left).boundView = c.boundView := by
  unfold Chip.rollbackSums
  split
  · exact (Chip.surveyDrain_boundView _).trans (Chip.surveyAppend_boundView _ _)
  · rfl

@[simp] theorem Chip.rollbackCompare_boundView (c : Chip) (left : List SlotRecord) :
    (c.rollbackCompare left).boundView = c.boundView := by
  unfold Chip.rollbackCompare
  split
  · exact c.rollbackSums_boundView _
  · rfl

@[simp] theorem Chip.rollbackWord_boundView (c : Chip) (r : SlotRecord) (rest : List SlotRecord) (data : Word) :
    (c.rollbackWord r rest data).boundView = c.boundView := by
  unfold Chip.rollbackWord
  split
  · exact c.rollbackCompare_boundView rest
  · split
    · rfl
    · split
      · exact c.rollbackCompare_boundView rest
      · rw [Chip.rollbackCompare_boundView]
        unfold Chip.rollbackTamper
        split <;> rfl

@[simp] theorem Chip.surveyRollbackStart_boundView (c : Chip) : c.surveyRollbackStart.boundView = c.boundView := by
  unfold Chip.surveyRollbackStart
  split <;> simp

@[simp] theorem Chip.surveySettle_boundView (c : Chip) : c.surveySettle.boundView = c.boundView := by
  unfold Chip.surveySettle Chip.surveyCloseGrant
  split
  · exact Chip.surveyRollbackStart_boundView _
  · exact Chip.surveyAppend_boundView _ _

@[simp] theorem Chip.surveyWord_boundView (c : Chip) (slot : Nat) (got : List Word) (data : Word) :
    (c.surveyWord slot got data).boundView = c.boundView := by
  have found (p : Prop) [Decidable p] (d : Chip) (hd : d.boundView = c.boundView) :
      (if p then d else c).boundView = c.boundView := by
    split
    · exact hd
    · rfl
  unfold Chip.surveyWord
  dsimp only
  split
  · rfl
  · split
    · exact found _ _ rfl
    · exact (Chip.surveySettle_boundView _).trans (found _ _ rfl)

@[simp] theorem Chip.surveySum_boundView (c : Chip) (w : Win) (sum : DWord) :
    (c.surveySum w sum).boundView = c.boundView := by
  unfold Chip.surveySum
  split
  · rw [Chip.rollbackSums_boundView, Chip.surveyAppend_boundView]
    split <;> simp
  · rfl

@[simp] theorem Chip.surveyFinished_boundView (c : Chip) : c.surveyFinished.boundView = c.boundView := by
  unfold Chip.surveyFinished
  dsimp only
  split
  · exact Chip.surveyRollbackStart_boundView _
  · exact Chip.surveyDrain_boundView _
  · rfl

/-! ## The Record Engine (R136–R149) -/

@[simp] theorem Chip.takeArchived_boundView (c : Chip) (n : Nat) : (c.takeArchived n).boundView = c.boundView :=
  Chip.watchLow_boundView _ _

@[simp] theorem Chip.requestArchived_boundView (c : Chip) (n : Nat) :
    (c.requestArchived n).1.boundView = c.boundView := by
  unfold Chip.requestArchived
  split
  · rfl
  · split
    · exact c.takeArchived_boundView n
    · rfl

@[simp] theorem Chip.joinWaiter_boundView (c : Chip) : c.joinWaiter.boundView = c.boundView := by
  unfold Chip.joinWaiter Chip.waiterJoined
  split
  · rfl
  · split
    · exact Chip.passWaited_boundView _ _
    all_goals rfl
  · rw [Chip.completePending_boundView, Chip.takeArchived_boundView]
    rfl

@[simp] theorem Chip.adoptionEnds_boundView (c : Chip) (r : AppendRequest) (cause : SumCause) :
    (c.adoptionEnds r cause).boundView = c.boundView := by
  unfold Chip.adoptionEnds
  split <;> simp

@[simp] theorem Chip.tellWritten_boundView (c : Chip) (r : AppendRequest) (seq : Nat) :
    (c.tellWritten r seq).boundView = c.boundView := by
  unfold Chip.tellWritten
  split
  · exact c.openingWritten_boundView seq
  · split <;> rfl
  · exact c.announced_boundView _ _
  · exact Chip.adoptionEnds_boundView _ r _
  · rfl
  · split <;> simp
  all_goals rfl

@[simp] theorem Chip.tellNotWritten_boundView (c : Chip) (r : AppendRequest) :
    (c.tellNotWritten r).boundView = c.boundView := by
  unfold Chip.tellNotWritten
  split
  · exact c.openingFailed_boundView
  · split <;> rfl
  · exact c.announced_boundView _ _
  · rw [Chip.adoptionEnds_boundView]
    split <;> rfl
  · split <;> simp
  all_goals rfl

@[simp] theorem Chip.requestFinished_boundView (c : Chip) (r : AppendRequest) (written : Bool) :
    (c.requestFinished r written).boundView = c.boundView := by
  unfold Chip.requestFinished
  split
  · split <;> simp
  · split
    · split <;> simp
    all_goals rfl
  · exact c.surveyFinished_boundView
  all_goals rfl

@[simp] theorem Chip.unclaim_boundView (c : Chip) (r : AppendRequest) : (c.unclaim r).boundView = c.boundView := by
  unfold Chip.unclaim
  split <;> rfl

@[simp] theorem Chip.notWrittenTold_boundView (c : Chip) (r : AppendRequest) :
    (c.notWrittenTold r).boundView = c.boundView := by
  unfold Chip.notWrittenTold
  split
  · exact c.tellNotWritten_boundView r
  · split
    · refine Chip.together_boundView 1 _ _ (fun f hf d => ?_) c
      rcases List.mem_pair.mp hf with rfl | rfl
      · exact d.tellNotWritten_boundView r
      · exact d.endCause_boundView .recordsFull
    · simp

@[simp] theorem Chip.presentFirst_boundView (c : Chip) (ws : List (Addr × Word)) :
    (c.presentFirst ws).boundView = c.boundView := by
  unfold Chip.presentFirst
  split <;> rfl

@[simp] theorem Chip.startRecord_boundView (c : Chip) (r : AppendRequest) (taken : Option Taken) (e : EngineFields) :
    (c.startRecord r taken e).boundView = c.boundView := Chip.presentFirst_boundView _ _

@[simp] theorem Chip.startAppend_boundView (c : Chip) (r : AppendRequest) : (c.startAppend r).boundView = c.boundView := by
  unfold Chip.startAppend
  split
  · rfl
  all_goals exact c.startRecord_boundView r none _

@[simp] theorem Chip.beginAppend_boundView (c : Chip) : c.beginAppend.boundView = c.boundView := by
  unfold Chip.beginAppend
  split
  · split
    · rfl
    · dsimp only
      split
      · exact (Chip.startAppend_boundView _ _).trans (Chip.joinWaiter_boundView _)
      · unfold Chip.appendNotWritten
        simp only [Chip.requestFinished_boundView, Chip.notWrittenTold_boundView, Chip.notify_boundView,
          Chip.unclaim_boundView, Chip.joinWaiter_boundView]
        rfl
  · rfl

@[simp] theorem Chip.finishRequest_boundView (c : Chip) (p : Progress) : (c.finishRequest p).boundView = c.boundView :=
  Chip.requestFinished_boundView _ _ _

@[simp] theorem Chip.appendComplete_boundView (c : Chip) (p : Progress) :
    (c.appendComplete p).boundView = c.boundView := by
  have told : ((({ c with engine.head := c.engine.head + 1 }.unclaim p.request).watchLow c.freeSlots).tellWritten
      p.request c.engine.head).boundView = c.boundView := by
    rw [Chip.tellWritten_boundView, Chip.watchLow_boundView, Chip.unclaim_boundView]
    rfl
  unfold Chip.appendComplete
  dsimp only
  split
  · exact (Chip.finishRequest_boundView _ p).trans told
  · exact (Chip.presentFirst_boundView _ _).trans told

@[simp] theorem Chip.progressDone_boundView (c : Chip) (p : Progress) (data : Word) :
    (c.progressDone p data).boundView = c.boundView := by
  unfold Chip.progressDone
  split <;> simp <;> rfl

/-! ## Sums (R160, R170) -/

theorem SumClient.takes_boundView (w : Win) (sum : DWord) (client : SumClient) (f : Chip → Chip)
    (hf : f ∈ client.takes w sum) (c : Chip) : (f c).boundView = c.boundView := by
  cases client with
  | commit =>
    rw [List.mem_singleton.mp hf]
    exact c.commitSum_boundView w sum
  | closing =>
    rcases List.mem_pair.mp hf with rfl | rfl
    · exact c.closingSum_boundView w sum
    · exact c.closingGoesOn_boundView
  | survey =>
    rw [List.mem_singleton.mp hf]
    exact c.surveySum_boundView w sum
  | rebase =>
    rw [List.mem_singleton.mp hf]
    exact c.rebaseSum_boundView w sum

@[simp] theorem Chip.deliver_boundView (c : Chip) (w : Win) (sum : DWord) (clients : List SumClient) :
    (c.deliver w sum clients).boundView = c.boundView := by
  cases clients with
  | nil => rfl
  | cons first others =>
    refine Chip.together_boundView _ _ _ (fun f hf d => ?_) c
    rcases List.mem_append.mp hf with hf | hf
    · exact SumClient.takes_boundView w sum first f hf d
    · obtain ⟨client, _, hf⟩ := List.mem_flatMap.mp hf
      exact SumClient.takes_boundView w sum client f hf d

@[simp] theorem Chip.sumRead_boundView (c : Chip) (data : Word) : (c.sumRead data).boundView = c.boundView := by
  unfold Chip.sumRead Chip.sumComplete
  split
  · rfl
  · dsimp only
    split
    · rfl
    · split
      · exact Chip.passSum_boundView _ _ _
      · exact Chip.deliver_boundView _ _ _ _

@[simp] theorem Chip.serveSum_boundView (c : Chip) : c.serveSum.boundView = c.boundView := by
  unfold Chip.serveSum
  split
  · rfl
  · split
    · rfl
    · dsimp only
      split
      · rfl
      · exact Chip.deliver_boundView _ _ _ _

/-! ## Power states, pins and second ticks (R70, R176–R189) -/

@[simp] theorem Chip.enterActive_boundView (c : Chip) : c.enterActive.boundView = c.boundView :=
  Chip.startPass_boundView _

@[simp] theorem Chip.enterAfterRun_boundView (c : Chip) : c.enterAfterRun.boundView = c.boundView :=
  (Chip.dropPassSum_boundView _).trans (Chip.endCause_boundView _ _)

@[simp] theorem Chip.enterRunning_boundView (c : Chip) : c.enterRunning.boundView = c.boundView := by
  unfold Chip.enterRunning
  split <;> simp

@[simp] theorem Chip.ignitionInput_boundView (c : Chip) (level : PinLevel) :
    (c.ignitionInput level).boundView = c.boundView := by
  unfold Chip.ignitionInput
  dsimp only
  split <;> rfl

@[simp] theorem Chip.ignitionFiltered_boundView (c : Chip) : c.ignitionFiltered.boundView = c.boundView := by
  have event (d : Chip) (level : IgnitionLevel) : (d.ignitionEvent level).boundView = d.boundView := by
    unfold Chip.ignitionEvent
    split
    · exact d.enterAfterRun_boundView
    · exact d.enterActive_boundView
    · rfl
    · rfl
  unfold Chip.ignitionFiltered
  split
  · dsimp only
    split
    · rfl
    · exact event _ _
  · rfl

@[simp] theorem Chip.delayExpired_boundView (c : Chip) : c.delayExpired.boundView = c.boundView := by
  unfold Chip.delayExpired
  split <;> rfl

@[simp] theorem Chip.arrivalReported_boundView (c : Chip) : c.arrivalReported.boundView = c.boundView := by
  unfold Chip.arrivalReported
  split <;> rfl

@[simp] theorem Chip.strobeReleased_boundView (c : Chip) : c.strobeReleased.boundView = c.boundView := by
  unfold Chip.strobeReleased
  split
  · rfl
  · rfl
  all_goals exact c.dropCycle_boundView

@[simp] theorem Chip.chipSelectReleased_boundView (c : Chip) : c.chipSelectReleased.boundView = c.boundView :=
  (Chip.unpark_boundView _).trans (Chip.dropCycle_boundView _)

@[simp] theorem Chip.cycleWithdrawn_boundView (c : Chip) (cause : WithdrawCause) :
    (c.cycleWithdrawn cause).boundView = c.boundView := by
  cases cause with
  | strobe => exact c.dropCycle_boundView
  | chipSelect => exact c.chipSelectReleased_boundView

@[simp] theorem Chip.resetAsserted_boundView (c : Chip) : c.resetAsserted.boundView = c.boundView := by
  unfold Chip.resetAsserted
  split
  · rfl
  · rw [Chip.endCause_boundView, Chip.unpark_boundView]
    exact Chip.dropCycle_boundView _

@[simp] theorem Chip.parkInput_boundView (c : Chip) (level : PinLevel) : (c.parkInput level).boundView = c.boundView := by
  unfold Chip.parkInput
  dsimp only
  split <;> rfl

@[simp] theorem Chip.parkDebounced_boundView (c : Chip) : c.parkDebounced.boundView = c.boundView := by
  unfold Chip.parkDebounced Chip.enterPark
  split
  · split
    · rfl
    · exact Chip.motionEvent_boundView _ _
  · rfl

@[simp] theorem Chip.grantTick_boundView (c : Chip) : c.grantTick.boundView = c.boundView :=
  (Chip.applyDecay_boundView _).trans c.applyExpiry_boundView

@[simp] theorem Chip.secondTick_boundView (c : Chip) : c.secondTick.boundView = c.boundView := by
  unfold Chip.secondTick
  split
  · rfl
  · dsimp only
    split
    · refine (Chip.together_boundView 1 _ _ (fun f hf d => ?_) _).trans rfl
      rcases List.mem_pair.mp hf with rfl | rfl
      · exact d.grantTick_boundView
      · exact d.periodicExpiry_boundView
    · rw [Chip.periodicExpiry_boundView, Chip.grantTick_boundView]
      rfl

/-! ## The gateway link, but for REFUSALS (R191–R197) -/

@[simp] theorem Chip.transactionEnd_boundView (c : Chip) (clocked : Nat) :
    (c.transactionEnd clocked).boundView = c.boundView := by
  unfold Chip.transactionEnd
  split <;> rfl

@[simp] theorem Chip.ownGrant_boundView (c : Chip) (f : GrantFields) : (c.ownGrant f).boundView = c.boundView := by
  unfold Chip.ownGrant
  split
  · rfl
  · exact c.admitGrant_boundView f

@[simp] theorem Chip.ownKeep_boundView (c : Chip) : c.ownKeep.boundView = c.boundView := c.keepGrant_boundView

@[simp] theorem Chip.ownRevoke_boundView (c : Chip) : c.ownRevoke.boundView = c.boundView := c.revokeGrant_boundView

@[simp] theorem Chip.ownCommit_boundView (c : Chip) (pages : PageSet) : (c.ownCommit pages).boundView = c.boundView :=
  c.takeCommit_boundView pages

@[simp] theorem Chip.ownDiscard_boundView (c : Chip) (pages : PageSet) : (c.ownDiscard pages).boundView = c.boundView :=
  c.takeDiscard_boundView pages

@[simp] theorem Chip.ownRescan_boundView (c : Chip) : c.ownRescan.boundView = c.boundView := c.rescan_boundView

@[simp] theorem Chip.ownRebase_boundView (c : Chip) : c.ownRebase.boundView = c.boundView := c.takeRebase_boundView

@[simp] theorem Chip.ownArchived_boundView (c : Chip) (upTo : DWord) : (c.ownArchived upTo).boundView = c.boundView :=
  c.requestArchived_boundView _

@[simp] theorem Chip.ownStatus_boundView (c : Chip) : c.ownStatus.boundView = c.boundView := rfl

@[simp] theorem Chip.ownDescribe_boundView (c : Chip) (kind index : Byte) :
    (c.ownDescribe kind index).boundView = c.boundView := by
  unfold Chip.ownDescribe
  split <;> rfl

end Sys2Proof.Machine
end

section
/-! The refusal list: what a refusal leaves in it, what strikes, and how it is handed over (R81, R96, R102–R106). -/

namespace Sys2Proof.Machine

/-! ## A refusal's entry (R104) -/

theorem Refused.sameRun_iff (a b : Refused) :
    a.sameRun b = true ↔ a.owner = b.owner ∧ a.kind = b.kind ∧ a.reason = b.reason := by
  simp [Refused.sameRun, and_assoc]

/-- A raised repeat count leaves an entry's owner, access kind and reason. -/
theorem Refused.sameRun_again (a b : Refused) : a.sameRun b.again = a.sameRun b := rfl

/-- A repeat of the newest entry merges with it. -/
theorem recordRefusal_of_repeat (old : List Refused) (newest e : Refused) (h : newest.sameRun e = true) :
    recordRefusal (old ++ [newest]) e = (old ++ [newest.again], false) := by
  simp [recordRefusal, h]

/-- A refusal that the newest entry does not agree with becomes the newest entry, and a full list loses its oldest. -/
theorem recordRefusal_of_new (list : List Refused) (e : Refused)
    (h : ∀ old newest, list = old ++ [newest] → newest.sameRun e = false) :
    recordRefusal list e = ((if list.length < 8 then list else list.tail) ++ [e], true) := by
  rcases List.eq_nil_or_concat list with rfl | ⟨old, newest, rfl⟩
  · rfl
  · rw [List.concat_eq_append] at h ⊢
    have differs := h old newest rfl
    simp only [recordRefusal, List.getLast?_append, List.getLast?_singleton, Option.some_or, differs, Bool.false_eq_true,
      if_false]
    change (if (old ++ [newest]).length < 8 then _ else _) = _
    split <;> rfl

/-- A list with an entry added has no repeats if it had none and its newest entry does not agree with the one added. -/
theorem noRepeats_append_singleton (list : List Refused) (e : Refused) :
    noRepeats (list ++ [e]) = true ↔
      noRepeats list = true ∧ ∀ old newest, list = old ++ [newest] → newest.sameRun e = false := by
  induction list with
  | nil => simp [noRepeats]
  | cons a rest ih =>
    cases rest with
    | nil =>
      constructor
      · intro h
        refine ⟨rfl, fun old newest he => ?_⟩
        cases old with
        | nil => cases he; simpa [noRepeats] using h
        | cons b more => simp at he
      · rintro ⟨-, h⟩
        simp [noRepeats, h [] a rfl]
    | cons b more =>
      have step (l : List Refused) : noRepeats (a :: b :: l) = (!a.sameRun b && noRepeats (b :: l)) := rfl
      simp only [List.cons_append, step, Bool.and_eq_true] at ih ⊢
      rw [ih, and_assoc]
      refine and_congr_right fun _ => and_congr_right fun _ => ?_
      constructor
      · intro h old newest he
        cases old with
        | nil => cases he
        | cons x old => exact h old newest (by simpa using (List.cons.inj he).2)
      · intro h old newest he
        exact h (a :: old) newest (by rw [he]; rfl)

theorem noRepeats_tail (list : List Refused) (h : noRepeats list = true) : noRepeats list.tail = true := by
  unfold noRepeats at h
  split at h
  · exact (Bool.and_eq_true _ _ ▸ h).2
  · rfl
  · rfl

/-- A refusal keeps the list as R104 bounds it. -/
theorem recordRefusal_keeps_bounds (list : List Refused) (e : Refused) (hl : list.length ≤ 8)
    (hn : noRepeats list = true) :
    (recordRefusal list e).1.length ≤ 8 ∧ noRepeats (recordRefusal list e).1 = true := by
  by_cases merges : ∃ old newest, list = old ++ [newest] ∧ newest.sameRun e = true
  · obtain ⟨old, newest, rfl, same⟩ := merges
    rw [recordRefusal_of_repeat old newest e same]
    refine ⟨by simpa using hl, ?_⟩
    rw [noRepeats_append_singleton] at hn ⊢
    simpa only [Refused.sameRun_again] using hn
  · push Not at merges
    have new (old : List Refused) (newest : Refused) (he : list = old ++ [newest]) : newest.sameRun e = false :=
      Bool.eq_false_iff.mpr (merges old newest he)
    rw [recordRefusal_of_new list e new]
    dsimp only
    split
    · next short => exact ⟨by simpa using short, (noRepeats_append_singleton list e).mpr ⟨hn, new⟩⟩
    · next full =>
      refine ⟨by simp; omega, (noRepeats_append_singleton _ e).mpr ⟨noRepeats_tail list hn, fun old newest he => ?_⟩⟩
      cases list with
      | nil => simp at full
      | cons oldest rest => exact new (oldest :: old) newest (congrArg (oldest :: ·) he)

/-! ## Its strike (R81, R102) -/

/-- A strike counts one, up to 15, whether it begins lockout or not (R81, R83). -/
theorem Chip.strike_strikes (c : Chip) : c.strike.grant.strikes = min (c.grant.strikes + 1) 15 := by
  rw [Chip.strike_eq]
  split
  · exact (congrArg LockView.strikes (Chip.endCause_lockView _ .lockout)).trans
      (congrArg GrantController.strikes (Chip.append_grant _ _ _))
  · rfl

@[simp] theorem Chip.listed_grant (c : Chip) (y : CycleRecord) (reason : Reason) (r : Resolution) :
    (c.listed y reason r).grant = c.grant := by
  rw [Chip.listed_eq]

/-- A refusal changes the refusal list alone of what R104 and the ranges bound. -/
theorem Chip.refuse_boundView (c : Chip) (y : CycleRecord) (reason : Reason) (r : Resolution) :
    (c.refuse y reason r).boundView =
      { c.boundView with refusals := (recordRefusal c.adu.refusals (c.refusalEntry y reason r)).1 } := by
  rw [Chip.refuse_eq, Chip.listed_eq]
  split
  · exact Chip.strike_boundView _
  · rfl

theorem Chip.refuse_refusals (c : Chip) (y : CycleRecord) (reason : Reason) (r : Resolution) :
    (c.refuse y reason r).adu.refusals = (recordRefusal c.adu.refusals (c.refusalEntry y reason r)).1 :=
  congrArg BoundView.refusals (c.refuse_boundView y reason r)

/-- A refusal that merges is no strike (R102). -/
theorem Chip.refuse_grant_of_repeat (c : Chip) (y : CycleRecord) (reason : Reason) (r : Resolution)
    (h : (recordRefusal c.adu.refusals (c.refusalEntry y reason r)).2 = false) :
    (c.refuse y reason r).grant = c.grant := by
  rw [Chip.refuse_eq, h, if_neg (by simp), Chip.listed_grant]

/-- A new entry of a striking reason is one strike (R81, R102). -/
theorem Chip.refuse_strikes (c : Chip) (y : CycleRecord) (reason : Reason) (r : Resolution) :
    (c.refuse y reason r).grant.strikes =
      if (recordRefusal c.adu.refusals (c.refusalEntry y reason r)).2 = true
          ∧ reason ∈ [Reason.noGrant, .scope, .level, .cls, .frozen] then min (c.grant.strikes + 1) 15
      else c.grant.strikes := by
  rw [Chip.refuse_eq, apply_ite (fun d : Chip => d.grant.strikes), Chip.strike_strikes, Chip.listed_grant]
  exact if_congr (by rw [Bool.and_eq_true, Reason.strikes_iff]) rfl rfl

/-- Settles O30: a repeat merges and anything else becomes the newest entry, by the list's last entry. -/
theorem refusalsMergeOrAppend : Obligations.RefusalsMergeOrAppend := by
  intro list e
  have same (newest : Refused) := newest.sameRun_iff e
  refine ⟨?_, fun old newest he hs => ?_, fun differs => ?_, recordRefusal_keeps_bounds list e⟩
  · rintro c y reason r rfl rfl
    refine ⟨c.refuse_refusals y reason r, c.refuse_grant_of_repeat y reason r, ?_⟩
    refine (c.refuse_strikes y reason r).trans (if_congr (and_congr_right fun _ => ?_) rfl rfl)
    simp only [List.mem_cons, List.not_mem_nil, or_false]
    tauto
  · rw [he]
    exact recordRefusal_of_repeat old newest e ((same newest).mpr hs)
  · have new := recordRefusal_of_new list e fun old newest he =>
      Bool.eq_false_iff.mpr fun h => differs old newest he ((same newest).mp h)
    refine ⟨fun short => by rw [new, if_pos short], fun oldest rest he full => ?_⟩
    rw [new, if_neg (by omega), he]
    rfl

/-! ## A WRITE outside any grant (R93, R96) -/

/-- Settles O31: the decision is that of a grant not in force, and a refused WRITE is carried out as such. -/
theorem ungrantedWriteIsDroppedAndStrikes : Obligations.UngrantedWriteIsDroppedAndStrikes := by
  intro s b supplied settled idle write lanes awake gate ungranted below y r reason recorded guarded
  have dir : y.direction = .write := by simp [y, captureCycle, write]
  have decision : s.chip.decision y = ⟨.drop, some reason, none, false, r⟩ := by
    rw [s.chip.decision_write y dir]
    exact s.chip.decideWrite_of_refusal r reason guarded (s.chip.writeRefusal_of_not_inForce r (.inl ungranted))
  have strikes : reason ∈ [Reason.noGrant, .scope, .level, .cls, .frozen] := by
    dsimp only [reason]
    split <;> simp
  obtain ⟨-, -, -, -, dropped, -⟩ := writeIsServedAsDecided s b supplied settled idle write lanes awake gate
  have served := dropped reason decision fun _ => below
  simp only [if_pos ungranted, strikes, and_true] at served
  obtain ⟨t, he, frame, ⟨pins, supply⟩, bus, adu, link, grant⟩ := served
  exact ⟨t, he, frame, pins, supply, by rw [bus, decision], adu, link, grant⟩

/-! ## REFUSALS (R106) -/

/-- Byte `k` of an address. -/
theorem byteOf_shifted (a : Addr) (k : Nat) : byteOf (a.toNat / 2 ^ k) = a.extractLsb' k 8 := by
  apply BitVec.eq_of_toNat_eq
  rw [byteOf, BitVec.toNat_ofNat, BitVec.extractLsb'_toNat, Nat.shiftRight_eq_div_pow]

/-- The bytes of an address, least significant first (R201). -/
theorem bytesOf_addr (a : Addr) :
    bytesOf 3 a.toNat = [a.extractLsb' 0 8, a.extractLsb' 8 8, a.extractLsb' 16 8] := by
  rw [← byteOf_shifted, ← byteOf_shifted, ← byteOf_shifted]
  simp only [bytesOf, Nat.div_div_eq_div_mul]
  norm_num

/-- The 8 bytes of an entry (11_formats.md section 11.4). -/
theorem Refused.bytes_eq (e : Refused) : e.bytes =
    [byteOf e.owner.code, (match e.kind with | .read => 0#8 | .write => 1#8), byteOf e.reason.code,
      byteOf (levelCode e.level), e.address.extractLsb' 0 8, e.address.extractLsb' 8 8, e.address.extractLsb' 16 8,
      byteOf e.count] := by
  rw [Refused.bytes, bytesOf_addr]
  rfl

/-- Settles O45: the owner's reply is the list as it stood, and its bytes are those of its entries. -/
theorem refusalsHandsOverTheList : Obligations.RefusalsHandsOverTheList := by
  intro s filler snap calm listening
  obtain ⟨t, he, frame, ht⟩ := exec_of_request (.refusals filler) 0 filler Chip.ownRefusals s snap _ [.adu, .link] rfl calm
    listening rfl ((Chip.changesOnly_iff _ _ _).mpr (by simp [Chip.ownRefusals, Chip.heard])) (by simp) (by simp)
  have link : t.chip.link = { s.chip.link.answered snap (3 + filler)
      ⟨.ok, 0x09#8, refusalsPayload s.chip.adu.refusals⟩ with notices := s.chip.link.notices &&& 0xFFDF#16 } := by
    rw [ht, ← Nat.zero_add 3]
    rfl
  refine ⟨t, he, frame, by rw [ht]; rfl, link.trans ?_⟩
  rw [refusalsPayload, funext Refused.bytes_eq]
  rfl

end Sys2Proof.Machine
end

section
/-! The refusal list's bounds and the ranges of speeds and counts (R17, R18, R43, R51, R104), second part: what moves them,
and every step. -/

namespace Sys2Proof.Machine

/-! ## The bounds, of the items alone -/

/-- R104's bounds, of the items alone. -/
def BoundView.listOk (v : BoundView) : Prop := v.refusals.length ≤ 8 ∧ noRepeats v.refusals = true

/-- The ranges of R17, R18, R43 and R51, of the items alone. -/
def BoundView.inRanges (v : BoundView) : Prop :=
  v.engineSpeed ≤ 16383 ∧ v.roadSpeed ≤ 2550 ∧ v.engineWraps ≤ 3 ∧ v.roadWraps ≤ 3 ∧ v.burst ≤ 8 ∧ v.starvation ≤ 255
    ∧ v.starvationLimit ≤ 255

theorem Chip.refusalsOk_iff (c : Chip) : c.refusalsOk ↔ c.boundView.listOk := Iff.rfl

theorem Chip.inRanges_iff (c : Chip) : c.inRanges ↔ c.boundView.inRanges := Iff.rfl

/-- From `c` to `d` the refusal list's bounds are kept, and so are the ranges. -/
structure Chip.KeepsBounds (c d : Chip) : Prop where
  list : c.boundView.listOk → d.boundView.listOk
  ranges : c.boundView.inRanges → d.boundView.inRanges

namespace Chip.KeepsBounds

variable {c d e : Chip}

theorem refl (c : Chip) : c.KeepsBounds c := ⟨id, id⟩

theorem trans (h : c.KeepsBounds d) (h' : d.KeepsBounds e) : c.KeepsBounds e :=
  ⟨h'.list ∘ h.list, h'.ranges ∘ h.ranges⟩

/-- What leaves the items alone keeps the bounds. -/
theorem of_view (h : d.boundView = c.boundView) : c.KeepsBounds d := by
  constructor <;> exact fun hc => h ▸ hc

/-- An operation's last changes leave the items alone. -/
theorem then_view (h : c.KeepsBounds d) (hd : e.boundView = d.boundView) : c.KeepsBounds e := h.trans (of_view hd)

/-- So do an operation's first changes. -/
theorem from_view (h : d.KeepsBounds e) (hd : d.boundView = c.boundView) : c.KeepsBounds e := (of_view hd).trans h

/-- A change of the refusal list. -/
theorem of_refusals (list : List Refused) (h : d.boundView = { c.boundView with refusals := list })
    (ok : c.boundView.listOk → list.length ≤ 8 ∧ noRepeats list = true) : c.KeepsBounds d where
  list hc := h ▸ ok hc
  ranges hc := h ▸ hc

/-- A change of speeds and counts. -/
theorem of_ranges (list : d.boundView.refusals = c.boundView.refusals)
    (ok : c.boundView.inRanges → d.boundView.inRanges) : c.KeepsBounds d where
  list := by
    unfold BoundView.listOk
    rw [list]
    exact id
  ranges := ok

end Chip.KeepsBounds

/-! ## The refusal list (R104, R106) -/

theorem Chip.refuse_keepsBounds (c : Chip) (y : CycleRecord) (reason : Reason) (r : Resolution) :
    c.KeepsBounds (c.refuse y reason r) :=
  .of_refusals _ (c.refuse_boundView y reason r) fun ⟨length, repeats⟩ => recordRefusal_keeps_bounds _ _ length repeats

theorem Chip.ownRefusals_keepsBounds (c : Chip) : c.KeepsBounds c.ownRefusals :=
  .of_refusals [] rfl fun _ => ⟨Nat.zero_le 8, rfl⟩

theorem Chip.decideCycle_keepsBounds (c : Chip) (y : CycleRecord) : c.KeepsBounds (c.decideCycle y) := by
  have handed (d : Decision) : c.KeepsBounds (c.handOver y d) := by
    have refused : c.KeepsBounds (match d.refusal with
        | some reason => c.refuse y reason d.resolution
        | none => c) := by
      split
      · exact c.refuse_keepsBounds y _ _
      · exact .refl c
    unfold Chip.handOver
    dsimp only
    split
    · exact refused.then_view (Chip.openWindow_boundView _ _)
    · exact refused
  unfold Chip.decideCycle Chip.decideLanes
  split
  · exact .of_view rfl
  · exact (handed _).then_view (by rw [Chip.unpark_boundView, Chip.carryOut_boundView])

theorem Chip.gateChanged_keepsBounds (c : Chip) : c.KeepsBounds c.gateChanged := by
  unfold Chip.gateChanged
  split
  · split
    · exact c.decideCycle_keepsBounds _
    · exact .refl c
  · exact .refl c

theorem Chip.cycleArrives_keepsBounds (c : Chip) (b : BusCycle) : c.KeepsBounds (c.cycleArrives b) := by
  have reported : c.KeepsBounds ({ c with pins.chipSelect := true } : Chip).arrivalReported :=
    .of_view (Chip.arrivalReported_boundView _)
  unfold Chip.cycleArrives Chip.admitCycle
  split
  · split
    · split
      · exact reported.trans (Chip.decideCycle_keepsBounds _ _)
      · exact reported.then_view (Chip.unpark_boundView _)
    · exact .refl c
  all_goals exact .refl c

theorem Chip.resetReleased_keepsBounds (c : Chip) : c.KeepsBounds c.resetReleased := by
  unfold Chip.resetReleased
  split
  · exact (Chip.gateChanged_keepsBounds _).from_view rfl
  · exact .refl c

theorem Chip.endStart_keepsBounds (c : Chip) : c.KeepsBounds c.endStart := by
  unfold Chip.endStart
  split
  · exact (Chip.gateChanged_keepsBounds _).from_view (Chip.enterRunning_boundView _)
  · exact .refl c

/-! ## Speeds and wrap counts (R43, R46–R51) -/

theorem engineSpeed_le (k : ChannelSettings) (p : Nat) : engineSpeed k p ≤ 16383 := Nat.min_le_right _ _

theorem roadSpeed_le (k : ChannelSettings) (p : Nat) : roadSpeed k p ≤ 2550 := Nat.min_le_right _ _

/-- A speed update of a capture is a speed of the channel, or 0 (R47, R51). -/
theorem CaptureChannel.captureSpeed_le (k : CaptureChannel) (speed : Nat → Nat) (top : Nat) (hs : ∀ p, speed p ≤ top)
    (v : Nat) (h : k.captureSpeed speed = some v) : v ≤ top := by
  obtain ⟨r, -, rfl⟩ := Option.map_eq_some_iff.mp h
  split
  · exact hs _
  · exact Nat.zero_le top

/-- A valid edge makes at most one speed update, leaves the speed, and at most sets the wrap count to 0 (R45, R46). -/
theorem CaptureChannel.validEdge_bounds (k : CaptureChannel) (divider : Nat) (speed : Nat → Nat) (top : Nat)
    (hs : ∀ p, speed p ≤ top) :
    (k.validEdge divider speed).1.speed = k.speed ∧ (k.validEdge divider speed).1.wraps ≤ k.wraps
      ∧ ∀ v ∈ (k.validEdge divider speed).2, v ≤ top := by
  unfold CaptureChannel.validEdge
  split
  · exact ⟨rfl, Nat.zero_le _, k.captureSpeed_le speed top hs⟩
  · exact ⟨rfl, le_rfl, nofun⟩

/-- A tick leaves the speed to its updates, which are speeds of the channel or 0, and the wrap count within 3 (R43, R48). -/
theorem CaptureChannel.tick_bounds (k : CaptureChannel) (settings : ChannelSettings) (speed : Nat → Nat) (x : PinLevel)
    (top : Nat) (hs : ∀ p, speed p ≤ top) :
    (k.tick settings speed x).1.speed = k.speed ∧ (k.wraps ≤ 3 → (k.tick settings speed x).1.wraps ≤ 3)
      ∧ ∀ v ∈ (k.tick settings speed x).2, v ≤ top := by
  have advanced : k.wraps ≤ 3 → (k.advance.sampled x).wraps ≤ 3 := by
    intro h
    simp only [CaptureChannel.sampled, CaptureChannel.advance]
    split <;> omega
  have silent (v : Nat) (h : v ∈ if k.fallsSilent then [0] else []) : v ≤ top := by
    split at h
    · rw [List.mem_singleton.mp h]
      exact Nat.zero_le top
    · cases h
  unfold CaptureChannel.tick
  dsimp only
  split
  · obtain ⟨same, wraps, update⟩ := (k.advance.sampled x).validEdge_bounds settings.divider speed top hs
    refine ⟨same, fun h => wraps.trans (advanced h), fun v hv => ?_⟩
    rcases List.mem_append.mp hv with hv | hv
    · exact silent v hv
    · exact update v (Option.mem_toList.mp hv)
  · exact ⟨rfl, advanced, silent⟩

/-- An ENGINE speed update moves the speed alone (R51). -/
theorem Chip.engineUpdate_boundView (c : Chip) (v : Nat) :
    (c.engineUpdate v).boundView = { c.boundView with engineSpeed := v } := by
  unfold Chip.engineUpdate
  dsimp only
  split
  · rfl
  · exact Chip.motionEvent_boundView _ _

/-- A ROAD speed update moves the speed alone (R51). -/
theorem Chip.roadUpdate_boundView (c : Chip) (v : Nat) :
    (c.roadUpdate v).boundView = { c.boundView with roadSpeed := v } :=
  Chip.foldl_boundView Chip.enterRoad (fun _ _ => Chip.motionEvent_boundView _ _) _ _

theorem Chip.engineUpdate_keepsBounds (c : Chip) (v : Nat) (hv : v ≤ 16383) : c.KeepsBounds (c.engineUpdate v) := by
  have view := c.engineUpdate_boundView v
  exact .of_ranges (by rw [view]) fun ⟨_, rest⟩ => view ▸ ⟨hv, rest⟩

theorem Chip.roadUpdate_keepsBounds (c : Chip) (v : Nat) (hv : v ≤ 2550) : c.KeepsBounds (c.roadUpdate v) := by
  have view := c.roadUpdate_boundView v
  exact .of_ranges (by rw [view]) fun ⟨engine, _, rest⟩ => view ▸ ⟨engine, hv, rest⟩

/-- A chain of changes keeps the bounds if each of them does. -/
theorem Chip.foldl_keepsBounds {α : Type} (f : Chip → α → Chip) (xs : List α) (c d : Chip) (h : c.KeepsBounds d)
    (hf : ∀ (e : Chip), ∀ x ∈ xs, e.KeepsBounds (f e x)) : c.KeepsBounds (xs.foldl f d) :=
  List.foldlRecOn xs f h fun e he x hx => he.trans (hf e x hx)

theorem Chip.channelTick_keepsBounds (c : Chip) (channel : Channel) (x : PinLevel) :
    c.KeepsBounds (c.channelTick channel x) := by
  cases channel with
  | engine =>
    simp only [Chip.channelTick]
    split
    · obtain ⟨same, wraps, updates⟩ := c.monitor.engine.tick_bounds c.params.engine _ x 16383
        (engineSpeed_le c.params.engine)
      refine Chip.foldl_keepsBounds _ _ c _ (.of_ranges rfl ?_) fun e v hv => e.engineUpdate_keepsBounds v (updates v hv)
      rintro ⟨speed, road, engineWraps, rest⟩
      exact ⟨same.trans_le speed, road, wraps engineWraps, rest⟩
    · exact .refl c
  | road =>
    simp only [Chip.channelTick]
    split
    · obtain ⟨same, wraps, updates⟩ := c.monitor.road.tick_bounds c.params.road _ x 2550 (roadSpeed_le c.params.road)
      refine Chip.foldl_keepsBounds _ _ c _ (.of_ranges rfl ?_) fun e v hv => e.roadUpdate_keepsBounds v (updates v hv)
      rintro ⟨engine, speed, engineWraps, roadWraps, rest⟩
      exact ⟨engine, same.trans_le speed, engineWraps, wraps roadWraps, rest⟩
    · exact .refl c

theorem Chip.silence_keepsBounds (c : Chip) (channel : Channel) : c.KeepsBounds (c.silence channel) := by
  cases channel with
  | engine =>
    simp only [Chip.silence]
    split
    · exact c.engineUpdate_keepsBounds 0 (Nat.zero_le _)
    · exact .refl c
  | road =>
    simp only [Chip.silence]
    split
    · exact c.roadUpdate_keepsBounds 0 (Nat.zero_le _)
    · exact .refl c

/-- The monitor starts with speeds and wrap counts of 0 (R58). -/
theorem Chip.startMonitor_keepsBounds (c : Chip) : c.KeepsBounds c.startMonitor := by
  have started : c.KeepsBounds { c with monitor := Monitor.started c.params.parkInUse } :=
    .of_ranges rfl fun ⟨_, _, _, _, rest⟩ => ⟨Nat.zero_le _, Nat.zero_le _, Nat.zero_le _, Nat.zero_le _, rest⟩
  exact started.then_view (Chip.foldl_boundView Chip.motionEvent Chip.motionEvent_boundView _ _)

theorem Chip.settleEnds_keepsBounds (c : Chip) : c.KeepsBounds c.settleEnds := by
  unfold Chip.settleEnds
  split
  · have begun := Chip.startMonitor_keepsBounds { c with
      bus.gate.waking := false, supply.settling := false, link.receiving := true }
    exact ((begun.then_view (Chip.enterRunning_boundView _)).trans (Chip.gateChanged_keepsBounds _)).from_view rfl
  · exact .refl c

/-! ## The starvation limit (R17, R180) -/

theorem validParams_starvationLimit_le (img : List Word) : (validParams img).1.starvationLimit ≤ 255 :=
  inBounds_le 16 255 64 _ .starvationLimit (by decide)

theorem Chip.settleParams_keepsBounds (c : Chip) (img : List Word) : c.KeepsBounds (c.settleParams img) := by
  have settled (p : Params) (hp : p.starvationLimit ≤ 255) : c.KeepsBounds { c with params := p } :=
    .of_ranges rfl fun ⟨engine, road, engineWraps, roadWraps, burst, starvation, _⟩ =>
      ⟨engine, road, engineWraps, roadWraps, burst, starvation, hp⟩
  unfold Chip.settleParams
  split
  · exact (settled { Params.default with image := .invalid } (by decide : 64 ≤ 255)).then_view
      (Chip.addFaults_boundView _ [_])
  · exact (settled _ (validParams_starvationLimit_le img)).then_view (Chip.addFaults_boundView _ _)

theorem Chip.startUpDone_keepsBounds (c : Chip) (data : Word) : c.KeepsBounds (c.startUpDone data) := by
  have image (got : List Word) : c.KeepsBounds (c.imageWord got data) := by
    unfold Chip.imageWord
    dsimp only
    split
    · exact .of_view rfl
    · let img := (data :: got).reverse.take checkedWords
      have loaded : c.KeepsBounds (((c.settleParams img).loadMap img).loadLimits img) :=
        (c.settleParams_keepsBounds img).then_view (by rw [Chip.loadLimits_boundView, Chip.loadMap_boundView])
      have started := loaded.trans (Chip.startMonitor_keepsBounds _)
      unfold Chip.imageComplete
      dsimp only [img] at started ⊢
      generalize Chip.startMonitor _ = d at started ⊢
      exact started.then_view rfl
  unfold Chip.startUpDone
  split
  · exact image _
  · exact .of_view (c.surveyWord_boundView _ _ data)
  · exact .of_view (c.surveyEntries_boundView _)
  · exact .of_view (c.rollbackWord_boundView _ _ data)
  · exact .of_view (Chip.rollbackCompare_boundView _ _)
  all_goals exact .refl c

/-! ## The burst and starvation counts (R15, R17, R18) -/

/-- P wins below the starvation limit, or with no internal request pending (R15). -/
theorem BusPath.starvation_of_winner_P (b : BusPath) (limit : Nat) (h : b.winner limit = some .P) :
    b.starvation < limit ∨ b.internalPending = false := by
  unfold BusPath.winner at h
  unfold BusPath.internalPending
  split_ifs at h with waits r l s p
  · exact .inl waits.2
  · cases h
  · cases h
  · cases h
  · exact .inr (by simp [r, l, s])

/-- A grant leaves the burst count at most 1, and counts a starvation for P alone, where an internal request is left
waiting (R15, R17). -/
theorem BusPath.grantTo_counts (b : BusPath) (who : Requester) :
    b.grantTo who = b ∨ (b.grantTo who).burst ≤ 1
      ∧ ((b.grantTo who).starvation = 0
        ∨ who = .P ∧ (b.grantTo who).starvation = if b.internalPending then b.starvation + 1 else b.starvation) := by
  unfold BusPath.grantTo
  split
  · exact .inl rfl
  · cases who with
    | P => exact .inr ⟨Nat.zero_le 1, .inr ⟨rfl, rfl⟩⟩
    | R => exact .inr ⟨le_rfl, .inl rfl⟩
    | L => exact .inr ⟨le_rfl, .inl rfl⟩
    | S => exact .inr ⟨le_rfl, .inl rfl⟩

/-- The arbiter keeps the starvation count within the starvation limit's range (R15, R17). -/
theorem Chip.arbitrate_keepsBounds (c : Chip) : c.KeepsBounds c.arbitrate := by
  refine .of_ranges (by rw [Chip.arbitrate_eq]; rfl) ?_
  rintro ⟨engine, road, engineWraps, roadWraps, burst, starvation, limit⟩
  change c.bus.burst ≤ 8 at burst
  change c.bus.starvation ≤ 255 at starvation
  change c.params.starvationLimit ≤ 255 at limit
  have counts : c.arbitrate.bus.burst ≤ 8 ∧ c.arbitrate.bus.starvation ≤ 255 := by
    unfold Chip.arbitrate
    split
    · split
      · next who win =>
        dsimp only
        rcases c.bus.grantTo_counts who with same | ⟨one, none_ | ⟨rfl, counted⟩⟩
        · exact ⟨by rwa [same], by rwa [same]⟩
        · exact ⟨one.trans (by decide), none_.trans_le (Nat.zero_le _)⟩
        · refine ⟨one.trans (by decide), counted.trans_le ?_⟩
          rcases c.bus.starvation_of_winner_P _ win with below | alone
          · split <;> omega
          · simpa [alone] using starvation
      · exact ⟨burst, starvation⟩
    · exact ⟨burst, starvation⟩
    · exact ⟨burst, starvation⟩
  rw [Chip.arbitrate_eq]
  exact ⟨engine, road, engineWraps, roadWraps, counts.1, counts.2, limit⟩

/-- A burst goes on only below 8 (R18). -/
theorem Chip.endInternal_keepsBounds (c : Chip) (who : Requester) : c.KeepsBounds (c.endInternal who) := by
  unfold Chip.endInternal
  split
  · split
    · next goesOn =>
      refine .of_ranges rfl ?_
      rintro ⟨engine, road, engineWraps, roadWraps, -, -, limit⟩
      exact ⟨engine, road, engineWraps, roadWraps, goesOn.2, Nat.zero_le _, limit⟩
    · exact .of_view rfl
  · exact .of_view rfl

/-- The end of a command: the arbitration, and dormancy at most, which leaves the items alone (R185, R186). -/
theorem Chip.finish_keepsBounds (c : Chip) : c.KeepsBounds c.finish := by
  refine c.arbitrate_keepsBounds.then_view ?_
  unfold Chip.finish Chip.checkDormancy
  split <;> rfl

theorem Chip.transferDone_keepsBounds (c : Chip) (who : Requester) (live : Bool) (data : Word) :
    c.KeepsBounds (c.transferDone who live data) := by
  have passed : (c.passDone data).boundView = c.boundView := by
    unfold Chip.passDone
    split
    · rfl
    · split
      · exact Chip.reportServed_boundView _ _
      all_goals rfl
    all_goals rfl
  have told : c.KeepsBounds (c.requesterDone who live data) := by
    unfold Chip.requesterDone Chip.engineDone
    split
    · exact .of_view passed
    · split
      · exact .of_view (c.progressDone_boundView _ data)
      · exact c.startUpDone_keepsBounds data
    · exact .of_view (c.loaderRead_boundView data)
    · exact .of_view (c.sumRead_boundView data)
    · exact .refl c
  refine told.trans ?_
  unfold Chip.transferDone Chip.endTransfer
  split
  · exact .of_view rfl
  all_goals exact Chip.endInternal_keepsBounds _ _

/-! ## Requests of the gateway link (R191–R194) -/

/-- The rise of SEL_N leaves the items alone, so a request keeps the bounds if its owner does. -/
theorem Chip.request_keepsBounds (c : Chip) (length filler : Nat) (owner : Chip → Chip)
    (ho : ∀ d : Chip, d.KeepsBounds (owner d)) : c.KeepsBounds (c.request length filler owner) := by
  unfold Chip.request Chip.takeRequest
  dsimp only
  split
  · split
    · exact .of_view rfl
    · exact (ho _).from_view rfl
  · exact .of_view rfl

theorem Chip.forward_keepsBounds (c : Chip) (code : Byte) (payload : List Byte) :
    c.KeepsBounds (c.forward code payload) := by
  unfold Chip.forward
  split
  case h_9 => exact c.ownRefusals_keepsBounds
  all_goals exact .of_view (by simp)

theorem Chip.requestBytes_keepsBounds (c : Chip) (bytes : List Byte) : c.KeepsBounds (c.requestBytes bytes) := by
  have framed (d : Chip) : d.KeepsBounds (d.takeFrame bytes) := by
    unfold Chip.takeFrame
    split
    · exact .refl d
    · split <;> exact .of_view rfl
    · split
      · exact .refl d
      · split
        · exact .of_view rfl
        · split
          · exact .of_view rfl
          · split
            · exact d.forward_keepsBounds _ _
            · exact .of_view rfl
  unfold Chip.requestBytes
  dsimp only
  split
  · exact (framed _).from_view rfl
  · exact .of_view rfl

/-! ## Every step -/

theorem operation_keepsBounds (i : Instr) (f : Chip → Chip) (hf : i.operation = some f) (c : Chip) :
    c.KeepsBounds (f c) := by
  have request (length filler : Nat) (owner : Chip → Chip) (ho : ∀ d : Chip, (owner d).boundView = d.boundView) :
      c.KeepsBounds (c.request length filler owner) :=
    c.request_keepsBounds length filler owner fun d => .of_view (ho d)
  cases i <;> cases hf
  case startEnd => exact c.endStart_keepsBounds
  case processorCycleArrival cycle => exact c.cycleArrives_keepsBounds cycle
  case resetNRelease => exact c.resetReleased_keepsBounds
  case channelTick channel sample => exact c.channelTick_keepsBounds channel sample
  case silence channel => exact c.silence_keepsBounds channel
  case settleTimeEnd => exact c.settleEnds_keepsBounds
  case refusals filler => exact c.request_keepsBounds _ _ _ Chip.ownRefusals_keepsBounds
  case unknown bytes => exact c.requestBytes_keepsBounds bytes
  case grant fields filler => exact request _ _ _ fun d => d.ownGrant_boundView fields
  case keep filler => exact request _ _ _ Chip.ownKeep_boundView
  case revoke filler => exact request _ _ _ Chip.ownRevoke_boundView
  case discard pages filler => exact request _ _ _ fun d => d.ownDiscard_boundView pages
  case commit pages filler => exact request _ _ _ fun d => d.ownCommit_boundView pages
  case archived upTo filler => exact request _ _ _ fun d => d.ownArchived_boundView upTo
  case rescan filler => exact request _ _ _ Chip.ownRescan_boundView
  case rebase filler => exact request _ _ _ Chip.ownRebase_boundView
  case status filler => exact request _ _ _ Chip.ownStatus_boundView
  case describe kind index filler => exact request _ _ _ fun d => d.ownDescribe_boundView kind index
  case transactionStart => exact .of_view rfl
  case nop filler => exact .of_view rfl
  -- every other operation leaves the items alone
  all_goals exact .of_view (by simp)

theorem Chip.powerOn_refusalsOk (pins : Pins) (draws : Nat) : (Chip.powerOn pins draws).refusalsOk :=
  ⟨Nat.zero_le _, rfl⟩

theorem Chip.powerOn_inRanges (pins : Pins) (draws : Nat) : (Chip.powerOn pins draws).inRanges :=
  ⟨Nat.zero_le _, Nat.zero_le _, Nat.zero_le _, Nat.zero_le _, Nat.zero_le _, Nat.zero_le _, (by decide : 64 ≤ 255)⟩

/-- What a command makes of the part keeps the bounds, or begins at the power-on values. -/
theorem exec_keepsBounds (i : Instr) (s t : State) (he : exec i s = .next t) :
    s.chip.KeepsBounds t.chip ∨ ∃ pins draws, (Chip.powerOn pins draws).KeepsBounds t.chip := by
  rcases exec_cases i s with ⟨f, hf, hx⟩ | ⟨returned, _, hx⟩ | ⟨_, hx⟩ | ⟨_, hx⟩ <;> (rw [hx] at he; cases he)
  · left
    cases hs : s.supplied with
    | true =>
      rw [State.onPin_of_supplied _ f s hs]
      exact (operation_keepsBounds i f hf s.chip).trans (Chip.finish_keepsBounds _)
    | false =>
      rw [State.onPin_of_unsupplied _ f s hs]
      exact .of_view rfl
  · left
    unfold State.transferComplete
    split
    · exact (Chip.transferDone_keepsBounds _ _ _ _).trans (Chip.finish_keepsBounds _)
    · exact .refl _
  · right
    rw [s.loseSupply_chip]
    exact ⟨_, _, .refl _⟩
  · right
    exact ⟨_, _, (Chip.finish_keepsBounds _).from_view (Chip.fuseRead_boundView _ _)⟩

/-- Settles O6: only a refusal and REFUSALS move the list, and each count is moved by its own rule alone. -/
theorem stepKeepsListAndCountBounds : Obligations.StepKeepsListAndCountBounds := by
  constructor
  · refine step_keeps (fun s => s.chip.refusalsOk) (fun _ _ h => h) fun i s t h he => ?_
    rcases exec_keepsBounds i s t he with kept | ⟨pins, draws, kept⟩
    · exact t.chip.refusalsOk_iff.mpr (kept.list (s.chip.refusalsOk_iff.mp h))
    · exact t.chip.refusalsOk_iff.mpr (kept.list (Chip.powerOn_refusalsOk pins draws))
  · refine step_keeps (fun s => s.chip.inRanges) (fun _ _ h => h) fun i s t h he => ?_
    rcases exec_keepsBounds i s t he with kept | ⟨pins, draws, kept⟩
    · exact t.chip.inRanges_iff.mpr (kept.ranges (s.chip.inRanges_iff.mp h))
    · exact t.chip.inRanges_iff.mpr (kept.ranges (Chip.powerOn_inRanges pins draws))

end Sys2Proof.Machine
end

section
/-! The limit arithmetic and the WRITE it governs (R94, R101, R116, R117, R126, R128–R130). -/

namespace Sys2Proof.Machine

/-! ## The limit arithmetic (R128–R130) -/

/-- A value within the bounds stays, and any other becomes the bound it passes (R130). -/
theorem boundLimited_mem (x lower upper : Int) (h : lower ≤ upper) :
    lower ≤ boundLimited x lower upper ∧ boundLimited x lower upper ≤ upper := by
  unfold boundLimited
  split_ifs <;> omega

/-- A value between two that 16-bit patterns have is the value of a pattern (R128). -/
theorem LimitRecord.read_ofInt (l : LimitRecord) (lower upper : Word) (v : Int) (hl : l.read lower ≤ v)
    (hu : v ≤ l.read upper) : l.read (BitVec.ofInt 16 v) = v := by
  unfold LimitRecord.read at hl hu ⊢
  split_ifs at hl hu ⊢
  · have low := lower.le_toInt
    have high := upper.toInt_lt
    rw [BitVec.toInt_ofInt]
    apply Int.bmod_eq_of_le <;> omega
  · have high := upper.isLt
    rw [BitVec.toNat_ofInt]
    omega

/-- The stored word's value is that of the limit arithmetic, where the bounds are in order (R129, R130). -/
theorem LimitRecord.read_apply (l : LimitRecord) (x baseline : Word) (h : l.read l.lower ≤ l.read l.upper) :
    l.read (l.apply x baseline)
      = boundLimited (stepLimited (l.read x) (l.read baseline) l.step) (l.read l.lower) (l.read l.upper) :=
  have ⟨low, high⟩ := boundLimited_mem (stepLimited (l.read x) (l.read baseline) l.step) _ _ h
  l.read_ofInt l.lower l.upper _ low high

theorem LimitRecord.frozen_eq_false_of_le (l : LimitRecord) (h : l.read l.lower ≤ l.read l.upper) : l.frozen = false :=
  decide_eq_false (Int.not_lt.mpr h)

/-! ## The governed WRITE -/

/-- A WRITE that no check refuses, to a word of a page that is not loading, is stored with its governing record applied
(R101). -/
theorem Chip.decideWrite_of_governed (c : Chip) (r : Resolution) (p : PageNo) (j : LimitNo) (trim : r.cls = .site .trim)
    (unrefused : c.writeRefusal r = none) (page : r.page = some p) (loaded : c.overlay.pages[p].state ≠ .loading)
    (governs : c.governs r = some j) (thawed : c.overlay.limits[j].frozen = false)
    (level : c.grant.record.level ≠ some .factory) :
    c.decideWrite r = ⟨.overlayWrite (some j), none, none, false, r⟩ := by
  rw [c.decideWrite_of_served r (by simp [trim]) unrefused, c.servedWriteDecision_of_trim r trim,
    c.appliedLimit_of_governed r j governs thawed level, if_neg (mt (c.pageIsLoading_of_page r p page).mp loaded)]

/-- Settles O33: the decision applies the governing record, and a WRITE so decided is served as
`writeIsServedAsDecided` has it. -/
theorem governedWriteStaysWithinBounds : Obligations.GovernedWriteStaysWithinBounds := by
  intro s b p j supplied settled idle write lanes awake gate y r l old x x2 final trim page opened unrefused below governs
    ordered
  have decision : s.chip.decision y = ⟨.overlayWrite (some j), none, none, false, r⟩ := by
    rw [s.chip.decision_write y (by simp [y, captureCycle, write])]
    exact s.chip.decideWrite_of_governed r p j trim unrefused page (by rcases opened with h | h <;> (rw [h]; nofun))
      governs (l.frozen_eq_false_of_le ordered) below
  obtain ⟨-, stores, -⟩ := writeIsServedAsDecided s b supplied settled idle write lanes awake gate
  obtain ⟨t, he, frame, -, bus, word, others, states, overlay, grant⟩ :=
    stores (some j) p (by rw [decision]) (by rw [decision]) page
  obtain ⟨low, high⟩ := boundLimited_mem x2 (l.read l.lower) (l.read l.upper) ordered
  have value : l.read (l.apply x old.baseline) = final := l.read_apply x old.baseline ordered
  refine ⟨t, he, frame, ?_, others, states, by rw [overlay], by rw [overlay], by rw [overlay], by rw [bus, decision]⟩
  rw [word]
  exact ⟨value, value ▸ low, value ▸ high, rfl, rfl, rfl, bne_iff_ne, grant⟩

end Sys2Proof.Machine
end

section
/-! DISCARD (R111, R119, R120). -/

namespace Sys2Proof.Machine

/-! ## Sets of pages -/

theorem mem_pagesOf (pages : PageSet) (p : PageNo) : p ∈ pagesOf pages ↔ hasPage pages p = true := by
  simp [pagesOf]

theorem pagesOf_ascending (pages : PageSet) : (pagesOf pages).Pairwise (· < ·) :=
  (List.pairwise_lt_finRange 8).filter _

/-- The pages of a set in ascending page number are one list. -/
theorem pagesOf_eq_of_listsPages (list : List PageNo) (pages : PageSet) (h : listsPages list pages) :
    pagesOf pages = list :=
  (pagesOf_ascending pages).eq_of_mem_iff h.2 fun p => (mem_pagesOf pages p).trans (h.1 p).symm

/-! ## The checks (R119) -/

theorem Chip.pageInScope_eq_false_iff (c : Chip) (p : PageNo) : c.pageInScope p = false ↔
    ∀ w, c.map.bindings[p] = some w → hasWin c.grant.record.scope w = false := by
  unfold Chip.pageInScope
  cases c.map.bindings[p] <;> simp

theorem Chip.discardRefusal_eq (c : Chip) (pages : PageSet) : c.discardRefusal pages =
    if c.grant.state ≠ .active ∧ c.grant.state ≠ .suspended then some .noGrant
    else if pages = 0#8 ∨ (∃ p : PageNo, hasPage pages p = true ∧ (c.overlay.pages[p].state = .unbound
        ∨ ∀ w : Win, c.map.bindings[p] = some w → hasWin c.grant.record.scope w = false)) then some .badArg
    else if ∃ p : PageNo, hasPage pages p = true ∧ (c.overlay.pages[p].state = .loading
        ∨ c.overlay.pages[p].state = .committing) then some .busy
    else none := by
  have noGrant : (!c.grant.state.inForce) = true ↔ c.grant.state ≠ .active ∧ c.grant.state ≠ .suspended := by
    rw [Bool.not_eq_true', ← Bool.not_eq_true, GrantState.inForce_iff, not_or]
  unfold Chip.discardRefusal
  simp only [noGrant, List.any_eq_true, mem_pagesOf, Bool.or_eq_true, beq_iff_eq, Bool.not_eq_true',
    Chip.pageInScope_eq_false_iff]

theorem Chip.takeDiscard_of_refusal (c : Chip) (pages : PageSet) (code : ResultCode)
    (h : c.discardRefusal pages = some code) : c.takeDiscard pages = (c, code) := by
  unfold Chip.takeDiscard
  rw [h]

theorem Chip.takeDiscard_of_passed (c : Chip) (pages : PageSet) (h : c.discardRefusal pages = none) :
    c.takeDiscard pages = (c.startLoads (pagesOf pages), .ok) := by
  unfold Chip.takeDiscard
  rw [h]

/-! ## The pages that join the load queue (R111) -/

/-- Behind a page that loads, pages that enter LOADING only wait. -/
theorem Chip.startLoads_of_busy (c : Chip) (ps : List PageNo) (busy : c.overlay.queue ≠ []) (nodup : ps.Nodup) :
    c.startLoads ps = { c with overlay := { c.overlay with
      pages := enterAll c.overlay.pages ps, queue := c.overlay.queue ++ ps } } := by
  unfold Chip.startLoads
  rw [c.foldl_enterLoading ps nodup]
  cases queue : c.overlay.queue with
  | nil => exact absurd queue busy
  | cons q qs => rfl

/-- Settles O46: the owner's checks are those of the statement, and the pages that pass them enter LOADING together. -/
theorem discardReloadsThePage : Obligations.DiscardReloadsThePage := by
  intro s pages filler snap calm listening refusal
  let c : Chip := s.chip.heard snap (1 + 3 + filler)
  have checked : c.discardRefusal pages = refusal := c.discardRefusal_eq pages
  refine ⟨fun code refused => ?_, fun passed list lists => ?_⟩
  · -- refused
    obtain ⟨t, he, frame, ht⟩ := exec_of_request (.discard pages filler) 1 filler (Chip.ownDiscard pages) s snap _ [.link]
      rfl calm listening (congrArg (answerWith 0x06#8) (c.takeDiscard_of_refusal pages code (checked.trans refused)))
      ((Chip.changesOnly_iff _ _ _).mpr (by simp [answerWith, Chip.answer, c, Chip.heard])) (by simp) (by simp)
    exact ⟨t, he, frame, by rw [ht]; rfl⟩
  intro marked
  obtain rfl := pagesOf_eq_of_listsPages list pages lists
  have owned := congrArg (answerWith 0x06#8) (c.takeDiscard_of_passed pages (checked.trans passed))
  have nodup : (pagesOf pages).Nodup := (pagesOf_ascending pages).nodup
  have entered (p : PageNo) : (enterAll s.chip.overlay.pages (pagesOf pages))[p] =
      if hasPage pages p then s.chip.overlay.pages[p].enterLoading else s.chip.overlay.pages[p] := by
    simp only [enterAll_page, mem_pagesOf]
  refine ⟨fun busy => ?_, fun p rest i a idle first served => ?_⟩
  · -- the loader is at work
    rw [c.startLoads_of_busy _ busy nodup] at owned
    obtain ⟨t, he, frame, ht⟩ := exec_of_request (.discard pages filler) 1 filler (Chip.ownDiscard pages) s snap _
      [.overlay, .link] rfl calm listening owned
      ((Chip.changesOnly_iff _ _ _).mpr (by simp [answerWith, Chip.answer, c, Chip.heard])) (by simp) (by simp)
    refine ⟨t, he, frame, fun p => ?_, ?_⟩
    · rw [ht]
      exact entered p
    · rw [ht]
      exact ⟨rfl, rfl, rfl, rfl⟩
  · -- the loader is idle
    rw [first, c.startLoads_cons p rest i a idle (first ▸ nodup) served, ← first] at owned
    have taken := exec_of_params (.discard pages filler) _ s _ rfl calm.1
      ((s.chip.request_of_listening snap 1 filler (Chip.ownDiscard pages) listening).trans owned) rfl calm.2.2
    refine ⟨_, taken, ?_, entered, rfl, rfl, rfl, rfl, rfl⟩
    exact State.changesOnly_of_chip _ s _
      ((Chip.changesOnly_iff _ _ _).mpr (by simp [answerWith, Chip.answer, c, Chip.heard]))

end Sys2Proof.Machine
end

section
/-! The limit table: the checks of a record, duplicates, and the load-fault entries (R122–R124, R35). -/

namespace Sys2Proof.Machine

/-! ## The checks of a record (R123) -/

/-- Whether a limit record's codes are assigned ones. -/
def LimitRecord.coded (l : LimitRecord) : Prop := l.interpretation ≤ 1 ∧ (l.required = 1 ∨ l.required = 2)

theorem LimitRecord.uncoded_iff (l : LimitRecord) :
    (1 < l.interpretation ∨ l.required < 1 ∨ 2 < l.required) ↔ ¬ l.coded := by
  unfold LimitRecord.coded
  omega

theorem checkLimit_raw (m : WindowMap) (raw : BitVec 96) : (checkLimit m raw).raw = raw := by
  unfold checkLimit
  dsimp only
  split_ifs <;> rfl

theorem checkLimit_of_unused (m : WindowMap) (raw : BitVec 96) (h : raw.getLsbD 0 = false) :
    checkLimit m raw = ⟨raw, .switchedOff, none⟩ := by
  simp only [checkLimit, LimitRecord.inUse, h, Bool.not_false, if_true]

theorem checkLimit_of_uncoded (m : WindowMap) (raw : BitVec 96) (used : raw.getLsbD 0 = true)
    (h : ¬ LimitRecord.coded ⟨raw, .enabled, none⟩) : checkLimit m raw = ⟨raw, .faulted, some .code⟩ := by
  rw [← LimitRecord.uncoded_iff] at h
  simp only [checkLimit, LimitRecord.inUse, used, h, Bool.not_true, Bool.false_eq_true, if_true, if_false]

/-- A record in use with assigned codes is judged by its window (R123). -/
theorem checkLimit_of_coded (m : WindowMap) (raw : BitVec 96) (used : raw.getLsbD 0 = true)
    (coded : LimitRecord.coded ⟨raw, .enabled, none⟩) :
    let l : LimitRecord := ⟨raw, .enabled, none⟩
    checkLimit m raw =
      if h : l.window < 24 then
        if m.descriptors[l.window].isTrim = false then ⟨raw, .faulted, some .window⟩
        else if m.spanOf ⟨l.window, h⟩ ≤ l.offset then ⟨raw, .faulted, some .offset⟩
        else if m.owns ⟨l.window, h⟩ l.offset = false then ⟨raw, .faulted, some .notOwned⟩
        else if 32767 < l.step then ⟨raw, .faulted, some .step⟩
        else l
      else ⟨raw, .faulted, some .window⟩ := by
  have assigned := not_not.mpr coded
  rw [← LimitRecord.uncoded_iff] at assigned
  simp only [checkLimit, LimitRecord.inUse, used, assigned, Bool.not_true, Bool.false_eq_true, if_false,
    Bool.not_eq_true']

/-- A record that names no ENABLED TRIM window. -/
theorem checkLimit_of_no_trim (m : WindowMap) (raw : BitVec 96) (used : raw.getLsbD 0 = true)
    (coded : LimitRecord.coded ⟨raw, .enabled, none⟩)
    (h : ∀ w : Win, w.val = LimitRecord.window ⟨raw, .enabled, none⟩ → m.descriptors[w].isTrim = false) :
    checkLimit m raw = ⟨raw, .faulted, some .window⟩ := by
  rw [checkLimit_of_coded m raw used coded]
  split
  · next index => exact if_pos (h ⟨_, index⟩ rfl)
  · rfl

theorem WindowMap.owns_eq_false_iff (m : WindowMap) (w : Win) (i : Nat) :
    m.owns w i = false ↔ (m.resolve (m.descriptors[w].base + BitVec.ofNat 24 (2 * i))).owner ≠ .window w := by
  rw [WindowMap.resolve_owner]
  exact beq_eq_false_iff_ne

/-- A record that names an ENABLED TRIM window, by the word of it that it names. -/
theorem checkLimit_of_trim (m : WindowMap) (raw : BitVec 96) (w : Win) (used : raw.getLsbD 0 = true)
    (coded : LimitRecord.coded ⟨raw, .enabled, none⟩) (index : w.val = LimitRecord.window ⟨raw, .enabled, none⟩)
    (trim : m.descriptors[w].isTrim = true) :
    let l : LimitRecord := ⟨raw, .enabled, none⟩
    checkLimit m raw =
      if 2 ^ (m.descriptors[w].exponent - 1) ≤ l.offset then ⟨raw, .faulted, some .offset⟩
      else if (m.resolve (m.descriptors[w].base + BitVec.ofNat 24 (2 * l.offset))).owner ≠ .window w then
        ⟨raw, .faulted, some .notOwned⟩
      else if 32767 < l.step then ⟨raw, .faulted, some .step⟩
      else ⟨raw, .enabled, none⟩ := by
  intro l
  obtain ⟨i, hi⟩ := w
  obtain rfl : i = l.window := index
  rw [checkLimit_of_coded m raw used coded, dif_pos hi, if_neg (by rw [Bool.not_eq_false]; exact trim)]
  simp only [WindowMap.owns_eq_false_iff]
  rfl

/-! ## Duplicates (R124) -/

theorem duplicated_iff (ls : Vector LimitRecord 32) (j : LimitNo) : duplicated ls j = true ↔
    ls[j].standing = .enabled ∧ ∃ i : LimitNo, i < j ∧ ls[i].standing = .enabled ∧ ls[i].window = ls[j].window
      ∧ ls[i].offset = ls[j].offset := by
  simp [duplicated, and_assoc]

/-- The records of an image, each checked by itself. -/
def limitsChecked (m : WindowMap) (img : List Word) : Vector LimitRecord 32 :=
  Vector.ofFn fun j : LimitNo => checkLimit m (imgLimit img j.val)

theorem limitsChecked_get (m : WindowMap) (img : List Word) (j : LimitNo) :
    (limitsChecked m img)[j] = checkLimit m (imgLimit img j.val) := by
  simp [limitsChecked]

theorem checkLimits_get (m : WindowMap) (img : List Word) (j : LimitNo) : (checkLimits m img)[j] =
    if duplicated (limitsChecked m img) j = true then ⟨(checkLimit m (imgLimit img j.val)).raw, .faulted, some .duplicate⟩
    else checkLimit m (imgLimit img j.val) := by
  simp only [← limitsChecked_get]
  simp [checkLimits, limitsChecked]

/-! ## The table as read (11_formats.md section 11.2) -/

/-- The words of a limit record lie one after the other in the image. -/
theorem imgLimit_word (img : List Word) (j i : Nat) (h : i < 6) :
    (imgLimit img j).extractLsb' (16 * i) 16 = img.getD ((0xE0 + 12 * j + 2 * i) / 2) 0#16 := by
  unfold imgLimit imgWord
  interval_cases i
  all_goals
    simp (disch := omega) only [BitVec.extractLsb'_append_eq_of_le, BitVec.extractLsb'_append_eq_of_add_le]
    simp

/-! ## The load-fault entries (R35) -/

theorem mem_limitFaults (ls : Vector LimitRecord 32) (pick : FaultKind → Bool) (f : LoadItem × FaultKind) :
    f ∈ limitFaults ls pick ↔
      ∃ (j : LimitNo) (k : FaultKind), f = (.limit j, k) ∧ ls[j].fault = some k ∧ pick k = true := by
  simp only [limitFaults, List.mem_filterMap, List.mem_finRange, true_and, Option.map_eq_some_iff,
    Option.filter_eq_some_iff, and_assoc]
  constructor
  · rintro ⟨j, k, fault, picked, rfl⟩
    exact ⟨j, k, rfl, fault, picked⟩
  · rintro ⟨j, k, rfl, fault, picked⟩
    exact ⟨j, k, fault, picked, rfl⟩

/-- The table of a valid image, with its entries: those of R123, then the duplicates (log entry 15). -/
theorem Chip.loadLimits_eq (c : Chip) (img : List Word) (h : c.params.image = .valid) :
    c.loadLimits img = ({ c with overlay.limits := checkLimits c.map img } : Chip).addFaults
      (limitFaults (checkLimits c.map img) (fun k => k != FaultKind.duplicate)
        ++ limitFaults (checkLimits c.map img) fun k => k == FaultKind.duplicate) := by
  rw [Chip.addFaults_append]
  exact if_pos h

/-- Settles O21: the checks of a record in R123's order, then the table by `checkLimits_get` and its entries by
`mem_limitFaults`. -/
theorem limitTableIsCheckedAndSettled : Obligations.LimitTableIsCheckedAndSettled := by
  constructor
  · intro m raw l verdict coded trim
    have trim_iff (w : Win) : trim w ↔ w.val = l.window ∧ m.descriptors[w].isTrim = true := by
      rw [Descriptor.isTrim_iff]
    refine ⟨checkLimit_raw m raw, checkLimit_of_unused m raw, checkLimit_of_uncoded m raw, fun used hcoded none_ => ?_,
      fun w used hcoded htrim => ?_⟩
    · refine checkLimit_of_no_trim m raw used hcoded fun w index => ?_
      exact Bool.eq_false_iff.mpr fun isTrim => none_ w ((trim_iff w).mpr ⟨index, isTrim⟩)
    · obtain ⟨index, isTrim⟩ := (trim_iff w).mp htrim
      exact checkLimit_of_trim m raw w used hcoded index isTrim
  · intro c img t checked repeats
    refine ⟨fun invalid => if_neg invalid, fun valid => ?_⟩
    have loaded : t = _ := c.loadLimits_eq img valid
    have limits : t.overlay = { c.overlay with limits := checkLimits c.map img } := by
      rw [loaded, Chip.addFaults_overlay]
    have repeats_iff (j : LimitNo) : duplicated (limitsChecked c.map img) j = true ↔ repeats j := by
      simp only [duplicated_iff, limitsChecked_get]
      rfl
    refine ⟨?_, fun j i hi => imgLimit_word img j i hi, fun j => ⟨fun again => ?_, fun first => ?_⟩, ?_,
      ⟨limitFaults (checkLimits c.map img) fun k => k != .duplicate,
        limitFaults (checkLimits c.map img) fun k => k == .duplicate, ?_, fun f => ?_, fun f => ?_⟩, ?_⟩
    · rw [loaded, Chip.addFaults_eq]
      exact (Chip.changesOnly_iff _ _ _).mpr (by simp)
    · rw [limits]
      exact (checkLimits_get c.map img j).trans (if_pos ((repeats_iff j).mpr again))
    · rw [limits]
      exact (checkLimits_get c.map img j).trans (if_neg (mt (repeats_iff j).mp first))
    · rw [limits]
    · rw [loaded, Chip.addFaults_map, List.append_assoc]
    · rw [limits, mem_limitFaults]
      simp only [bne_iff_ne]
    · rw [limits, mem_limitFaults]
      simp only [beq_iff_eq]
      constructor
      · rintro ⟨j, k, rfl, fault, rfl⟩
        exact ⟨j, rfl, fault⟩
      · rintro ⟨j, rfl, fault⟩
        exact ⟨j, _, rfl, fault, rfl⟩
    · rw [loaded]
      exact Chip.addFaults_link _ _

end Sys2Proof.Machine
end

section
/-! The loader's reads: the word loaded, the burst, and the page that opens (R8, R10, R18, R72, R111–R113, R116, R117). -/

namespace Sys2Proof.Machine

/-! ## The memory port after the loader's read (R17, R18) -/

/-- Without a next read of the loader the port becomes FREE. -/
theorem Chip.endInternal_L_of_none (d : Chip) (h : d.bus.requestL = none) :
    (d.endInternal .L).bus = { d.bus with memPort := .free } := by
  unfold Chip.endInternal BusPath.request
  dsimp only
  rw [h]

/-- The next read of the loader goes on in the burst, or stands for the arbitration (R18). -/
theorem Chip.busAfter_endInternal_L (c d : Chip) (x : Transfer) (idle : c.bus.requestL = none)
    (hd : d.bus = { c.bus with requestL := some x }) :
    c.busAfter (d.endInternal .L).bus = c.busGoesOn .L (some x) := by
  unfold Chip.endInternal BusPath.request Chip.busGoesOn
  rw [hd]
  dsimp only
  by_cases h : c.bus.requestP = none ∧ c.bus.burst < 8
  · rw [if_pos h, if_pos (show c.bus.requestP = none ∧ c.bus.burst < Config.burstLimit from h),
      Chip.busAfter_of_settled _ _ fun free => by cases free]
    simp only [BusPath.setRequest, idle]
  · rw [if_neg h, if_neg (show ¬ (c.bus.requestP = none ∧ c.bus.burst < Config.burstLimit) from h)]
    rfl

/-- The completion of a loader's read, by what the loader makes of the part. -/
theorem exec_loaderRead (s : State) (tr : Transfer) (d : Chip) (hs : s.supplied = true) (up : s.chip.staysUp)
    (read : tr.action = .read) (port : s.chip.bus.memPort = .busy .L tr true)
    (hd : s.chip.loaderRead (s.memory.readWord tr.address) = d) (params : d.params = s.chip.params)
    (supply : d.supply = s.chip.supply) :
    exec (.memoryTransferComplete none) s
      = .next { s with chip := { d with bus := s.chip.busAfter (d.endInternal .L).bus } } := by
  obtain ⟨a, action⟩ := tr
  obtain rfl : action = .read := read
  have done : s.chip.transferDone .L true (s.memory.complete ⟨a, .read⟩ none).2
      = { d with bus := (d.endInternal .L).bus } := by
    rw [← Chip.endInternal_eq, ← hd]
    rfl
  refine exec_of_transferDone s .L _ true _ hs port done params ?_
  unfold Chip.staysUp
  dsimp only
  rwa [supply]

/-! ## The loader along its queue (R111–R113) -/

theorem Chip.loaderRead_of_queue (c : Chip) (p : PageNo) (rest : List PageNo) (data : Word)
    (queue : c.overlay.queue = p :: rest) :
    c.loaderRead data = Chip.loadAlong (p :: rest) (c.overlay.loadWord + 1) (c.loadOverlay p c.overlay.loadWord data) := by
  unfold Chip.loaderRead
  rw [queue]

/-- Behind the last page of the queue the loader is idle. -/
theorem Chip.loadAlong_nil (c : Chip) (n : Nat) : Chip.loadAlong [] n c = { c with overlay.queue := [] } := rfl

/-- With a served word left the loader presents its read (R112). -/
theorem Chip.loadAlong_of_served (c : Chip) (p : PageNo) (rest : List PageNo) (n i : Nat) (a : Addr)
    (h : c.servedAt p n = some (i, a)) :
    Chip.loadAlong (p :: rest) n c = { c with
      overlay := { c.overlay with queue := p :: rest, loadWord := i }
      bus := { c.bus with requestL := some ⟨a, .read⟩ } } := by
  unfold Chip.loadAlong
  rw [h]
  rfl

/-- After the last served word the page opens, and the loader turns to the next page (R113). -/
theorem Chip.loadAlong_of_last (c : Chip) (p : PageNo) (rest : List PageNo) (n : Nat) (h : c.servedAt p n = none) :
    Chip.loadAlong (p :: rest) n c = Chip.loadAlong rest 0 (c.openPage p) := by
  rw [Chip.loadAlong, h]

/-- With no write held for PAGE LOADING nothing is served as a page opens (R113). -/
theorem Chip.serveHeld_of_notLoading (c : Chip) (p : PageNo) (h : c.bus.port.notLoading) : c.serveHeld p = c := by
  unfold Chip.serveHeld
  split
  · next y port => exact absurd port (h y)
  · rfl

/-- The write held on a page is served as the page opens (R10, R113). -/
theorem Chip.serveHeld_of_held (c : Chip) (p : PageNo) (y : CycleRecord) (d : Decision) (limit : Option LimitNo)
    (port : c.bus.port = .held y .pageLoading) (decided : y.decision = some d) (page : d.resolution.page = some p)
    (service : d.service = .overlayWrite limit) : c.serveHeld p = c.serveOverlayWrite y limit d.resolution := by
  unfold Chip.serveHeld
  rw [port]
  dsimp only
  rw [decided]
  dsimp only
  rw [if_pos page, service]

/-! ## The pages (R112, R113) -/

/-- A page word set to something other than the cleared word, and the pages beside it. -/
theorem Chip.setPage_setWord (c : Chip) (p : PageNo) (n : Nat) (w : PageWord) (h : w ≠ PageWord.cleared) :
    let pages := (c.setPage p (c.overlay.pages[p].setWord n w)).overlay.pages
    (pages[p].word n = w)
    ∧ (∀ (q : PageNo) (m : Nat), (q, m) ≠ (p, n) → pages[q].word m = c.overlay.pages[q].word m)
    ∧ ∀ q : PageNo, pages[q].state = c.overlay.pages[q].state := by
  refine ⟨?_, fun q m hq => ?_, fun q => ?_⟩
  · rw [Chip.setPage_get_self, Page.word_setWord_self _ _ _ h]
  · by_cases hqp : q = p
    · subst hqp
      rw [Chip.setPage_get_self, Page.word_setWord_ne _ _ _ _ fun e => hq (by rw [e])]
    · rw [Chip.setPage_get_ne _ _ _ _ hqp]
  · by_cases hqp : q = p
    · subst hqp
      rw [Chip.setPage_get_self, Page.setWord_state]
    · rw [Chip.setPage_get_ne _ _ _ _ hqp]

/-- The word that the loader's read leaves in its page (R112), and the pages beside it. -/
theorem Chip.loadOverlay_pages (c : Chip) (p : PageNo) (n : Nat) (data : Word) :
    let pages := (c.loadOverlay p n data).overlay.pages
    (pages[p].word n = ⟨data, data, true, false, false⟩)
    ∧ (∀ (q : PageNo) (m : Nat), (q, m) ≠ (p, n) → pages[q].word m = c.overlay.pages[q].word m)
    ∧ ∀ q : PageNo, pages[q].state = c.overlay.pages[q].state :=
  c.setPage_setWord p n ⟨data, data, true, false, false⟩ fun h => absurd (congrArg PageWord.loaded h) nofun

/-- The part with its last word loaded and the page in OPEN, before a write held on it is served (R112, R113). -/
def Chip.pageLoaded (p : PageNo) (n : Nat) (data : Word) (c : Chip) : Chip :=
  (c.loadOverlay p n data).setPage p { (c.loadOverlay p n data).overlay.pages[p] with state := .opened }

theorem Chip.openPage_loadOverlay (c : Chip) (p : PageNo) (n : Nat) (data : Word) :
    (c.loadOverlay p n data).openPage p = (c.pageLoaded p n data).serveHeld p := rfl

theorem Chip.pageLoaded_pages (c : Chip) (p : PageNo) (n : Nat) (data : Word) :
    let pages := (c.pageLoaded p n data).overlay.pages
    (pages[p].word n = ⟨data, data, true, false, false⟩)
    ∧ (∀ (q : PageNo) (m : Nat), (q, m) ≠ (p, n) → pages[q].word m = c.overlay.pages[q].word m)
    ∧ ∀ q : PageNo, pages[q].state = if q = p then .opened else c.overlay.pages[q].state := by
  obtain ⟨here, elsewhere, states⟩ := c.loadOverlay_pages p n data
  have words (q : PageNo) (m : Nat) :
      (c.pageLoaded p n data).overlay.pages[q].word m = (c.loadOverlay p n data).overlay.pages[q].word m := by
    unfold Chip.pageLoaded
    by_cases hqp : q = p
    · subst hqp
      rw [Chip.setPage_get_self]
      rfl
    · rw [Chip.setPage_get_ne _ _ _ _ hqp]
  refine ⟨(words p n).trans here, fun q m hq => (words q m).trans (elsewhere q m hq), fun q => ?_⟩
  unfold Chip.pageLoaded
  by_cases hqp : q = p
  · subst hqp
    rw [Chip.setPage_get_self, if_pos rfl]
  · rw [Chip.setPage_get_ne _ _ _ _ hqp, if_neg hqp, states]

/-! ## A write served under any grant (R8, R61, R72, R116, R117) -/

/-- The idle timer after a served-write report (R8, R72). -/
def GrantController.idleAfter (g : GrantController) : Owner → Nat
  | .window w =>
    if (g.state = .active ∨ g.state = .suspended) ∧ hasWin g.record.scope w = true then 15 * 2 ^ g.record.idleChoice
    else g.record.idleRemaining
  | .image | .record | .background => g.record.idleRemaining

theorem Chip.reportServed_idleAfter (c : Chip) (owner : Owner) :
    c.reportServed owner = { c with grant := { c.grant with record := { c.grant.record with
      idleRemaining := c.grant.idleAfter owner } } } := by
  rw [Chip.reportServed_eq]
  cases owner with
  | window w =>
    rw [Chip.reportServed_window_grant]
    unfold GrantController.idleAfter
    dsimp only
    split <;> rfl
  | image => rfl
  | record => rfl
  | background => rfl

/-- The count of clamps moves with a word that is stored other than intended, up to 65535 (R61). -/
theorem clampCount_eq (stored x : Word) (count : Nat) : (if stored = x then count else satInc count)
    = if stored ≠ x ∧ count < 65535 then count + 1 else count := by
  by_cases h : stored = x
  · simp [h]
  · simp [h, satInc]

/-- An OVERLAY WRITE as one change: the page word, the port, and the grant's clamp count and idle timer. -/
theorem Chip.serveOverlayWrite_eq (c : Chip) (y : CycleRecord) (limit : Option LimitNo) (r : Resolution) (p : PageNo)
    (dir : y.direction = .write) (page : r.page = some p) :
    let old := c.overlay.pages[p].word r.pageWord
    let x := y.merge old.value
    let stored := c.storedWord limit x old
    c.serveOverlayWrite y limit r =
      { c.setPage p (c.overlay.pages[p].setWord r.pageWord (c.writtenWord y limit old)) with
        bus := { c.bus with port := .done y none }
        grant := { c.grant with record := { c.grant.record with
          clamped :=
            if stored ≠ x ∧ c.grant.record.clamped < 65535 then c.grant.record.clamped + 1
            else c.grant.record.clamped
          idleRemaining := c.grant.idleAfter r.owner } } } := by
  intro old x stored
  unfold Chip.serveOverlayWrite
  rw [page]
  dsimp only
  rw [Chip.reportServed_idleAfter, Chip.storeOverlay_eq, ← clampCount_eq stored x]
  simp only [Chip.completeCycle, dir]
  rfl

/-! ## The obligation -/

/-- Settles O13: the loader's part by whether a served word is left, and at the page's last word by whether a write is held
on it. -/
theorem loaderReadLoadsItsWord : Obligations.LoaderReadLoadsItsWord := by
  intro s tr p rest hs up read port requestL queue n loaded goesOn
  let data : Word := s.memory.readWord tr.address
  have goesOn_eq (a : Addr) : s.chip.busGoesOn .L (some ⟨a, .read⟩) = goesOn a := rfl
  have along : s.chip.loaderRead data = Chip.loadAlong (p :: rest) (n + 1) (s.chip.loadOverlay p n data) :=
    s.chip.loaderRead_of_queue p rest data queue
  have opens (last : s.chip.servedAt p (n + 1) = none) :
      s.chip.loaderRead data = Chip.loadAlong rest 0 ((s.chip.pageLoaded p n data).serveHeld p) :=
    along.trans (Chip.loadAlong_of_last _ p rest (n + 1) last)
  refine ⟨fun i a next => ?_, fun last notLoading further => ?_, fun y limit r last alone held dir decided page => ?_⟩
  · -- a served word is left
    have made := along.trans (Chip.loadAlong_of_served _ p rest (n + 1) i a next)
    obtain ⟨here, elsewhere, states⟩ := s.chip.loadOverlay_pages p n data
    refine ⟨_, exec_loaderRead s tr _ hs up read port made rfl rfl, ?_, here, elsewhere, states, rfl, rfl, rfl, ?_⟩
    · exact State.changesOnly_of_chip _ s _ ((Chip.changesOnly_iff _ _ _).mpr (by simp [Chip.loadOverlay]))
    · exact (Chip.busAfter_endInternal_L _ _ _ requestL rfl).trans (goesOn_eq a)
  · -- the page opens
    have made := opens last
    rw [(s.chip.pageLoaded p n data).serveHeld_of_notLoading p notLoading] at made
    obtain ⟨here, elsewhere, states⟩ := s.chip.pageLoaded_pages p n data
    cases rest with
    | nil =>
      rw [Chip.loadAlong_nil] at made
      refine ⟨_, exec_loaderRead s tr _ hs up read port made rfl rfl, ?_, here, elsewhere, states, rfl, rfl, fun _ => ?_,
        nofun⟩
      · exact State.changesOnly_of_chip _ s _
          ((Chip.changesOnly_iff _ _ _).mpr (by simp [Chip.pageLoaded, Chip.loadOverlay]))
      · exact congrArg s.chip.busAfter (Chip.endInternal_L_of_none _ requestL)
    | cons q more =>
      obtain ⟨⟨i, a⟩, next⟩ := Option.isSome_iff_exists.mp (further q more rfl).2
      rw [(s.chip.pageLoaded p n data).loadAlong_of_served q more 0 i a next] at made
      refine ⟨_, exec_loaderRead s tr _ hs up read port made rfl rfl, ?_, here, elsewhere, states, rfl, rfl, nofun,
        fun q' more' j b same next' => ?_⟩
      · exact State.changesOnly_of_chip _ s _
          ((Chip.changesOnly_iff _ _ _).mpr (by simp [Chip.pageLoaded, Chip.loadOverlay]))
      · obtain ⟨rfl, rfl⟩ := List.cons.inj same
        obtain ⟨rfl, rfl⟩ := Prod.mk.inj (Option.some.inj (next.symm.trans next'))
        exact ⟨rfl, (Chip.busAfter_endInternal_L _ _ _ requestL rfl).trans (goesOn_eq a)⟩
  · -- the write held on the page is served
    intro old x stored
    subst alone
    let c : Chip := s.chip.pageLoaded p n data
    have made := opens last
    rw [Chip.serveHeld_of_held c p y _ limit held decided page rfl, c.serveOverlayWrite_eq y limit r p dir page,
      Chip.loadAlong_nil] at made
    obtain ⟨here, elsewhere, states⟩ := s.chip.pageLoaded_pages p n data
    have old_eq : c.overlay.pages[p].word r.pageWord = old := by
      by_cases hn : r.pageWord = n
      · rw [hn]
        exact here.trans (if_pos hn).symm
      · exact (elsewhere p r.pageWord fun h => hn (Prod.mk.inj h).2).trans (if_neg hn).symm
    have stored_eq : c.storedWord limit x old = stored := by
      cases limit <;> rfl
    have written_eq : c.writtenWord y limit old = ⟨stored, old.baseline, old.loaded, true, stored != x⟩ := by
      rw [← stored_eq]
      rfl
    obtain ⟨word, -, kept⟩ := c.setPage_writtenWord y limit p r.pageWord
    rw [old_eq] at made word kept
    refine ⟨_, exec_loaderRead s tr _ hs up read port made rfl rfl, ?_, word.trans written_eq,
      (kept p).trans ((states p).trans (if_pos rfl)), rfl, ?_, ?_⟩
    · exact State.changesOnly_of_chip _ s _
        ((Chip.changesOnly_iff _ _ _).mpr (by simp [c, Chip.pageLoaded, Chip.loadOverlay]))
    · rw [← stored_eq]
      cases r.owner <;> rfl
    · exact congrArg s.chip.busAfter (Chip.endInternal_L_of_none _ requestL)

end Sys2Proof.Machine
end

section
/-! Passes as they start, go on and start over, and REBASE (R160, R162, R163, R165–R167, R169, R172, R173). -/

namespace Sys2Proof.Machine

/-! ## A pass goes on (R162, R163, R165) -/

theorem Chip.sumsWaiting_iff (c : Chip) : c.sumsWaiting = true ↔ c.scanner.queue ≠ [] ∨ c.scanner.sum ≠ none := by
  simp [Chip.sumsWaiting, Option.isSome_iff_ne_none]

/-- A window in the rewritten-window set is skipped (R163). -/
theorem Chip.skips_of_rewritten (c : Chip) (w : Win) (h : hasWin c.grant.record.rewritten w = true) :
    c.skips w = true := by
  unfold Chip.skips
  rw [h, Bool.true_or]

theorem Chip.passComplete_eq (c : Chip) : c.passComplete = { c with
    scanner := { c.scanner with
      pass := none
      passCount := c.scanner.passCount + 1
      cycleChecked := c.scanner.cycleChecked || decide (c.supply.power = .active) }
    link := { c.link with notices := c.link.notices ||| 0x0004#16 } } := rfl

/-- Before its next window a pass waits for the sum requests (R162). -/
theorem Chip.passOn_of_sums (c : Chip) (w : Win) (ws : List Win) (h : c.sumsWaiting = true) :
    Chip.passOn (w :: ws) c = { c with scanner.pass := some ⟨w :: ws, .between⟩ } := by
  rw [Chip.passOn, if_pos h]

theorem Chip.passOn_of_skipped (c : Chip) (w : Win) (ws : List Win) (h : c.sumsWaiting = false)
    (skips : c.skips w = true) : Chip.passOn (w :: ws) c = Chip.passOn ws (c.enterResult w .skipped none) := by
  rw [Chip.passOn, if_neg (by simp [h]), if_pos skips]

/-- Otherwise it starts the window's sum (R160, R162). -/
theorem Chip.passOn_of_first (c : Chip) (w : Win) (ws : List Win) (i : Nat) (h : c.sumsWaiting = false)
    (skips : c.skips w = false) (first : c.map.ownedAt w 0 = some i) :
    Chip.passOn (w :: ws) c = { c with
      scanner := { c.scanner with pass := some ⟨ws, .summing w⟩, sum := some ⟨w, i, 1#16, 0#16, .pass⟩ }
      bus := { c.bus with requestS := some ⟨c.map.wordOf w i, .read⟩ } } := by
  rw [Chip.passOn, if_neg (by simp [h]), if_neg (by simp [skips]), first]
  rfl

/-- A pass that waited between two windows goes on with the windows left (R162). -/
theorem Chip.resumePass_of_between (c : Chip) (left : List Win) (h : c.sumsWaiting = false)
    (pass : c.scanner.pass = some ⟨left, .between⟩) : c.resumePass = Chip.passOn left c := by
  unfold Chip.resumePass Chip.passWaited
  rw [if_neg (by simp [h]), pass]
  exact if_pos rfl

/-! ## RESCAN (R167) -/

/-- The pass's sum is discarded and its read given up, where none of S's is in flight. -/
theorem Chip.dropPassSum_of_pass (c : Chip) (v : Win) (n : Nat) (a b : Word)
    (sum : c.scanner.sum = some ⟨v, n, a, b, .pass⟩) (port : ∀ tr live, c.bus.memPort ≠ .busy .S tr live) :
    c.dropPassSum = { c with scanner.sum := none, bus.requestS := none } := by
  have kept : c.bus.memPort.disown .S = c.bus.memPort := by
    cases h : c.bus.memPort with
    | busy who tr live => exact if_neg fun hw : who = .S => port tr live (hw ▸ h)
    | free => rfl
    | parked => rfl
  unfold Chip.dropPassSum
  rw [sum]
  unfold Chip.giveUp
  dsimp only [BusPath.setRequest]
  rw [kept]

/-- In ACTIVE, with no pass running or with one that sums a window, RESCAN starts a pass with the scan group's first
window. -/
theorem Chip.rescan_of_first (c : Chip) (w : Win) (ws : List Win) (i : Nat) (power : c.supply.power = .active)
    (queue : c.scanner.queue = []) (group : c.map.scanGroup = w :: ws) (skips : c.skips w = false)
    (first : c.map.ownedAt w 0 = some i)
    (running : (c.scanner.pass = none ∧ c.scanner.sum = none)
      ∨ ∃ left v n a b, c.scanner.pass = some ⟨left, .summing v⟩ ∧ c.scanner.sum = some ⟨v, n, a, b, .pass⟩)
    (port : ∀ tr live, c.bus.memPort ≠ .busy .S tr live) :
    c.rescan = ({ c with
      scanner := { c.scanner with
        timer := 0, pass := some ⟨ws, .summing w⟩, sum := some ⟨w, i, 1#16, 0#16, .pass⟩ }
      bus := { c.bus with requestS := some ⟨c.map.wordOf w i, .read⟩ } }, .ok) := by
  unfold Chip.rescan
  rw [if_pos power]
  rcases running with ⟨pass, sum⟩ | ⟨left, v, n, a, b, pass, sum⟩
  · rw [pass]
    exact congrArg (·, ResultCode.ok) (c.startPass_of_first w ws i group queue sum skips first)
  · rw [pass]
    dsimp only [Chip.restartPass]
    rw [c.dropPassSum_of_pass v n a b sum port]
    let d : Chip := { c with scanner.sum := none, bus.requestS := none }
    exact congrArg (·, ResultCode.ok) (d.startPass_of_first w ws i group queue rfl skips first)

/-! ## PassesStartGoOnAndStartOver, by the command -/

/-- The periodic row stands while the timer is at the period (R166). -/
theorem Chip.scanDue_of_active (c : Chip) (power : c.supply.power = .active) (period : c.params.scanPeriod ≠ 0)
    (timer : 60 * c.params.scanPeriod ≤ c.scanner.timer) : c.scanDue = true := by
  have reached : c.params.scanPeriod * 60 ≤ c.scanner.timer := by omega
  simp [Chip.scanDue, Chip.timerRuns, power, period, reached]

/-- Settles O51: the periodic expiry, RESCAN, and the resumption of a pass, each by what it finds the scanner at. -/
theorem passesStartGoOnAndStartOver : Obligations.PassesStartGoOnAndStartOver := by
  refine ⟨fun s hs power period timer => ?_, fun s filler snap hs hl => ⟨fun power => ?_, ?_⟩,
    fun s w ws hs pass => ⟨fun sums => ?_, ?_, ?_⟩⟩
  · -- the periodic expiry
    have due := s.chip.scanDue_of_active power period timer
    refine ⟨fun running => ?_, fun w ws i idle group queue sum skips first => ?_⟩
    · obtain ⟨t, he, frame, ht⟩ := exec_of_frame .periodicScanExpiry _ s _ [.scanner] rfl hs
        (s.chip.periodicExpiry_of_running due running) ((Chip.changesOnly_iff _ _ _).mpr (by simp)) (by simp) (by simp)
      exact ⟨t, he, frame, by rw [ht]⟩
    · have started := (s.chip.periodicExpiry_of_idle due idle).trans
        (s.chip.startPass_of_first w ws i group queue sum skips first)
      exact ⟨_, exec_of_params .periodicScanExpiry _ s _ rfl hs.1 started rfl hs.2.2,
        State.changesOnly_of_chip _ s _ ((Chip.changesOnly_iff _ _ _).mpr (by simp)), rfl, rfl⟩
  · -- RESCAN outside ACTIVE
    let c := s.chip.heard snap (0 + 3 + filler)
    obtain ⟨t, he, frame, ht⟩ := exec_of_request (.rescan filler) 0 filler Chip.ownRescan s snap _ [.link] rfl hs hl
      (congrArg (answerWith 0x07#8) (show c.rescan = (c, .notReady) from if_neg power))
      ((Chip.changesOnly_iff _ _ _).mpr (by simp [answerWith, Chip.answer, c, Chip.heard])) (by simp) (by simp)
    exact ⟨t, he, frame, by rw [ht]; simp [answerWith, Chip.answer, c, Chip.heard, Link.answered]⟩
  · -- RESCAN in ACTIVE
    intro w ws i power queue group skips first running port
    let c := s.chip.heard snap (0 + 3 + filler)
    have owned := congrArg (answerWith 0x07#8) (c.rescan_of_first w ws i power queue group skips first running port)
    refine ⟨_, exec_of_params (.rescan filler) _ s _ rfl hs.1
      ((s.chip.request_of_listening snap 0 filler Chip.ownRescan hl).trans owned) rfl hs.2.2,
      State.changesOnly_of_chip _ s _ ((Chip.changesOnly_iff _ _ _).mpr ?_), rfl, rfl, ?_⟩
    · simp [answerWith, Chip.answer, c, Chip.heard]
    · simp [answerWith, Chip.answer, c, Chip.heard, Link.answered]
  · -- sum requests first
    exact exec_of_unchanged .passResume _ s rfl hs (if_pos ((s.chip.sumsWaiting_iff).mpr sums))
  all_goals
    have free (queue : s.chip.scanner.queue = []) (sum : s.chip.scanner.sum = none) : s.chip.sumsWaiting = false := by
      simp [Chip.sumsWaiting, queue, sum]
  · -- the next window is summed
    intro i queue sum skips first
    have resumed := (s.chip.resumePass_of_between _ (free queue sum) pass).trans
      (s.chip.passOn_of_first w ws i (free queue sum) skips first)
    exact ⟨_, exec_of_params .passResume _ s _ rfl hs.1 resumed rfl hs.2.2,
      State.changesOnly_of_chip _ s _ ((Chip.changesOnly_iff _ _ _).mpr (by simp)), rfl, rfl⟩
  · -- the last window is skipped
    intro queue sum rewritten last
    subst last
    have resumed := (s.chip.resumePass_of_between _ (free queue sum) pass).trans
      (s.chip.passOn_of_skipped w [] (free queue sum) (s.chip.skips_of_rewritten w rewritten))
    rw [Chip.passOn_nil, Chip.passComplete_eq] at resumed
    obtain ⟨t, he, frame, ht⟩ := exec_of_frame .passResume _ s _ [.scanner, .link] rfl hs resumed
      ((Chip.changesOnly_iff _ _ _).mpr (by simp)) (by simp) (by simp)
    exact ⟨t, he, frame, by rw [ht]; rfl, by rw [ht]; rfl⟩

/-! ## REBASE (R172, R173) -/

theorem Chip.rebaseRefusal_eq (c : Chip) : c.rebaseRefusal =
    if ¬ (c.grant.state = .active ∨ c.grant.state = .suspended) then some .noGrant
    else if c.grant.record.level ≠ some .factory then some .level
    else if c.grant.state = .suspended then some .motion
    else if c.scanner.rebase ≠ none then some .busy
    else none := by
  simp only [Chip.rebaseRefusal, Chip.rebaseInFlight, ← GrantState.inForce_iff, Option.isSome_iff_ne_none,
    Bool.not_eq_true', Bool.not_eq_true]

theorem Chip.takeRebase_of_refusal (c : Chip) (code : ResultCode) (h : c.rebaseRefusal = some code) :
    c.takeRebase = (c, code) := by
  unfold Chip.takeRebase
  rw [h]

theorem Chip.takeRebase_of_passed (c : Chip) (state : c.grant.state = .active)
    (level : c.grant.record.level = some .factory) (rebase : c.scanner.rebase = none) :
    c.takeRebase = (c.rebaseNext (winsOf c.scanner.tamper), .ok) := by
  have passed : c.rebaseRefusal = none := by rw [c.rebaseRefusal_eq]; simp [state, level, rebase]
  unfold Chip.takeRebase
  rw [passed]

/-- With no window left REBASE is done (R173). -/
theorem Chip.rebaseNext_nil (c : Chip) : c.rebaseNext [] = { c with
    scanner := { c.scanner with rebase := none }
    link := { c.link with notices := c.link.notices ||| 0x0010#16 } } := rfl

/-- With windows left the first one's sum is asked for (R169, R173). -/
theorem Chip.rebaseNext_cons (c : Chip) (w : Win) (ws : List Win) : c.rebaseNext (w :: ws) = { c with
    scanner := { c.scanner with rebase := some (w :: ws), queue := mergeSum w .rebase c.scanner.queue } } := rfl

/-- Settles O52, by the first failing check and, with none, by whether the tamper set is empty. -/
theorem rebaseAsksForTheTamperSet : Obligations.RebaseAsksForTheTamperSet := by
  intro s filler snap hs hl
  let c := s.chip.heard snap (0 + 3 + filler)
  refine ⟨fun code refused => ?_, fun state level rebase => ⟨fun none => ?_, fun w ws wins => ?_⟩⟩
  · have refusal : c.rebaseRefusal = some code := c.rebaseRefusal_eq.trans refused
    obtain ⟨t, he, frame, ht⟩ := exec_of_request (.rebase filler) 0 filler Chip.ownRebase s snap _ [.link] rfl hs hl
      (congrArg (answerWith 0x08#8) (c.takeRebase_of_refusal code refusal))
      ((Chip.changesOnly_iff _ _ _).mpr (by simp [answerWith, Chip.answer, c, Chip.heard])) (by simp) (by simp)
    exact ⟨t, he, frame, by rw [ht]; simp [answerWith, Chip.answer, c, Chip.heard, Link.answered]⟩
  all_goals have taken := c.takeRebase_of_passed state level rebase
  · have wins : winsOf c.scanner.tamper = [] := (winsOf_eq_nil _).mpr none
    rw [wins, c.rebaseNext_nil] at taken
    obtain ⟨t, he, frame, ht⟩ := exec_of_request (.rebase filler) 0 filler Chip.ownRebase s snap _ [.link] rfl hs hl
      (congrArg (answerWith 0x08#8) taken)
      ((Chip.changesOnly_iff _ _ _).mpr (by simp [answerWith, Chip.answer, c, Chip.heard, ← rebase])) (by simp)
      (by simp)
    exact ⟨t, he, frame, by rw [ht]; simp [answerWith, Chip.answer, c, Chip.heard, Link.answered, Link.risen]⟩
  · rw [show winsOf c.scanner.tamper = w :: ws from wins, c.rebaseNext_cons] at taken
    obtain ⟨t, he, frame, ht⟩ := exec_of_request (.rebase filler) 0 filler Chip.ownRebase s snap _ [.scanner, .link] rfl
      hs hl (congrArg (answerWith 0x08#8) taken)
      ((Chip.changesOnly_iff _ _ _).mpr (by simp [answerWith, Chip.answer, c, Chip.heard])) (by simp) (by simp)
    refine ⟨t, he, frame, ?_⟩
    rw [ht]
    exact ⟨rfl, mergeSum_joins w .rebase s.chip.scanner.queue,
      by simp [answerWith, Chip.answer, c, Chip.heard, Link.answered]⟩

end Sys2Proof.Machine
end

section
/-! A word of a sum, and the judgement that a pass's last word brings (R18, R75, R76, R136, R160–R165, R171). -/

namespace Sys2Proof.Machine

/-! ## The memory port after a read of S (R17, R18) -/

/-- The next read of S goes on in the burst, or stands for the arbitration; without one the port becomes FREE (R18). -/
theorem Chip.busAfter_endInternal_S (c d : Chip) (x : Option Transfer) (idle : c.bus.requestS = none)
    (hd : d.bus = { c.bus with requestS := x }) : c.busAfter (d.endInternal .S).bus = c.busGoesOn .S x := by
  unfold Chip.endInternal BusPath.request Chip.busGoesOn
  rw [hd]
  cases x with
  | none =>
    dsimp only
    rw [← idle]
  | some x =>
    dsimp only
    by_cases h : c.bus.requestP = none ∧ c.bus.burst < 8
    · rw [if_pos h, if_pos (show c.bus.requestP = none ∧ c.bus.burst < Config.burstLimit from h),
        Chip.busAfter_of_settled _ _ fun free => by cases free]
      simp only [BusPath.setRequest, idle]
    · rw [if_neg h, if_neg (show ¬ (c.bus.requestP = none ∧ c.bus.burst < Config.burstLimit) from h)]
      rfl

/-- The completion of a read of S, by what the scanner makes of the part. -/
theorem exec_sumRead (s : State) (tr : Transfer) (d : Chip) (hs : s.supplied = true) (up : s.chip.staysUp)
    (read : tr.action = .read) (port : s.chip.bus.memPort = .busy .S tr true)
    (hd : s.chip.sumRead (s.memory.readWord tr.address) = d) (params : d.params = s.chip.params)
    (supply : d.supply = s.chip.supply) :
    exec (.memoryTransferComplete none) s
      = .next { s with chip := { d with bus := s.chip.busAfter (d.endInternal .S).bus } } := by
  obtain ⟨a, action⟩ := tr
  obtain rfl : action = .read := read
  have done : s.chip.transferDone .S true (s.memory.complete ⟨a, .read⟩ none).2
      = { d with bus := (d.endInternal .S).bus } := by
    rw [← Chip.endInternal_eq, ← hd]
    rfl
  refine exec_of_transferDone s .S _ true _ hs port done params ?_
  unfold Chip.staysUp
  dsimp only
  rwa [supply]

/-! ## A word of a sum (R160, R163) -/

/-- With an owned word left its read is presented. -/
theorem Chip.sumRead_of_next (c : Chip) (r : SumRun) (i : Nat) (data : Word) (running : c.scanner.sum = some r)
    (next : c.map.ownedAt r.window (r.word + 1) = some i) : c.sumRead data = { c with
      scanner := { c.scanner with sum := some ⟨r.window, i, r.a + data, r.b + (r.a + data), r.purpose⟩ }
      bus := { c.bus with requestS := some ⟨c.map.wordOf r.window i, .read⟩ } } := by
  unfold Chip.sumRead
  rw [running]
  dsimp only
  rw [next]
  rfl

/-- The part with its sum ended, as it is judged. -/
def Chip.judging (c : Chip) : Chip := { c with scanner.sum := none }

/-- After the last word of a pass's window the window is judged (R163). -/
theorem Chip.sumRead_of_last (c : Chip) (r : SumRun) (data : Word) (running : c.scanner.sum = some r)
    (last : c.map.ownedAt r.window (r.word + 1) = none) (purpose : r.purpose = .pass) :
    c.sumRead data = c.judging.passSum r.window ((r.b + (r.a + data)) ++ (r.a + data)) := by
  unfold Chip.sumRead
  rw [running]
  dsimp only
  rw [last]
  unfold Chip.sumComplete SumRun.total SumRun.add
  dsimp only
  rw [purpose]
  rfl

/-- A judgement that has ended lets the pass go on (R163). -/
theorem Chip.passSum_of_ended (c d : Chip) (w : Win) (found : DWord) (left : List Win) (phase : PassPhase)
    (pass : c.scanner.pass = some ⟨left, phase⟩) (judged : c.judge w found = (d, none)) :
    c.passSum w found = Chip.passOn left d := by
  unfold Chip.passSum
  rw [pass]
  dsimp only
  rw [judged]

/-- The pass waits with a judgement that has not ended (R164, R171). -/
theorem Chip.passSum_of_waiting (c d : Chip) (w : Win) (found : DWord) (left : List Win) (phase wait : PassPhase)
    (pass : c.scanner.pass = some ⟨left, phase⟩) (judged : c.judge w found = (d, some wait)) :
    c.passSum w found = { d with scanner.pass := some ⟨left, wait⟩ } := by
  unfold Chip.passSum
  rw [pass]
  dsimp only
  rw [judged]

/-! ## The pass after a judgement (R162, R165) -/

/-- The scanner `x` once its pass goes on with these windows left: complete, at the next window's first word, or waiting
for the sum requests. -/
def Chip.passScanner (c : Chip) (x : Scanner) : List Win → Scanner
  | [] => { x with
      pass := none
      passCount := x.passCount + 1
      cycleChecked := x.cycleChecked || decide (c.supply.power = .active) }
  | v :: vs =>
    if x.queue = [] then
      { x with pass := some ⟨vs, .summing v⟩, sum := some ⟨v, (c.map.ownedAt v 0).getD 0, 1#16, 0#16, .pass⟩ }
    else { x with pass := some ⟨v :: vs, .between⟩ }

/-- The read that the scanner presents as its pass goes on. -/
def Chip.passRead (c : Chip) : List Win → Option Transfer
  | [] => none
  | v :: _ =>
    if c.scanner.queue = [] then some ⟨c.map.wordOf v ((c.map.ownedAt v 0).getD 0), .read⟩ else none

theorem Chip.passOn_eq (c : Chip) (left : List Win) (sum : c.scanner.sum = none) (idle : c.bus.requestS = none)
    (next : ∀ v vs, left = v :: vs → c.scanner.queue = [] →
      c.skips v = false ∧ (c.map.ownedAt v 0).isSome = true) :
    Chip.passOn left c = { c with
      scanner := c.passScanner c.scanner left
      link := { c.link with notices := if left = [] then c.link.notices ||| 0x0004#16 else c.link.notices }
      bus := { c.bus with requestS := c.passRead left } } := by
  cases left with
  | nil =>
    rw [Chip.passOn_nil, Chip.passComplete_eq]
    unfold Chip.passScanner Chip.passRead
    rw [if_pos rfl, ← idle]
  | cons v vs =>
    unfold Chip.passScanner Chip.passRead
    dsimp only
    rw [if_neg (List.cons_ne_nil v vs)]
    by_cases queue : c.scanner.queue = []
    · obtain ⟨skips, served⟩ := next v vs rfl queue
      obtain ⟨i, first⟩ := Option.isSome_iff_exists.mp served
      rw [c.passOn_of_first v vs i (by simp [Chip.sumsWaiting, queue, sum]) skips first, if_pos queue, if_pos queue,
        first, Option.getD_some]
    · rw [c.passOn_of_sums v vs (c.sumsWaiting_iff.mpr (.inl queue)), if_neg queue, if_neg queue, ← idle]

/-! ## The command at the last word of a pass's window -/

/-- The read in flight is that of the last owned word of the window that the pass sums, to the sum `sum`. -/
structure LastWord (s : State) (tr : Transfer) (w : Win) (left : List Win) (sum : DWord) : Prop where
  supplied : s.supplied = true
  up : s.chip.staysUp
  read : tr.action = .read
  port : s.chip.bus.memPort = .busy .S tr true
  requestS : s.chip.bus.requestS = none
  summed : s.chip.sumRead (s.memory.readWord tr.address) = s.chip.judging.passSum w sum
  pass : s.chip.scanner.pass = some ⟨left, .summing w⟩
  next : ∀ v vs, left = v :: vs → s.chip.scanner.queue = [] →
    s.chip.skips v = false ∧ (s.chip.map.ownedAt v 0).isSome = true

/-- The outcome where the judgement has ended, from the part `d` that it leaves. -/
theorem exec_lastWord_ended (s : State) (tr : Transfer) (w : Win) (left : List Win) (sum : DWord)
    (h : LastWord s tr w left sum) (d : Chip) (x : Scanner) (l : Link)
    (judged : s.chip.judging.judge w sum = (d, none))
    (beside : ({ s.chip with scanner := x, link := l } : Chip).Alongside d) (idle : x.sum = none)
    (queue : x.queue = s.chip.scanner.queue) :
    exec (.memoryTransferComplete none) s = .next { s with chip := { d with
      scanner := s.chip.passScanner x left
      link := { l with notices := if left = [] then l.notices ||| 0x0004#16 else l.notices }
      bus := ({ s.chip with bus := d.bus } : Chip).busGoesOn .S (s.chip.passRead left) } } := by
  have requestS : d.bus.requestS = none := beside.requestS.trans h.requestS
  have scanner : d.scanner = x := beside.scanner
  have on := d.passOn_eq left (by rw [scanner, idle]) requestS fun v vs hv hq => by
    rw [scanner, queue] at hq
    obtain ⟨skips, served⟩ := h.next v vs hv hq
    exact ⟨beside.skips v skips, by rw [beside.map]; exact served⟩
  have sameScanner : d.passScanner d.scanner left = s.chip.passScanner x left := by
    unfold Chip.passScanner
    rw [scanner, beside.map, beside.supply]
  have sameRead : d.passRead left = s.chip.passRead left := by
    unfold Chip.passRead
    rw [scanner, beside.map, queue]
  rw [sameScanner, sameRead, show d.link = l from beside.link] at on
  rw [exec_sumRead s tr _ h.supplied h.up h.read h.port
    ((h.summed.trans (Chip.passSum_of_ended _ d w sum left _ h.pass judged)).trans on) beside.params beside.supply]
  have bus := ({ s.chip with bus := d.bus } : Chip).busAfter_endInternal_S _ (s.chip.passRead left) requestS
    (congrArg Chip.bus on)
  rw [on] at bus
  rw [← bus]
  rfl

/-- The outcome where the pass waits with the judgement. -/
theorem exec_lastWord_waiting (s : State) (tr : Transfer) (w : Win) (left : List Win) (sum : DWord)
    (h : LastWord s tr w left sum) (d : Chip) (wait : PassPhase)
    (judged : s.chip.judging.judge w sum = (d, some wait))
    (bus : d.bus = s.chip.bus) (params : d.params = s.chip.params) (supply : d.supply = s.chip.supply) :
    exec (.memoryTransferComplete none) s = .next { s with chip := { d with
      scanner := { d.scanner with pass := some ⟨left, wait⟩ }
      bus := s.chip.busAfter { s.chip.bus with memPort := .free } } } := by
  let e : Chip := { d with scanner := { d.scanner with pass := some ⟨left, wait⟩ } }
  have outcome := exec_sumRead s tr e h.supplied h.up h.read h.port
    (h.summed.trans (Chip.passSum_of_waiting _ d w sum left _ wait h.pass judged)) params supply
  rw [s.chip.busAfter_endInternal_S e none h.requestS (bus.trans (by rw [← h.requestS]))] at outcome
  exact outcome

/-! ## Tamper (R75, R76, R171) -/

/-- The skip condition reads the map, the pages and the rewritten windows alone. -/
theorem Chip.skips_congr (c d : Chip) (w : Win) (map : d.map = c.map) (overlay : d.overlay = c.overlay)
    (rewritten : d.grant.record.rewritten = c.grant.record.rewritten) : d.skips w = c.skips w := by
  unfold Chip.skips
  rw [map, overlay, rewritten]

/-- A window without a mark whose sum is not its reference differs from it (R163). -/
theorem Chip.judge_of_differs (c : Chip) (w : Win) (found : DWord) (skips : c.skips w = false)
    (mark : hasWin c.scanner.marks w = false) (differs : c.scanner.references[w] ≠ some found) :
    c.judge w found
      = c.judgeDiffers w (if c.scanner.references[w] = none then .unknownRef else .mismatch) found := by
  unfold Chip.judge
  rw [if_neg (by simp [skips]), if_neg (by simp [mark])]
  cases reference : c.scanner.references[w] with
  | none => rfl
  | some r =>
    dsimp only
    rw [if_neg fun same : found = r => differs (by rw [reference, same]), if_neg (Option.some_ne_none r)]

/-- On a window of the tamper set nothing more is found (R171). -/
theorem Chip.judgeDiffers_of_known (c : Chip) (w : Win) (result : ScanResult) (found : DWord)
    (known : hasWin c.scanner.tamper w = true) :
    c.judgeDiffers w result found = (c.enterResult w result (some found), none) := if_pos known

/-- On any other tamper is found, and the judgement ends once the TAMPER request has joined (R171). -/
theorem Chip.judgeDiffers_of_new (c d : Chip) (w : Win) (result : ScanResult) (found : DWord) (joined : Bool)
    (new : hasWin c.scanner.tamper w = false)
    (tamper : (c.enterResult w result (some found)).tamperFound w found = (d, joined)) :
    c.judgeDiffers w result found = (d, if joined then none else some (.joining c.scanner.tickets)) := by
  unfold Chip.judgeDiffers
  dsimp only
  rw [if_neg (by simp [new]), tamper]

/-- An adoption asks for its WINDOW_SUM (R164). -/
theorem Chip.adopt_eq (c : Chip) (w : Win) (found : DWord) : c.adopt w found = { c with
    scanner := { c.scanner with tickets := c.scanner.tickets + 1 }
    engine := c.engine.asked ⟨.windowSum w .interruptedReflash found, .scanner, false, c.scanner.tickets⟩ } :=
  Chip.requestAppend_asked _ _

/-- The TAMPER request for a window. -/
def Chip.tamperAppend (c : Chip) (w : Win) (found : DWord) : AppendRequest :=
  ⟨.tamper w c.scanner.references[w] found, .scanner, false, c.scanner.tickets⟩

/-- The scanner with a window in the tamper set, and the ticket of its TAMPER request given out (R171). -/
def Scanner.tampered (x : Scanner) (w : Win) : Scanner :=
  { x with tamper := x.tamper ||| (1#24 <<< w.val), tickets := x.tickets + 1 }

/-- The part with a window in the tamper set and TAMPER_FOUND set, before the TAMPER request and the tamper cause
(R171). -/
def Chip.tampered (c : Chip) (w : Win) : Chip :=
  { c with
    scanner := c.scanner.tampered w
    link := { c.link with notices := c.link.notices ||| 0x0008#16 }
    draws := c.draws + 1 }

/-- Of the TAMPER request and the tamper cause either may come first (R136). -/
theorem Chip.tamperFound_eq (c : Chip) (w : Win) (found : DWord) : c.tamperFound w found =
    if Config.laterFirst c.draws then
      ((c.tampered w).tamperCause.requestAppend (c.tamperAppend w found), (c.tampered w).tamperCause.queueHasPlace)
    else (((c.tampered w).requestAppend (c.tamperAppend w found)).tamperCause, (c.tampered w).queueHasPlace) := rfl

/-- The Grant Controller after a tamper cause that ends no grant: at most the pending end reason of one in OPENING below
FACTORY changes (R67, R75). -/
def GrantController.tamperPending (g : GrantController) : GrantController :=
  if g.state = .opening ∧ g.record.level ≠ some .factory ∧ g.record.pendingEnd = none then
    { g with record := { g.record with pendingEnd := some .tamper } }
  else g

theorem GrantController.tamperPending_rewritten (g : GrantController) :
    g.tamperPending.record.rewritten = g.record.rewritten := by
  unfold GrantController.tamperPending
  split <;> rfl

theorem Chip.tamperCause_of_goesOn (c : Chip)
    (h : ¬ ((c.grant.state = .active ∨ c.grant.state = .suspended) ∧ c.grant.record.level ≠ some .factory)) :
    c.tamperCause = { c with grant := c.grant.tamperPending } := by
  unfold Chip.tamperCause GrantController.tamperPending
  by_cases factory : c.grant.record.level = some .factory
  · rw [if_pos factory, if_neg fun opening => opening.2.1 factory]
  · rw [if_neg factory, c.endCause_of_not_inForce .tamper fun inForce => h ⟨inForce, factory⟩]
    simp [factory]

/-- Where no grant ends, the order of the two makes no difference. -/
theorem Chip.tamperFound_of_goesOn (c : Chip) (w : Win) (found : DWord)
    (h : ¬ ((c.grant.state = .active ∨ c.grant.state = .suspended) ∧ c.grant.record.level ≠ some .factory)) :
    c.tamperFound w found = ({ c.tampered w with
      grant := c.grant.tamperPending, engine := c.engine.asked (c.tamperAppend w found) }, c.queueHasPlace) := by
  have cause (d : Chip) (hd : d.grant = c.grant) : d.tamperCause = { d with grant := c.grant.tamperPending } := by
    rw [d.tamperCause_of_goesOn (by rwa [hd]), hd]
  rw [Chip.tamperFound_eq, Chip.requestAppend_asked, Chip.requestAppend_asked, cause (c.tampered w) rfl,
    cause { c.tampered w with engine := _ } rfl]
  split <;> rfl

/-- The tamper cause ends a grant in force below FACTORY (R75). -/
theorem Chip.tamperCause_of_ends (c : Chip) (inForce : c.grant.state = .active ∨ c.grant.state = .suspended)
    (below : c.grant.record.level ≠ some .factory) : c.tamperCause = c.beginEnding .tamper :=
  (if_neg below).trans (c.endCause_of_inForce .tamper inForce)

/-- The Bus Path once a grant in force has entered ENDING while the loader has no transfer in flight: with no commit in
flight the loader's request is withdrawn, and a write held for PAGE LOADING completes as a DROP (R10, R77, R114). -/
def Chip.busEnded (c : Chip) : BusPath :=
  if c.engine.commit = none then
    { c.bus with
      requestL := none
      port := match c.bus.port with
        | .held y .pageLoading => .done y none
        | port => port }
  else c.bus

theorem Chip.endedBy_bus (c t : Chip) (reason : EndReason) (h : c.endedBy reason t)
    (loader : ∀ tr live, c.bus.memPort ≠ .busy .L tr live)
    (held : ∀ y, c.bus.port = .held y .pageLoading → y.direction = .write) : t.bus = c.busEnded := by
  obtain ⟨-, -, -, waits, closes⟩ := h
  unfold Chip.busEnded
  by_cases commit : c.engine.commit = none
  · obtain ⟨bus, free, dropped⟩ := closes commit
    have memPort : (match c.bus.memPort with
        | .busy .L tr _ => .busy .L tr false
        | m => m) = c.bus.memPort := by
      split
      · next tr live busy => exact absurd busy (loader tr live)
      · rfl
    have port : t.bus.port = match c.bus.port with
        | .held y .pageLoading => .done y none
        | port => port := by
      split
      · next y hy => exact dropped y hy (held y hy)
      · next other => exact free other
    rw [if_pos commit]
    exact bus.trans (congrArg₂ (fun m p => { c.bus with requestL := none, memPort := m, port := p }) memPort port)
  · rw [if_neg commit, waits commit]

/-- The GRANT_END request of a grant that tamper has ended with no rewritten window (R79). -/
def Chip.tamperClosing (c : Chip) : AppendRequest :=
  let g : GrantRecord := c.grant.record
  ⟨.grantEnd .tamper g.workshop g.elapsed g.commitCount 0#24 g.clamped g.beginSeq g.timeStamp, .grant, false, 0⟩

/-- `d` is the part `c` after tamper on a window has ended its grant in force, and the TAMPER request `x` has joined. -/
structure Chip.TamperEnds (c d : Chip) (w : Win) (x : AppendRequest) : Prop where
  beside : (c.tampered w).Alongside d
  frame : c.changesOnly [.bus, .engine, .scanner, .link, .grant, .overlay, .draws] d
  grant : d.grant = c.grantEnded .tamper
  overlay : c.overlayEnded d.overlay
  closing : c.engine.commit = none → c.grant.record.rewritten = 0#24 →
    d.engine = { c.engine with queue := c.engine.queue ++ [x, c.tamperClosing] }
      ∨ d.engine = { c.engine with queue := c.engine.queue ++ [c.tamperClosing, x] }
  later : c.engine.commit ≠ none ∨ c.grant.record.rewritten ≠ 0#24 →
    d.engine = { c.engine with queue := c.engine.queue ++ [x] }
  bus : d.bus = c.busEnded

/-- Whatever the two requests leave of the Record Engine, the rest follows from the entry to ENDING. -/
theorem Chip.TamperEnds.of_engine (c : Chip) (w : Win) (x : AppendRequest) (before after : RecordEngine)
    (commit : before.commit = c.engine.commit) (loader : ∀ tr live, c.bus.memPort ≠ .busy .L tr live)
    (held : ∀ y, c.bus.port = .held y .pageLoading → y.direction = .write)
    (closing : c.engine.commit = none → c.grant.record.rewritten = 0#24 →
      after = { c.engine with queue := c.engine.queue ++ [x, c.tamperClosing] }
        ∨ after = { c.engine with queue := c.engine.queue ++ [c.tamperClosing, x] })
    (later : c.engine.commit ≠ none ∨ c.grant.record.rewritten ≠ 0#24 →
      after = { c.engine with queue := c.engine.queue ++ [x] }) :
    c.TamperEnds { ({ c.tampered w with engine := before } : Chip).beginEnding .tamper with engine := after } w x := by
  let b : Chip := { c.tampered w with engine := before }
  have ended := b.beginEnding_endedBy .tamper
  have bus := Chip.endedBy_bus b _ .tamper ended loader held
  have frame := (Chip.changesOnly_iff _ _ _).mp (b.beginEnding_frame .tamper)
  simp only [List.mem_cons, reduceCtorEq, List.not_mem_nil, or_false, false_or, true_or, or_true, true_and] at frame
  obtain ⟨pins, map, params, monitor, adu, -, supply, -, -⟩ := frame
  obtain ⟨grant, overlay, -, -, -⟩ := ended
  obtain ⟨scanner, link, -, -, -, requestS, skips⟩ := Chip.Alongside.beginEnding b .tamper
  refine ⟨⟨scanner, link, map, params, supply, requestS, skips⟩, (Chip.changesOnly_iff _ _ _).mpr ?_, ?_, ?_, closing,
    later, ?_⟩
  · simp only [List.mem_cons, reduceCtorEq, List.not_mem_nil, or_false, false_or, true_or, or_true, true_and, and_true]
    exact ⟨pins, map, params, monitor, adu, supply⟩
  · refine Eq.trans grant ?_
    unfold Chip.grantEnded
    rw [show b.engine.commit = c.engine.commit from commit]
    rfl
  · unfold Chip.overlayEnded at overlay ⊢
    rwa [show b.engine.commit = c.engine.commit from commit] at overlay
  · refine Eq.trans bus ?_
    unfold Chip.busEnded
    rw [show b.engine.commit = c.engine.commit from commit]
    rfl

/-- Tamper below FACTORY under a grant in force: the grant enters ENDING, and the TAMPER request joins (R75, R76,
R171). -/
theorem Chip.tamperFound_of_ends (c : Chip) (w : Win) (found : DWord)
    (inForce : c.grant.state = .active ∨ c.grant.state = .suspended) (below : c.grant.record.level ≠ some .factory)
    (place : c.engine.queue.length < 7) (loader : ∀ tr live, c.bus.memPort ≠ .busy .L tr live)
    (held : ∀ y, c.bus.port = .held y .pageLoading → y.direction = .write) :
    ∃ d, c.tamperFound w found = (d, true) ∧ c.TamperEnds d w (c.tamperAppend w found) := by
  let x := c.tamperAppend w found
  have joins : c.engine.asked x = { c.engine with queue := c.engine.queue ++ [x] } :=
    c.engine.asked_of_place x (by omega)
  have further (y : AppendRequest) : (c.engine.queue ++ [y]).length < 8 := by
    rw [List.length_append, List.length_singleton]
    omega
  have ended (e : RecordEngine) : (({ c.tampered w with engine := e } : Chip).beginEnding .tamper).engine
      = if e.commit = none ∧ c.grant.record.rewritten = 0#24 then e.asked c.tamperClosing else e := by
    obtain ⟨-, -, engine, -, -⟩ := Chip.beginEnding_endedBy ({ c.tampered w with engine := e } : Chip) .tamper
    exact engine
  rw [Chip.tamperFound_eq]
  split
  · -- the ending's request first
    have first : ((c.tampered w).beginEnding .tamper).engine = _ := ended c.engine
    have hasPlace : ((c.tampered w).beginEnding .tamper).queueHasPlace = true := by
      refine decide_eq_true ?_
      rw [first]
      split
      · rw [RecordEngine.asked_of_place _ _ (Nat.lt_succ_of_lt place)]
        exact further _
      · exact Nat.lt_succ_of_lt place
    rw [(c.tampered w).tamperCause_of_ends inForce below, hasPlace, Chip.requestAppend_asked]
    refine ⟨_, rfl, Chip.TamperEnds.of_engine c w x c.engine _ rfl loader held (fun commit rewritten => .inr ?_)
      fun h => ?_⟩
    · rw [first, if_pos ⟨commit, rewritten⟩, RecordEngine.asked_of_place _ _ (Nat.lt_succ_of_lt place),
        RecordEngine.asked_of_place _ _ (further _), List.append_assoc]
      rfl
    · rw [first, if_neg (by tauto), joins]
  · -- the TAMPER request first
    have hasPlace : (c.tampered w).queueHasPlace = true := decide_eq_true (Nat.lt_succ_of_lt place)
    rw [Chip.requestAppend_asked, Chip.tamperCause_of_ends { c.tampered w with engine := _ } inForce below, hasPlace]
    refine ⟨_, rfl, Chip.TamperEnds.of_engine c w x (c.engine.asked x) _ (by rw [joins]) loader held
      (fun commit rewritten => .inl ?_) fun h => ?_⟩
    · refine (ended (c.engine.asked x)).trans ?_
      rw [joins, if_pos ⟨commit, rewritten⟩, RecordEngine.asked_of_place _ _ (further _)]
      dsimp only
      rw [List.append_assoc]
      rfl
    · refine (ended (c.engine.asked x)).trans ?_
      rw [joins]
      exact if_neg (by tauto)

/-! ## The outcomes of a judgement -/

/-- The scanner with a window's sum ended and its result entered (R163). -/
def Scanner.judged (x : Scanner) (w : Win) (result : ScanResult) (found : Option DWord) : Scanner :=
  { x with sum := none, results := x.results.set w ⟨result, found⟩ }

section

variable {s : State} {tr : Transfer} {w : Win} {left : List Win} {sum : DWord} (h : LastWord s tr w left sum)

include h

/-- A judgement that ends with its result alone (R163). -/
theorem LastWord.exec_of_result (result : ScanResult) (found : Option DWord)
    (judged : s.chip.judging.judge w sum = (s.chip.judging.enterResult w result found, none)) :
    ∃ t, exec (.memoryTransferComplete none) s = .next t ∧ s.changesOnly [.bus, .scanner, .link] t
      ∧ t.chip.scanner = s.chip.passScanner (s.chip.scanner.judged w result found) left
      ∧ t.chip.bus = s.chip.busGoesOn .S (s.chip.passRead left)
      ∧ t.chip.link = { s.chip.link with notices :=
          if left = [] then s.chip.link.notices ||| 0x0004#16 else s.chip.link.notices } :=
  ⟨_, exec_lastWord_ended s tr w left sum h _ (s.chip.scanner.judged w result found) s.chip.link judged
      ⟨rfl, rfl, rfl, rfl, rfl, rfl, fun _ skips => skips⟩ rfl rfl,
    State.changesOnly_of_chip _ s _ ((Chip.changesOnly_iff _ _ _).mpr (by simp [Chip.judging])), rfl, rfl, rfl⟩

/-- An adoption: its WINDOW_SUM is asked for, and the pass waits for it (R164). -/
theorem LastWord.exec_of_mark (skips : s.chip.skips w = false) (mark : hasWin s.chip.scanner.marks w = true) :
    ∃ t, exec (.memoryTransferComplete none) s = .next t ∧ s.changesOnly [.bus, .scanner, .engine] t
      ∧ t.chip.scanner = { s.chip.scanner.judged w .adopted (some sum) with
          tickets := s.chip.scanner.tickets + 1, pass := some ⟨left, .adopting s.chip.scanner.tickets⟩ }
      ∧ t.chip.engine
        = s.chip.engine.asked ⟨.windowSum w .interruptedReflash sum, .scanner, false, s.chip.scanner.tickets⟩
      ∧ t.chip.bus = s.chip.busAfter { s.chip.bus with memPort := .free } := by
  have judged := s.chip.judging.judge_of_mark w sum skips mark
  rw [Chip.adopt_eq] at judged
  exact ⟨_, exec_lastWord_waiting s tr w left sum h _ _ judged rfl rfl rfl,
    State.changesOnly_of_chip _ s _ ((Chip.changesOnly_iff _ _ _).mpr (by simp [Chip.judging])), rfl, rfl, rfl⟩

variable {result : ScanResult} (differs : s.chip.judging.judge w sum = s.chip.judging.judgeDiffers w result sum)
  (new : hasWin s.chip.scanner.tamper w = false)

include differs new

/-- Tamper that ends no grant: the pass goes on, or waits for the TAMPER request's place (R171). -/
theorem LastWord.exec_of_tamper
    (goesOn : ¬ ((s.chip.grant.state = .active ∨ s.chip.grant.state = .suspended)
      ∧ s.chip.grant.record.level ≠ some .factory)) :
    ∃ t, exec (.memoryTransferComplete none) s = .next t
      ∧ s.changesOnly [.bus, .engine, .scanner, .link, .grant, .draws] t
      ∧ t.chip.engine = s.chip.engine.asked (s.chip.tamperAppend w sum)
      ∧ t.chip.grant = s.chip.grant.tamperPending
      ∧ (s.chip.engine.queue.length < 8 →
        t.chip.scanner = s.chip.passScanner ((s.chip.scanner.tampered w).judged w result (some sum)) left
        ∧ t.chip.link = { s.chip.link with notices :=
            if left = [] then s.chip.link.notices ||| 0x0008#16 ||| 0x0004#16 else s.chip.link.notices ||| 0x0008#16 }
        ∧ t.chip.bus = s.chip.busGoesOn .S (s.chip.passRead left))
      ∧ (8 ≤ s.chip.engine.queue.length →
        t.chip.scanner = { (s.chip.scanner.tampered w).judged w result (some sum) with
          pass := some ⟨left, .joining s.chip.scanner.tickets⟩ }
        ∧ t.chip.link = { s.chip.link with notices := s.chip.link.notices ||| 0x0008#16 }
        ∧ t.chip.bus = s.chip.busAfter { s.chip.bus with memPort := .free }) := by
  let entered : Chip := s.chip.judging.enterResult w result (some sum)
  let d : Chip := { entered.tampered w with
    grant := s.chip.grant.tamperPending, engine := s.chip.engine.asked (s.chip.tamperAppend w sum) }
  have tamper : entered.tamperFound w sum = (d, entered.queueHasPlace) := entered.tamperFound_of_goesOn w sum goesOn
  by_cases place : s.chip.engine.queue.length < 8
  · rw [show entered.queueHasPlace = true from decide_eq_true place] at tamper
    have judged := differs.trans (s.chip.judging.judgeDiffers_of_new d w result sum true new tamper)
    exact ⟨_, exec_lastWord_ended s tr w left sum h d ((s.chip.scanner.tampered w).judged w result (some sum))
        { s.chip.link with notices := s.chip.link.notices ||| 0x0008#16 } judged
        ⟨rfl, rfl, rfl, rfl, rfl, rfl, fun v skips =>
          (s.chip.skips_congr d v rfl rfl s.chip.grant.tamperPending_rewritten).trans skips⟩ rfl rfl,
      State.changesOnly_of_chip _ s _ ((Chip.changesOnly_iff _ _ _).mpr
        (by simp [d, entered, Chip.tampered, Chip.judging])), rfl, rfl, fun _ => ⟨rfl, rfl, rfl⟩,
      fun full => absurd place (Nat.not_lt.mpr full)⟩
  · rw [show entered.queueHasPlace = false from decide_eq_false place] at tamper
    have judged := differs.trans (s.chip.judging.judgeDiffers_of_new d w result sum false new tamper)
    exact ⟨_, exec_lastWord_waiting s tr w left sum h d _ judged rfl rfl rfl,
      State.changesOnly_of_chip _ s _ ((Chip.changesOnly_iff _ _ _).mpr
        (by simp [d, entered, Chip.tampered, Chip.judging])), rfl, rfl, fun joins => absurd joins place,
      fun _ => ⟨rfl, rfl, rfl⟩⟩

/-- Tamper that ends the grant in force (R75, R76, R171). -/
theorem LastWord.exec_of_tamperEnds
    (inForce : s.chip.grant.state = .active ∨ s.chip.grant.state = .suspended)
    (below : s.chip.grant.record.level ≠ some .factory) (place : s.chip.engine.queue.length < 7)
    (held : ∀ y, s.chip.bus.port = .held y .pageLoading → y.direction = .write) :
    ∃ t, exec (.memoryTransferComplete none) s = .next t
      ∧ s.changesOnly [.bus, .engine, .scanner, .link, .grant, .overlay, .draws] t
      ∧ t.chip.scanner = s.chip.passScanner ((s.chip.scanner.tampered w).judged w result (some sum)) left
      ∧ t.chip.grant = s.chip.grantEnded .tamper ∧ s.chip.overlayEnded t.chip.overlay
      ∧ (s.chip.engine.commit = none → s.chip.grant.record.rewritten = 0#24 →
        t.chip.engine = { s.chip.engine with
            queue := s.chip.engine.queue ++ [s.chip.tamperAppend w sum, s.chip.tamperClosing] }
          ∨ t.chip.engine = { s.chip.engine with
            queue := s.chip.engine.queue ++ [s.chip.tamperClosing, s.chip.tamperAppend w sum] })
      ∧ (s.chip.engine.commit ≠ none ∨ s.chip.grant.record.rewritten ≠ 0#24 →
        t.chip.engine = { s.chip.engine with queue := s.chip.engine.queue ++ [s.chip.tamperAppend w sum] })
      ∧ t.chip.link = { s.chip.link with notices :=
          if left = [] then s.chip.link.notices ||| 0x0008#16 ||| 0x0004#16 else s.chip.link.notices ||| 0x0008#16 }
      ∧ t.chip.bus = ({ s.chip with bus := s.chip.busEnded } : Chip).busGoesOn .S (s.chip.passRead left) := by
  let entered : Chip := s.chip.judging.enterResult w result (some sum)
  have loader : ∀ tr live, entered.bus.memPort ≠ .busy .L tr live := fun tr live busy => by
    cases h.port.symm.trans busy
  obtain ⟨d, tamper, beside, frame, grant, overlay, closing, later, bus⟩ :=
    entered.tamperFound_of_ends w sum inForce below place loader held
  obtain ⟨scanner, link, map, params, supply, idle, skipped⟩ := beside
  have judged := differs.trans (s.chip.judging.judgeDiffers_of_new d w result sum true new tamper)
  have kept := (Chip.changesOnly_iff _ _ _).mp frame
  simp only [List.mem_cons, reduceCtorEq, List.not_mem_nil, or_false, false_or, true_or, or_true, true_and,
    and_true] at kept
  refine ⟨_, exec_lastWord_ended s tr w left sum h d ((s.chip.scanner.tampered w).judged w result (some sum))
      { s.chip.link with notices := s.chip.link.notices ||| 0x0008#16 } judged
      ⟨scanner, link, map, params, supply, idle, skipped⟩ rfl rfl,
    State.changesOnly_of_chip _ s _ ((Chip.changesOnly_iff _ _ _).mpr ?_),
    rfl, grant, overlay, closing, later, rfl, ?_⟩
  · simp only [List.mem_cons, reduceCtorEq, List.not_mem_nil, or_false, false_or, true_or, or_true, true_and, and_true]
    exact kept
  · dsimp only
    rw [bus]
    rfl

end

/-! ## LastSumJudgesItsWindow, by the judgement -/

/-- Settles O14: a word before the last, and at the last word of a pass's window the judgement, by the order of R163's
table and, where tamper is found, by whether a grant ends. -/
theorem lastSumJudgesItsWindow : Obligations.LastSumJudgesItsWindow := by
  refine ⟨fun s tr r i hs up read port requestS running further => ?_,
    fun s tr r w left sum hs up read port requestS running purpose hw last pass hsum further => ?_⟩
  · -- a word is left
    exact ⟨_, exec_sumRead s tr _ hs up read port (s.chip.sumRead_of_next r i _ running further) rfl rfl,
      State.changesOnly_of_chip _ s _ ((Chip.changesOnly_iff _ _ _).mpr (by simp)), rfl,
      s.chip.busAfter_endInternal_S _ (some _) requestS rfl⟩
  intro c first goesOn next scanDone ends asked
  have word : LastWord s tr w left sum := ⟨hs, up, read, port, requestS, by
    rw [s.chip.sumRead_of_last r _ running (hw ▸ last) purpose, hw, hsum], pass, further⟩
  have scanner_eq (result : ScanResult) (found : Option DWord) (x : Scanner) (queue : x.queue = c.scanner.queue)
      (count : x.passCount = c.scanner.passCount) (checked : x.cycleChecked = c.scanner.cycleChecked) :
      c.passScanner (x.judged w result found) left = goesOn result found x := by
    unfold Chip.passScanner Scanner.judged
    cases left with
    | nil => simp only [count, checked, goesOn]
    | cons v vs => simp only [queue, goesOn, first]
  have next_eq (b : BusPath) : ({ c with bus := b } : Chip).busGoesOn .S (c.passRead left) = next b := by
    unfold Chip.passRead
    cases left with
    | nil => rfl
    | cons v vs =>
      dsimp only [next]
      by_cases queue : c.scanner.queue = []
      · rw [if_pos queue, if_neg (not_not.mpr queue)]
        rfl
      · rw [if_neg queue, if_pos queue]
        rfl
  have endsWith (result : ScanResult) (found : Option DWord)
      (judged : c.judging.judge w sum = (c.judging.enterResult w result found, none)) : ends result found := by
    obtain ⟨t, he, frame, scanner, bus, link⟩ := word.exec_of_result result found judged
    exact ⟨t, he, frame, scanner.trans (scanner_eq result found c.scanner rfl rfl rfl), bus.trans (next_eq c.bus), link⟩
  refine ⟨fun skips => endsWith _ _ (c.judging.judge_of_skips w sum skips),
    fun skips mark => word.exec_of_mark skips mark,
    fun skips mark same => endsWith _ _ (c.judging.judge_of_match w sum skips mark same), fun skips mark differs => ?_⟩
  -- a sum other than the reference
  intro result
  have differ : c.judging.judge w sum = c.judging.judgeDiffers w result sum :=
    c.judging.judge_of_differs w sum skips mark differs
  refine ⟨fun known => endsWith _ _ (differ.trans (c.judging.judgeDiffers_of_known w result sum known)), fun new => ?_⟩
  intro tampered found inForce below g notices
  have tampered_eq := scanner_eq result (some sum) tampered rfl rfl rfl
  refine ⟨fun stays => ?_, fun force level place held => ?_⟩
  · obtain ⟨t, he, frame, engine, grant, joins, waits⟩ := word.exec_of_tamper differ new stays
    refine ⟨t, he, frame, engine, grant, fun place => ?_, waits⟩
    obtain ⟨scanner, link, bus⟩ := joins place
    exact ⟨scanner.trans tampered_eq, link, bus.trans (next_eq c.bus)⟩
  · obtain ⟨t, he, frame, scanner, grant, overlay, closing, later, link, bus⟩ :=
      word.exec_of_tamperEnds differ new force level place held
    exact ⟨t, he, frame, scanner.trans tampered_eq, grant, overlay, closing, later, link,
      bus.trans (next_eq c.busEnded)⟩

end Sys2Proof.Machine
end

section
/-! The end of START, the ignition filter, dormancy and the end of a wake: the entries to the power states, and the
commands that make them (R59, R75, R76, R162, R165, R168, R176, R182–R188). -/

namespace Sys2Proof.Machine

/-! ## The monitor restarts without a grant in force (R57–R59) -/

/-- Without a grant in force motion events update the Grant Controller's view alone. -/
theorem Chip.motionEvents_of_not_inForce (es : List MotionEvent) (c : Chip)
    (h : c.grant.state ≠ .active ∧ c.grant.state ≠ .suspended) :
    c.motionEvents es = { c with grant := { c.grant with view := es.foldl MotionView.take c.grant.view } } := by
  induction es generalizing c with
  | nil => rfl
  | cons e es ih =>
    have taken : c.motionEvent e = { c with grant := { c.grant with view := c.grant.view.take e } } := by
      rw [c.motionEvent_judged e fun _ => h, c.judgedWith_of_not_inForce _ h]
    have rest := ih (c.motionEvent e) (by rwa [taken])
    rw [taken] at rest
    unfold Chip.motionEvents at rest ⊢
    rw [List.foldl_cons, taken, rest, List.foldl_cons]

/-- The events of the machines that differ bring a view to them, where they differ. -/
theorem MotionView.foldl_monitorEvents (v : MotionView) (before after : Monitor) :
    (monitorEvents before after).foldl MotionView.take v = {
      engine := if before.engineState = after.engineState then v.engine else after.engineState
      road := if before.roadState = after.roadState then v.road else after.roadState
      park := if before.park = after.park then v.park else after.park } := by
  unfold monitorEvents
  rw [List.foldl_append, List.foldl_append]
  split_ifs <;> rfl

/-- The monitor's start, or its restart at the end of a wake, while the grant is IDLE (R58, R59). -/
theorem Chip.startMonitor_of_idle (c : Chip) (idle : c.grant.state = .idle) : c.startMonitor = c.monitorRestarted := by
  have events := ({ c with monitor := Monitor.started c.params.parkInUse } : Chip).motionEvents_of_not_inForce
    (monitorEvents c.monitor (Monitor.started c.params.parkInUse)) (by simp [idle])
  rw [MotionView.foldl_monitorEvents] at events
  exact events

/-! ## The scanner leaves ACTIVE (R168) -/

/-- Whether the sum in progress is a pass's. -/
def Scanner.passSums (x : Scanner) : Bool :=
  match x.sum with
  | some r => decide (r.purpose = .pass)
  | none => false

/-- The scanner once it has left ACTIVE (R168). -/
def Scanner.abandoned (x : Scanner) : Scanner :=
  { x with timer := 0, pass := none, cycleChecked := false, sum := if x.passSums then none else x.sum }

/-- S withdraws its request, or the data of its read will be discarded (R14, R168). -/
def BusPath.sumGivenUp (b : BusPath) : BusPath := { b with requestS := none, memPort := b.memPort.disown .S }

/-- The transfer in flight is given up where it is S's. -/
theorem MemPort.disown_S (m : MemPort) :
    m.disown .S = (match m with
      | .busy .S tr _ => .busy .S tr false
      | m => m) := by
  cases m with
  | busy who tr live => cases who <;> rfl
  | free => rfl
  | parked => rfl

theorem Chip.dropPassSum_eq (c : Chip) : c.dropPassSum =
    if c.scanner.passSums then { c with scanner := { c.scanner with sum := none }, bus := c.bus.sumGivenUp }
    else c := by
  unfold Chip.dropPassSum Scanner.passSums
  cases c.scanner.sum with
  | none => rfl
  | some r =>
    obtain ⟨w, i, a, b, purpose⟩ := r
    cases purpose <;> rfl

theorem Chip.abandonPass_eq (c : Chip) : c.abandonPass = { c with
    scanner := c.scanner.abandoned, bus := if c.scanner.passSums then c.bus.sumGivenUp else c.bus } := by
  unfold Chip.abandonPass Scanner.abandoned
  rw [c.dropPassSum_eq]
  cases c.scanner.passSums <;> rfl

/-- Without a sum in progress nothing is given up. -/
theorem Scanner.passSums_of_none (x : Scanner) (h : x.sum = none) : x.passSums = false := by
  unfold Scanner.passSums
  rw [h]

/-- A read given up leaves a settled port settled. -/
theorem Chip.settled_of_sumGivenUp (c : Chip) (h : c.settled) :
    ({ c with bus := c.bus.sumGivenUp } : Chip).settled := by
  intro free
  have memFree : c.bus.memPort = .free := by
    have given : c.bus.memPort.disown .S = .free := free
    cases port : c.bus.memPort with
    | free => rfl
    | parked => simp [port, MemPort.disown] at given
    | busy who tr live => cases who <;> simp [port, MemPort.disown] at given
  obtain ⟨hP, hR, hL, -⟩ := h memFree
  exact ⟨hP, hR, hL, rfl⟩

/-! ## Entries to ACTIVE and AFTER_RUN (R182–R184, R188) -/

/-- The power state ACTIVE, without the dormancy delay. -/
def Supply.toActive (u : Supply) : Supply := { u with power := .active, dormancy := none }

/-- The power state AFTER_RUN, the dormancy delay from 0. -/
def Supply.toAfterRun (u : Supply) : Supply := { u with power := .afterRun, dormancy := some 0 }

theorem Chip.enterActive_eq (c : Chip) :
    c.enterActive = ({ c with supply := c.supply.toActive } : Chip).startPass := rfl

theorem Chip.enterAfterRun_eq (c : Chip) : c.enterAfterRun =
    (({ c with supply := c.supply.toAfterRun } : Chip).endCause .ignition).abandonPass := rfl

/-- The entry to AFTER_RUN without a grant and without a sum in progress. -/
theorem Chip.enterAfterRun_of_idle (c : Chip) (grant : c.grant.state = .idle) (sum : c.scanner.sum = none) :
    c.enterAfterRun = { c with
      supply := c.supply.toAfterRun
      scanner := { c.scanner with timer := 0, pass := none, cycleChecked := false } } := by
  rw [c.enterAfterRun_eq, Chip.endCause_of_idle { c with supply := c.supply.toAfterRun } .ignition (.inl grant),
    Chip.abandonPass_eq]
  simp only [Scanner.abandoned, c.scanner.passSums_of_none sum]
  rfl

/-- The entry to ACTIVE over an empty scan group: its pass completes at once (R165). -/
theorem Chip.enterActive_of_empty (c : Chip) (group : c.map.scanGroup = []) : c.enterActive = { c with
    supply := c.supply.toActive
    scanner := c.scanner.passStarted true [] 0
    link := { c.link with notices := c.link.notices ||| 0x0004#16 } } := by
  rw [c.enterActive_eq, Chip.startPass_of_empty { c with supply := c.supply.toActive } group rfl]
  unfold Scanner.passStarted
  rw [Bool.or_true]

/-- The entry to ACTIVE begins the sum of the scan group's first window (R160, R162). -/
theorem Chip.enterActive_of_first (c : Chip) (w : Win) (ws : List Win) (i : Nat) (group : c.map.scanGroup = w :: ws)
    (queue : c.scanner.queue = []) (sum : c.scanner.sum = none) (skips : c.skips w = false)
    (first : c.map.ownedAt w 0 = some i) : c.enterActive = { c with
      supply := c.supply.toActive
      scanner := c.scanner.passStarted true (w :: ws) i
      bus := { c.bus with requestS := some ⟨c.map.wordOf w i, .read⟩ } } :=
  Chip.startPass_of_first { c with supply := c.supply.toActive } w ws i group queue sum skips first

theorem Chip.enterRunning_of_on (c : Chip) (on : c.supply.filtered = .on) : c.enterRunning = c.enterActive := by
  unfold Chip.enterRunning
  rw [on]

theorem Chip.enterRunning_of_off (c : Chip) (off : c.supply.filtered = .off) : c.enterRunning = c.enterAfterRun := by
  unfold Chip.enterRunning
  rw [off]

/-- In ACTIVE no dormancy delay runs. -/
theorem Chip.staysUp_of_active (c : Chip) (h : c.supply.power = .active) : c.staysUp := fun afterRun => by
  rw [h] at afterRun
  cases afterRun

/-- The dormancy delay has just started. -/
theorem Chip.staysUp_of_restarted (c : Chip) (h : c.supply.dormancy = some 0) : c.staysUp := fun _ d hd => by
  obtain rfl : 0 = d := Option.some.inj (h.symm.trans hd)
  decide

/-! ## Commands that open the gate (R9) -/

/-- A command whose operation ends with the decision of a GATED cycle opens the gate to it. -/
theorem State.opensTo_of_operation (s : State) (i : Instr) (f : Chip → Chip) (c : Chip) (hi : i.operation = some f)
    (hs : s.supplied = true) (hf : f s.chip = c.gateChanged) (port : c.bus.port = s.chip.bus.port)
    (pins : c.pins = s.chip.pins) (up : c.staysUp) (awake : c.supply.power ≠ .dormant) : s.opensTo i c := by
  have outcome : exec i s = .next { s with chip := c.gateChanged.finish } := by
    rw [exec_of_operation i f s hi, State.onPin_of_supplied _ f s hs, hf]
  refine ⟨fun closed => ?_, fun b gated strobe isOpen => ?_⟩
  · rw [outcome, c.gateChanged_of_closed (port ▸ closed), c.finish_of_staysUp up]
  · obtain ⟨u, arrives, same, decided⟩ :=
      gateChanged_as_arrival s c b hs (port.trans gated) strobe awake isOpen
    exact ⟨_, u, outcome, arrives, pins ▸ same, decided⟩

/-- A command that brings the part to ACTIVE or AFTER_RUN, by the filtered level, and opens the gate there: where it takes
the part `d`, with no grant and no sum in progress (R182, R188, R9). -/
theorem State.opensTo_of_enterRunning (s : State) (i : Instr) (f : Chip → Chip) (d : Chip) (hi : i.operation = some f)
    (hs : s.supplied = true) (hf : d.supply.filtered ≠ .unsettled → f s.chip = d.enterRunning.gateChanged)
    (port : d.bus.port = s.chip.bus.port) (pins : d.pins = s.chip.pins) (grant : d.grant.state = .idle)
    (sum : d.scanner.sum = none) :
    (d.supply.filtered = .on → d.map.scanGroup = [] →
      s.opensTo i { d with
        supply := d.supply.toActive
        scanner := d.scanner.passStarted true [] 0
        link := { d.link with notices := d.link.notices ||| 0x0004#16 } })
    ∧ (∀ w ws n, d.supply.filtered = .on → d.map.scanGroup = w :: ws → d.scanner.queue = [] → d.skips w = false →
      d.map.ownedAt w 0 = some n →
      s.opensTo i { d with
        supply := d.supply.toActive
        scanner := d.scanner.passStarted true (w :: ws) n
        bus := { d.bus with requestS := some ⟨d.map.wordOf w n, .read⟩ } })
    ∧ (d.supply.filtered = .off →
      s.opensTo i { d with
        supply := d.supply.toAfterRun
        scanner := { d.scanner with timer := 0, pass := none, cycleChecked := false } }) := by
  have opens (c : Chip) (settled : d.supply.filtered ≠ .unsettled) (enters : d.enterRunning = c) :=
    s.opensTo_of_operation i f c hi hs ((hf settled).trans (congrArg Chip.gateChanged enters))
  refine ⟨fun on group => ?_, fun w ws n on group queue skips first => ?_, fun off => ?_⟩
  · have enters := (d.enterRunning_of_on on).trans (d.enterActive_of_empty group)
    exact opens _ (by simp [on]) enters port pins (Chip.staysUp_of_active _ rfl) nofun
  · have enters := (d.enterRunning_of_on on).trans (d.enterActive_of_first w ws n group queue sum skips first)
    exact opens _ (by simp [on]) enters port pins (Chip.staysUp_of_active _ rfl) nofun
  · have enters := (d.enterRunning_of_off off).trans (d.enterAfterRun_of_idle grant sum)
    exact opens _ (by simp [off]) enters port pins (Chip.staysUp_of_restarted _ rfl) nofun

/-! ## The end of START (R182) -/

theorem Supply.startOver_iff (u : Supply) :
    u.startOver = true ↔ u.power = .start ∧ u.startUp.phase = .ended ∧ u.filtered ≠ .unsettled := by
  simp [Supply.startOver, and_assoc]

/-- The chip with START out of the gate's set. -/
def Chip.started (c : Chip) : Chip := { c with bus := { c.bus with gate := { c.bus.gate with start := false } } }

/-- Settles O54: nothing before START can end, and then the entry to ACTIVE or AFTER_RUN by the filtered level. -/
theorem startEndOpensTheGate : Obligations.StartEndOpensTheGate := by
  refine ⟨fun s calm early => ?_, ?_⟩
  · refine exec_of_unchanged .startEnd Chip.endStart s rfl calm (if_neg fun ends => ?_)
    obtain ⟨power, phase, settled⟩ := s.chip.supply.startOver_iff.mp ends
    rcases early with other | running | unsettled
    · exact other power
    · exact running phase
    · exact settled unsettled
  · intro s ⟨hs, _, _⟩ power phase grant sum
    exact s.opensTo_of_enterRunning .startEnd Chip.endStart s.chip.started rfl hs
      (fun settled => if_pos (s.chip.supply.startOver_iff.mpr ⟨power, phase, settled⟩)) rfl rfl grant sum

/-! ## Dormancy, and the end of a wake (R185, R186, R188) -/

/-- With the delay at 500 ms and nothing that keeps the part up, the end of a command takes it into DORMANT (R185). -/
theorem Chip.checkDormancy_of_quiet (c : Chip) (d : Nat) (power : c.supply.power = .afterRun)
    (delay : c.supply.dormancy = some d) (due : 500 ≤ d) (work : c.workInFlight = false) (port : c.bus.port = .idle)
    (mem : c.bus.memPort = .free ∨ c.bus.memPort = .parked) (transaction : c.link.transaction = none) :
    c.checkDormancy = c.enterDormant := by
  have quiet : c.mayGoDormant = true := by
    unfold Chip.mayGoDormant
    rcases mem with mem | mem <;> simp [power, delay, Config.dormancyMs, due, work, port, mem, transaction]
  exact if_pos quiet

/-- A transaction in progress keeps the part up (R185). -/
theorem Chip.checkDormancy_of_transaction (c : Chip) (h : c.link.transaction ≠ none) : c.checkDormancy = c :=
  c.checkDormancy_of_not (by simp [Chip.mayGoDormant, Option.isSome_iff_ne_none, h])

/-- The chip with the dormancy delay run out. -/
def Chip.delayed (c : Chip) (d : Nat) : Chip := { c with supply := { c.supply with dormancy := some (max d 500) } }

/-- The expiry of the delay in AFTER_RUN, with a settled port, is followed by the dormancy check alone. -/
theorem exec_dormancyDelayExpiry (s : State) (d : Nat) (calm : s.calm) (power : s.chip.supply.power = .afterRun)
    (delay : s.chip.supply.dormancy = some d) :
    exec .dormancyDelayExpiry s = .next { s with chip := (s.chip.delayed d).checkDormancy } := by
  obtain ⟨hs, settled, -⟩ := calm
  have expired : s.chip.delayExpired = s.chip.delayed d := by
    unfold Chip.delayExpired
    rw [power, delay]
    rfl
  have ended : (s.chip.delayed d).finish = (s.chip.delayed d).checkDormancy :=
    congrArg Chip.checkDormancy ((s.chip.delayed d).arbitrate_of_settled settled)
  rw [← ended, ← expired]
  exact congrArg Host.Outcome.next (s.onChip_of_supplied _ hs)

/-- The chip at the end of the settle time, before its entry to ACTIVE or AFTER_RUN. -/
def Chip.woken (c : Chip) : Chip :=
  { c.monitorRestarted with
    bus := { c.bus with gate := { c.bus.gate with waking := false } }
    supply := { c.supply with settling := false }
    link := { c.link with receiving := true } }

theorem Chip.settleEnds_of_idle (c : Chip) (settling : c.supply.settling = true) (idle : c.grant.state = .idle) :
    c.settleEnds = c.woken.enterRunning.gateChanged := by
  have restarted := ({ c with
    bus := { c.bus with gate := { c.bus.gate with waking := false } }
    supply := { c.supply with settling := false }
    link := { c.link with receiving := true } } : Chip).startMonitor_of_idle idle
  exact (if_pos settling).trans (congrArg (fun d : Chip => d.enterRunning.gateChanged) restarted)

/-- Settles O56: the dormancy check at the delay's expiry, and the entry to ACTIVE or AFTER_RUN from the woken part. -/
theorem dormancyAndTheEndOfAWake : Obligations.DormancyAndTheEndOfAWake := by
  refine ⟨fun s d calm power delay => ⟨fun work port mem transaction => ?_, fun transaction => ?_⟩, ?_⟩
  · refine ⟨_, exec_dormancyDelayExpiry s d calm power delay, ?_⟩
    rw [(s.chip.delayed d).checkDormancy_of_quiet (max d 500) power rfl (le_max_right d 500) work port mem transaction]
    exact ⟨State.changesOnly_of_chip _ s _
      ((Chip.changesOnly_iff _ _ _).mpr (by simp [Chip.enterDormant, Chip.delayed])), rfl, rfl, rfl⟩
  · refine ⟨_, exec_dormancyDelayExpiry s d calm power delay, ?_⟩
    rw [(s.chip.delayed d).checkDormancy_of_transaction transaction]
    exact ⟨State.changesOnly_of_chip _ s _ ((Chip.changesOnly_iff _ _ _).mpr (by simp [Chip.delayed])), rfl⟩
  · intro s ⟨hs, _, _⟩ settling idle sum
    obtain ⟨onEmpty, onFirst, off⟩ := s.opensTo_of_enterRunning .settleTimeEnd Chip.settleEnds s.chip.woken rfl hs
      (fun _ => s.chip.settleEnds_of_idle settling idle) rfl rfl idle sum
    exact ⟨off, onEmpty, onFirst⟩

end Sys2Proof.Machine
end

section
/-! The ignition filter: its input, its settling, and the power states it moves (R75, R76, R168, R176, R183, R184,
R187). -/

namespace Sys2Proof.Machine

/-- A command that leaves the port settled and no dormancy due ends as its operation left the part. -/
theorem exec_of_calm (i : Instr) (f : Chip → Chip) (s : State) (d : Chip) (hi : i.operation = some f)
    (hs : s.supplied = true) (hd : f s.chip = d) (settled : d.settled) (up : d.staysUp) :
    exec i s = .next { s with chip := d } := by
  rw [exec_of_operation i f s hi, State.onPin_of_supplied _ f s hs, hd, Chip.finish_of_calm d settled up]

/-! ## The filter (R176) -/

/-- The supply controller with the stability interval over and the filtered level taken. -/
def Supply.taking (u : Supply) (level : IgnitionLevel) : Supply := { u with stability := false, filtered := level }

/-- The chip with the filtered level taken. -/
def Chip.taking (c : Chip) (level : IgnitionLevel) : Chip := { c with supply := c.supply.taking level }

/-- A change of the input restarts the stability interval. -/
theorem Chip.ignitionInput_eq (c : Chip) (level : PinLevel) : c.ignitionInput level = { c with
    pins := { c.pins with ignition := level }
    supply := if c.pins.ignition = level then c.supply else { c.supply with stability := true } } := by
  unfold Chip.ignitionInput
  split <;> rfl

/-- A change of the input has nothing to do with the memory port or the power state. -/
theorem Chip.ignitionInput_calm (c : Chip) (level : PinLevel) (settled : c.settled) (up : c.staysUp) :
    (c.ignitionInput level).settled ∧ (c.ignitionInput level).staysUp := by
  rw [c.ignitionInput_eq level]
  refine ⟨settled, ?_⟩
  unfold Chip.staysUp
  dsimp only
  split_ifs
  · exact up
  · exact up

/-- The first settling, and a level unchanged, are no event. -/
theorem Chip.ignitionFiltered_of_same (c : Chip) (level : IgnitionLevel) (stability : c.supply.stability = true)
    (pin : IgnitionLevel.ofPin c.pins.ignition = level)
    (same : c.supply.filtered = .unsettled ∨ c.supply.filtered = level) : c.ignitionFiltered = c.taking level := by
  subst pin
  exact (if_pos stability).trans (if_pos same)

/-- A level that has changed from a settled one is an event. -/
theorem Chip.ignitionFiltered_of_changed (c : Chip) (level : IgnitionLevel) (stability : c.supply.stability = true)
    (pin : IgnitionLevel.ofPin c.pins.ignition = level)
    (changed : ¬ (c.supply.filtered = .unsettled ∨ c.supply.filtered = level)) :
    c.ignitionFiltered = (c.taking level).ignitionEvent level := by
  subst pin
  exact (if_pos stability).trans (if_neg changed)

/-- START and WAKING take no ignition event. -/
theorem Chip.ignitionEvent_of_passing (c : Chip) (level : IgnitionLevel)
    (h : c.supply.power = .start ∨ c.supply.power = .waking) : c.ignitionEvent level = c := by
  unfold Chip.ignitionEvent
  rcases h with h | h <;> rw [h]

/-- Without an event to act on, the interval's end takes the level and no more. -/
theorem Chip.ignitionFiltered_of_quiet (c : Chip) (level : IgnitionLevel) (stability : c.supply.stability = true)
    (pin : IgnitionLevel.ofPin c.pins.ignition = level)
    (quiet : c.supply.filtered = .unsettled ∨ c.supply.filtered = level ∨ c.supply.power = .start
      ∨ c.supply.power = .waking) : c.ignitionFiltered = c.taking level := by
  by_cases same : c.supply.filtered = .unsettled ∨ c.supply.filtered = level
  · exact c.ignitionFiltered_of_same level stability pin same
  · rw [c.ignitionFiltered_of_changed level stability pin same]
    exact (c.taking level).ignitionEvent_of_passing level ((or_assoc.mpr quiet).resolve_left same)

/-- OFF in ACTIVE enters AFTER_RUN (R183). -/
theorem Chip.ignitionEvent_off (c : Chip) (power : c.supply.power = .active) :
    c.ignitionEvent .off = c.enterAfterRun := by
  unfold Chip.ignitionEvent
  rw [power]

/-- ON in AFTER_RUN enters ACTIVE (R184). -/
theorem Chip.ignitionEvent_on (c : Chip) (power : c.supply.power = .afterRun) :
    c.ignitionEvent .on = c.enterActive := by
  unfold Chip.ignitionEvent
  rw [power]

/-- ON in DORMANT starts a wake (R187). -/
theorem Chip.ignitionEvent_wake (c : Chip) (power : c.supply.power = .dormant) : c.ignitionEvent .on = c.startWake := by
  unfold Chip.ignitionEvent
  rw [power]

/-! ## OFF in ACTIVE (R75, R76, R168, R183) -/

/-- The part at OFF in ACTIVE, as the ignition cause finds it. -/
def Chip.switchedOff (c : Chip) : Chip := { c with supply := (c.supply.taking .off).toAfterRun }

/-- OFF in ACTIVE sends the ignition cause, and the scanner gives up its pass. -/
theorem Chip.ignitionFiltered_off (c : Chip) (stability : c.supply.stability = true) (on : c.supply.filtered = .on)
    (low : c.pins.ignition = .low) (power : c.supply.power = .active) :
    c.ignitionFiltered = (c.switchedOff.endCause .ignition).abandonPass := by
  rw [c.ignitionFiltered_of_changed .off stability (by rw [low]; rfl) (by simp [on]),
    (c.taking .off).ignitionEvent_off power]
  rfl

/-- The scanner leaves ACTIVE after a change that it has no part in. -/
theorem Chip.abandonPass_of_scanner (c d : Chip) (h : d.scanner = c.scanner) : d.abandonPass = { d with
    scanner := c.scanner.abandoned, bus := if c.scanner.passSums then d.bus.sumGivenUp else d.bus } := by
  rw [d.abandonPass_eq, h]

/-- The chip with the scanner out of ACTIVE, whatever has become of its pass's sum, is settled if it was. -/
theorem Chip.abandonPass_settled (c : Chip) (h : c.settled) : c.abandonPass.settled := by
  rw [c.abandonPass_eq]
  cases c.scanner.passSums
  · exact h
  · exact c.settled_of_sumGivenUp h

/-- OFF in ACTIVE, by what the ignition cause makes of the part. -/
theorem exec_ignitionOff (s : State) (d : Chip) (hs : s.supplied = true) (stability : s.chip.supply.stability = true)
    (on : s.chip.supply.filtered = .on) (low : s.chip.pins.ignition = .low) (power : s.chip.supply.power = .active)
    (caused : s.chip.switchedOff.endCause .ignition = d) (settled : d.settled)
    (supply : d.supply = s.chip.switchedOff.supply) (scanner : d.scanner = s.chip.scanner) :
    exec .ignitionFilterComplete s = .next { s with chip := { d with
      scanner := s.chip.scanner.abandoned
      bus := if s.chip.scanner.passSums then d.bus.sumGivenUp else d.bus } } := by
  rw [← s.chip.abandonPass_of_scanner d scanner]
  refine exec_of_calm .ignitionFilterComplete Chip.ignitionFiltered s _ rfl hs ?_ (d.abandonPass_settled settled) ?_
  · rw [s.chip.ignitionFiltered_off stability on low power, caused]
  · refine Chip.staysUp_of_restarted _ ?_
    rw [d.abandonPass_eq]
    exact congrArg Supply.dormancy supply

/-- After a requester has given up its operation, no transfer of its own in flight is live (R14). -/
theorem MemPort.disown_dead (m : MemPort) (who : Requester) (tr : Transfer) (live : Bool)
    (h : m.disown who = .busy who tr live) : live = false := by
  cases m with
  | free => cases h
  | parked => cases h
  | busy w t l =>
    unfold MemPort.disown at h
    dsimp only at h
    split_ifs at h with own
    · cases h
      rfl
    · cases h
      exact absurd rfl own

/-! ## The obligation -/

/-- Settles O55: the input's change, the interval's end without an event, a wake, OFF in ACTIVE by the grant's state, and
ON in AFTER_RUN. -/
theorem ignitionFilterMovesThePowerState : Obligations.IgnitionFilterMovesThePowerState := by
  intro s calm
  obtain ⟨hs, settled, up⟩ := calm
  refine ⟨fun pin => ?_, fun stability => ?_⟩
  · -- a change of the input
    obtain ⟨dSettled, dUp⟩ := s.chip.ignitionInput_calm pin settled up
    refine ⟨_, exec_of_calm (.ignitionInputChange pin) (Chip.ignitionInput pin) s _ rfl hs rfl dSettled dUp, ?_⟩
    rw [s.chip.ignitionInput_eq pin]
    exact ⟨State.changesOnly_of_chip _ s _ ((Chip.changesOnly_iff _ _ _).mpr (by simp)), rfl, rfl⟩
  intro level
  have pin : IgnitionLevel.ofPin s.chip.pins.ignition = level := rfl
  refine ⟨fun quiet => ?_, fun off high power => ?_, fun on low power place => ?_,
    fun w ws i off high power group queue sum skips first => ?_⟩
  · -- no event
    have taken := s.chip.ignitionFiltered_of_quiet level stability pin quiet
    exact ⟨_, exec_of_calm .ignitionFilterComplete Chip.ignitionFiltered s _ rfl hs taken settled up,
      State.changesOnly_of_chip _ s _ ((Chip.changesOnly_iff _ _ _).mpr (by simp [Chip.taking])), rfl⟩
  · -- a wake
    have woken : s.chip.ignitionFiltered = (s.chip.taking .on).startWake := by
      rw [s.chip.ignitionFiltered_of_changed .on stability (by rw [high]; rfl) (by simp [off]),
        (s.chip.taking .on).ignitionEvent_wake power]
    exact ⟨_, exec_of_calm .ignitionFilterComplete Chip.ignitionFiltered s _ rfl hs woken settled nofun,
      State.changesOnly_of_chip _ s _ ((Chip.changesOnly_iff _ _ _).mpr (by simp [Chip.startWake, Chip.taking])), rfl,
      rfl⟩
  · -- OFF in ACTIVE
    intro passSum supply scanner g inForce
    have scanner_eq : s.chip.scanner.abandoned = scanner := rfl
    refine ⟨fun absent => ?_, fun force => ?_⟩
    · have caused := s.chip.switchedOff.endCause_of_not_inForce .ignition absent
      refine ⟨_, exec_ignitionOff s _ hs stability on low power caused settled rfl rfl,
        State.changesOnly_of_chip _ s _ ((Chip.changesOnly_iff _ _ _).mpr (by simp [Chip.switchedOff])), rfl,
        scanner_eq, rfl, ?_⟩
      by_cases sums : passSum = true
      · have steady := s.chip.busAfter_of_settled _ (s.chip.settled_of_sumGivenUp settled)
        have given := congrArg (fun m => s.chip.busAfter { s.chip.bus with requestS := none, memPort := m })
          s.chip.bus.memPort.disown_S
        exact (if_pos sums).trans (steady.symm.trans (given.trans (if_pos sums).symm))
      · exact (if_neg sums).trans (if_neg sums).symm
    · have caused := s.chip.switchedOff.endCause_of_inForce .ignition force
      have ended := s.chip.switchedOff.beginEnding_endedBy .ignition
      have frame := s.chip.switchedOff.beginEnding_eq .ignition
      obtain ⟨keepsSupply, -⟩ := s.chip.switchedOff.beginEnding_keeps .ignition
      have dSettled := s.chip.switchedOff.settled_of_endedBy _ .ignition settled ended
      have dScanner := congrArg Chip.scanner frame
      refine ⟨_, exec_ignitionOff s _ hs stability on low power caused dSettled keepsSupply dScanner, ?_⟩
      obtain ⟨grant, -, engine, -, -⟩ := ended
      generalize s.chip.switchedOff.beginEnding .ignition = d at *
      dsimp only
      rw [grant, engine]
      refine ⟨State.changesOnly_of_chip _ s _ ((Chip.changesOnly_iff _ _ _).mpr ?_), keepsSupply, scanner_eq, rfl, rfl,
        rfl, rfl, fun commit rewritten => ?_, fun stays => ?_, fun sums => ?_⟩
      · rw [frame]
        simp [Chip.switchedOff]
      · exact (if_pos ⟨commit, rewritten⟩).trans (RecordEngine.asked_of_place _ _ place)
      · exact if_neg fun ⟨commit, rewritten⟩ => stays.elim (· commit) (· rewritten)
      · rw [show s.chip.scanner.passSums = true from sums, if_pos rfl]
        exact ⟨rfl, fun tr live => MemPort.disown_dead _ .S tr live⟩
  · -- ON in AFTER_RUN
    have entered := (s.chip.taking .on).enterActive_of_first w ws i group queue sum skips first
    rw [← (s.chip.taking .on).ignitionEvent_on power,
      ← s.chip.ignitionFiltered_of_changed .on stability (by rw [high]; rfl) (by simp [off])] at entered
    exact ⟨_, exec_of_params .ignitionFilterComplete Chip.ignitionFiltered s _ rfl hs entered rfl
      (Chip.staysUp_of_active _ rfl),
      State.changesOnly_of_chip _ s _ ((Chip.changesOnly_iff _ _ _).mpr (by simp [Chip.taking])), rfl, rfl, rfl⟩

end Sys2Proof.Machine
end

section
/-! The image check, and the parameters with their defaults and load-fault entries (R35, R42, R52, R179, R180). -/

namespace Sys2Proof.Machine

/-! ## The image check (R179) -/

theorem toNat_foldr_add (ws : List Word) :
    (ws.foldr (· + ·) 0#16).toNat = (ws.map BitVec.toNat).sum % 65536 := by
  induction ws with
  | nil => rfl
  | cons w ws ih =>
    rw [List.foldr_cons, BitVec.toNat_add, ih, List.map_cons, List.sum_cons]
    omega

/-- The words of an image sum to 0 in 16 bits exactly when their sum as numbers is a multiple of 2^16. -/
theorem foldr_add_eq_zero_iff (ws : List Word) :
    ws.foldr (· + ·) 0#16 = 0#16 ↔ (ws.map BitVec.toNat).sum % 65536 = 0 := by
  rw [← toNat_foldr_add, ← BitVec.toNat_inj]
  rfl

/-- The format number of an image, as a number. -/
theorem formatRead_eq_iff (img : List Word) : imgWord img 0 = 1#16 ↔ (img.getD (0 / 2) 0#16).toNat = 1 := by
  rw [← BitVec.toNat_inj]
  rfl

theorem imageFault_of_sum (img : List Word) (h : (img.map BitVec.toNat).sum % 65536 ≠ 0) :
    imageFault img = some .check :=
  if_pos (mt (foldr_add_eq_zero_iff img).mp h)

theorem imageFault_of_format (img : List Word) (sum : (img.map BitVec.toNat).sum % 65536 = 0)
    (format : (img.getD (0 / 2) 0#16).toNat ≠ 1) : imageFault img = some .format :=
  (if_neg (not_not.mpr ((foldr_add_eq_zero_iff img).mpr sum))).trans (if_pos (mt (formatRead_eq_iff img).mp format))

theorem imageFault_of_valid (img : List Word) (sum : (img.map BitVec.toNat).sum % 65536 = 0)
    (format : (img.getD (0 / 2) 0#16).toNat = 1) : imageFault img = none :=
  (if_neg (not_not.mpr ((foldr_add_eq_zero_iff img).mpr sum))).trans
    (if_neg (not_not.mpr ((formatRead_eq_iff img).mpr format)))

/-! ## One parameter (R42, R52, R180) -/

theorem inBounds_value (lo hi default v : Nat) (item : LoadItem) :
    (inBounds lo hi default v item).1 = if lo ≤ v ∧ v ≤ hi then v else default := by
  unfold inBounds
  split_ifs <;> rfl

theorem mem_inBounds (lo hi default v : Nat) (own item : LoadItem) (k : FaultKind) :
    (item, k) ∈ (inBounds lo hi default v own).2 ↔ item = own ∧ k = .range ∧ (v < lo ∨ hi < v) := by
  unfold inBounds
  split_ifs with h
  · simp only [List.not_mem_nil, false_iff]
    omega
  · simp only [List.mem_singleton, Prod.mk.injEq]
    have out : v < lo ∨ hi < v := by omega
    simp [out]

theorem mem_coded {α : Type} (default : α) (value : Option α) (own item : LoadItem) (k : FaultKind) :
    (item, k) ∈ (coded default value own).2 ↔ item = own ∧ k = .range ∧ value = none := by
  cases value <;> simp [coded]

theorem coded_value {α : Type} (default : α) (value : Option α) (item : LoadItem) :
    (coded default value item).1 = value.getD default := by
  cases value <;> rfl

theorem ordered_low (low high lowDefault highDefault : Nat) (item : LoadItem) :
    (ordered low high lowDefault highDefault item).1 = if low < high then low else lowDefault := by
  unfold ordered
  split_ifs <;> rfl

theorem ordered_high (low high lowDefault highDefault : Nat) (item : LoadItem) :
    (ordered low high lowDefault highDefault item).2.1 = if low < high then high else highDefault := by
  unfold ordered
  split_ifs <;> rfl

theorem mem_ordered (low high lowDefault highDefault : Nat) (own item : LoadItem) (k : FaultKind) :
    (item, k) ∈ (ordered low high lowDefault highDefault own).2.2 ↔ item = own ∧ k = .thresholdOrder ∧ high ≤ low := by
  unfold ordered
  split_ifs with h
  · simp [Nat.not_le.mpr h]
  · simp [Nat.not_lt.mp h]

/-! ## Codes (11_formats.md section 11.2) -/

theorem rateOfCode_getD (default : TickRate) (n : Nat) : (rateOfCode n).getD default =
    if n = 0 then .mhz1 else if n = 1 then .khz250 else if n = 2 then .khz62_5 else if n = 3 then .khz15_625
    else default := by
  unfold rateOfCode
  split <;> simp_all

theorem edgeOfCode_getD (n : Nat) :
    (edgeOfCode n).getD .rising = if n = 1 then .falling else if n = 2 then .both else .rising := by
  unfold edgeOfCode
  split <;> simp_all

theorem dividerOfCode_getD (n : Nat) : (dividerOfCode n).getD 1 = if n ≤ 3 then 2 ^ n else 1 := by
  match n with
  | 0 | 1 | 2 | 3 => rfl
  | n + 4 => rfl

theorem parkUseOfCode_getD (n : Nat) : (parkUseOfCode n).getD true = decide (n ≠ 1) := by
  match n with
  | 0 | 1 => rfl
  | n + 2 => rfl

theorem rateOfCode_eq_none_iff (n : Nat) : rateOfCode n = none ↔ 3 < n := by
  match n with
  | 0 | 1 | 2 | 3 => simp [rateOfCode]
  | n + 4 => simp [rateOfCode]

theorem edgeOfCode_eq_none_iff (n : Nat) : edgeOfCode n = none ↔ 2 < n := by
  match n with
  | 0 | 1 | 2 => simp [edgeOfCode]
  | n + 3 => simp [edgeOfCode]

theorem dividerOfCode_eq_none_iff (n : Nat) : dividerOfCode n = none ↔ 3 < n := by
  match n with
  | 0 | 1 | 2 | 3 => simp [dividerOfCode]
  | n + 4 => simp [dividerOfCode]

theorem parkUseOfCode_eq_none_iff (n : Nat) : parkUseOfCode n = none ↔ 1 < n := by
  match n with
  | 0 | 1 => simp [parkUseOfCode]
  | n + 2 => simp [parkUseOfCode]

/-! ## The parameters of a valid image (R180) -/

/-- A word of the image, as a number. -/
def wordRead (img : List Word) (off : Nat) : Nat := (img.getD (off / 2) 0#16).toNat

theorem imgWord_toNat (img : List Word) (off : Nat) : (imgWord img off).toNat = wordRead img off := rfl

theorem imgWord_eq (img : List Word) (off : Nat) : imgWord img off = BitVec.ofNat 16 (wordRead img off) := by
  rw [← imgWord_toNat, BitVec.ofNat_toNat, BitVec.setWidth_eq]

theorem byteRead_lt (img : List Word) (off : Nat) : byteRead img off < 256 := Nat.mod_lt _ (by decide)

/-- The value of a parameter that is in range as read, and else its default (R180). -/
def pickRead (lo hi default v : Nat) : Nat := if lo ≤ v ∧ v ≤ hi then v else default

/-- Whether a parameter is read out of its range or with a code that is not assigned (R42, R52, R56, R64, R159). -/
def outOfRange (img : List Word) : LoadItem → Prop
  | .starvationLimit => byteRead img 0x12 < 16
  | .engineTick => 3 < byteRead img 0x13
  | .engineEdge => 2 < byteRead img 0x14
  | .engineDivider => 3 < byteRead img 0x15
  | .engineTeeth => byteRead img 0x16 < 1 ∨ 240 < byteRead img 0x16
  | .roadTick => 3 < byteRead img 0x17
  | .roadEdge => 2 < byteRead img 0x18
  | .roadDivider => 3 < byteRead img 0x19
  | .roadPulses => wordRead img 0x1A < 500 ∨ 25000 < wordRead img 0x1A
  | .stopLow => wordRead img 0x1C < 10 ∨ 200 < wordRead img 0x1C
  | .stopHigh => wordRead img 0x1E < 20 ∨ 400 < wordRead img 0x1E
  | .movingLow => wordRead img 0x20 < 5 ∨ 190 < wordRead img 0x20
  | .movingHigh => wordRead img 0x22 < 10 ∨ 200 < wordRead img 0x22
  | .parkUse => 1 < byteRead img 0x24
  | .lockoutThreshold => byteRead img 0x25 < 1 ∨ 15 < byteRead img 0x25
  | .suspendLimit => wordRead img 0x26 < 10 ∨ 600 < wordRead img 0x26
  | .strikeDecay => byteRead img 0x28 < 1 ∨ 60 < byteRead img 0x28
  | .scanPeriod => 240 < byteRead img 0x29
  | _ => False

/-- Whether a pair of thresholds is out of order after the range check (R52). -/
def outOfOrder (img : List Word) : LoadItem → Prop
  | .stopThresholds => pickRead 20 400 80 (wordRead img 0x1E) ≤ pickRead 10 200 40 (wordRead img 0x1C)
  | .movingThresholds => pickRead 10 200 50 (wordRead img 0x22) ≤ pickRead 5 190 30 (wordRead img 0x20)
  | _ => False

/-- The entries of a valid image's parameters: every one is for a value out of range or a pair out of order. -/
theorem mem_validParams_faults (img : List Word) (item : LoadItem) (k : FaultKind) :
    (item, k) ∈ (validParams img).2 ↔
      (k = .range ∧ outOfRange img item) ∨ (k = .thresholdOrder ∧ outOfOrder img item) := by
  have upTo (off : Nat) : ¬ 255 < byteRead img off := Nat.not_lt.mpr (Nat.le_of_lt_succ (byteRead_lt img off))
  unfold validParams channelSettings thresholds
  simp only [List.mem_append, mem_inBounds, mem_coded, mem_ordered, inBounds_value, rateOfCode_eq_none_iff,
    edgeOfCode_eq_none_iff, dividerOfCode_eq_none_iff, parkUseOfCode_eq_none_iff, imgByte_toNat, imgWord_toNat,
    or_assoc]
  cases item <;> simp [outOfRange, outOfOrder, pickRead, upTo]

theorem Chip.settleParams_of_fault (c : Chip) (img : List Word) (k : FaultKind) (h : imageFault img = some k) :
    c.settleParams img
      = ({ c with params := { Params.default with image := .invalid } } : Chip).addFaults [(.image, k)] := by
  unfold Chip.settleParams
  rw [h]
  rfl

theorem Chip.settleParams_of_valid (c : Chip) (img : List Word) (h : imageFault img = none) :
    c.settleParams img = ({ c with params := (validParams img).1 } : Chip).addFaults (validParams img).2 := by
  unfold Chip.settleParams
  rw [h]

/-- Whatever the image check finds, new parameters are taken and entries added. -/
theorem Chip.settleParams_cases (c : Chip) (img : List Word) :
    ∃ params faults, c.settleParams img = ({ c with params := params } : Chip).addFaults faults := by
  cases h : imageFault img with
  | some k => exact ⟨_, _, c.settleParams_of_fault img k h⟩
  | none => exact ⟨_, _, c.settleParams_of_valid img h⟩

theorem Chip.settleParams_frame (c : Chip) (img : List Word) :
    c.changesOnly [.params, .map, .link] (c.settleParams img) := by
  obtain ⟨params, faults, settled⟩ := c.settleParams_cases img
  rw [settled, Chip.addFaults_eq]
  exact (Chip.changesOnly_iff _ _ _).mpr (by simp)

theorem Chip.settleParams_map (c : Chip) (img : List Word) :
    (c.settleParams img).map = { c.map with loadFaults := (c.settleParams img).map.loadFaults } := by
  obtain ⟨params, faults, settled⟩ := c.settleParams_cases img
  rw [settled, Chip.addFaults_map]

theorem Chip.settleParams_link (c : Chip) (img : List Word) :
    (c.settleParams img).link = { c.link with notices :=
      if c.map.loadFaults = [] ∧ (c.settleParams img).map.loadFaults ≠ [] then c.link.notices ||| 0x0100#16
      else c.link.notices } := by
  obtain ⟨params, faults, settled⟩ := c.settleParams_cases img
  rw [settled]
  exact Chip.addFaults_link _ faults

end Sys2Proof.Machine
end

section
/-! The completion of an image word, and of the image: its loads, the monitor's start, and the survey's first read (R17,
R18, R31, R58, R123, R179–R181). -/

namespace Sys2Proof.Machine

/-! ## The loads of a complete image (R31, R123, R180) -/

theorem Chip.changesOnly_trans {blocks : List Block} {c d e : Chip} (h : c.changesOnly blocks d)
    (h' : d.changesOnly blocks e) : c.changesOnly blocks e := fun b hb => Chip.same_trans (h b hb) (h' b hb)

theorem Chip.changesOnly_mono {blocks more : List Block} {c d : Chip} (h : c.changesOnly blocks d)
    (sub : blocks ⊆ more) : c.changesOnly more d := fun b hb => h b fun m => hb (sub m)

/-- Whatever the image check has found, the limit table's load is a new table and entries added. -/
theorem Chip.loadLimits_cases (c : Chip) (img : List Word) :
    ∃ limits faults, c.loadLimits img = ({ c with overlay.limits := limits } : Chip).addFaults faults := by
  by_cases h : c.params.image = .valid
  · exact ⟨_, _, c.loadLimits_eq img h⟩
  · exact ⟨c.overlay.limits, [], if_neg h⟩

theorem Chip.loadLimits_frame (c : Chip) (img : List Word) :
    c.changesOnly [.map, .overlay, .link] (c.loadLimits img) := by
  obtain ⟨limits, faults, loaded⟩ := c.loadLimits_cases img
  rw [loaded, Chip.addFaults_eq]
  exact (Chip.changesOnly_iff _ _ _).mpr (by simp)

theorem Chip.loadLimits_record (c : Chip) (img : List Word) : (c.loadLimits img).map.record = c.map.record := by
  obtain ⟨limits, faults, loaded⟩ := c.loadLimits_cases img
  rw [loaded, Chip.addFaults_map]

/-- The part with the parameters, the map and the limit table of an image. -/
def Chip.imageLoaded (c : Chip) (img : List Word) : Chip := ((c.settleParams img).loadMap img).loadLimits img

/-- The loads give RECORD a place, and leave alone what is none of theirs. -/
theorem Chip.imageLoaded_frame (c : Chip) (img : List Word) (b : Addr) (hb : c.map.imageBase = some b) :
    (∃ place, (c.imageLoaded img).map.record = some place)
      ∧ c.changesOnly [.params, .map, .overlay, .link] (c.imageLoaded img) := by
  have base : (c.settleParams img).map.imageBase = some b := by rw [c.settleParams_map img, ← hb]
  refine ⟨⟨((c.settleParams img).headerRead img b).1, ?_⟩, ?_⟩
  · exact (Chip.loadLimits_record _ img).trans (congrArg WindowMap.record (Chip.loadMap_map _ img b base))
  · have settled : c.changesOnly [.params, .map, .overlay, .link] (c.settleParams img) :=
      Chip.changesOnly_mono (c.settleParams_frame img) (by simp)
    have mapped : (c.settleParams img).changesOnly [.params, .map, .overlay, .link] _ :=
      Chip.changesOnly_mono (Chip.loadMap_frame _ img b base) (by simp)
    exact Chip.changesOnly_trans (Chip.changesOnly_trans settled mapped)
      (Chip.changesOnly_mono (Chip.loadLimits_frame _ img) (by simp))

/-! ## The memory port after a read of R (R17, R18) -/

/-- The next read of R goes on in the burst, or stands for the arbitration (R18). -/
theorem Chip.busAfter_endInternal_R (c d : Chip) (x : Transfer) (idle : c.bus.requestR = none)
    (hd : d.bus = { c.bus with requestR := some x }) : c.busAfter (d.endInternal .R).bus = c.busGoesOn .R (some x) := by
  unfold Chip.endInternal BusPath.request Chip.busGoesOn
  rw [hd]
  dsimp only
  by_cases h : c.bus.requestP = none ∧ c.bus.burst < 8
  · rw [if_pos h, if_pos (show c.bus.requestP = none ∧ c.bus.burst < Config.burstLimit from h),
      Chip.busAfter_of_settled _ _ fun free => by cases free]
    simp only [BusPath.setRequest, idle]
  · rw [if_neg h, if_neg (show ¬ (c.bus.requestP = none ∧ c.bus.burst < Config.burstLimit) from h)]
    rfl

theorem Chip.busAfter_congr (c d : Chip) (b : BusPath) (params : d.params = c.params) : d.busAfter b = c.busAfter b :=
  Chip.arbitrate_bus_congr { c with bus := b } { d with bus := b } rfl (by rw [params])

/-- How a burst goes on reads the Bus Path and the parameters alone. -/
theorem Chip.busGoesOn_congr (c d : Chip) (who : Requester) (next : Option Transfer) (bus : d.bus = c.bus)
    (params : d.params = c.params) : d.busGoesOn who next = c.busGoesOn who next := by
  have same (b : BusPath) : d.busAfter b = c.busAfter b := c.busAfter_congr d b params
  unfold Chip.busGoesOn
  simp only [bus, same]

/-- The completion of a read of the start-up order that goes on with another, by what the order makes of the part: the
arbitration is that of the parameters as it leaves them. -/
theorem exec_startUpRead (s : State) (tr x : Transfer) (d : Chip) (hs : s.supplied = true) (up : s.chip.staysUp)
    (read : tr.action = .read) (port : s.chip.bus.memPort = .busy .R tr true) (idle : s.chip.bus.requestR = none)
    (noAppend : s.chip.engine.progress = none) (hd : s.chip.startUpDone (s.memory.readWord tr.address) = d)
    (bus : d.bus = { s.chip.bus with requestR := some x }) (power : d.supply.power = s.chip.supply.power)
    (delay : d.supply.dormancy = s.chip.supply.dormancy) :
    exec (.memoryTransferComplete none) s
      = .next { s with chip := { d with bus := ({ d with bus := s.chip.bus } : Chip).busGoesOn .R (some x) } } := by
  obtain ⟨a, action⟩ := tr
  obtain rfl : action = .read := read
  have done : s.chip.transferDone .R true (s.memory.complete ⟨a, .read⟩ none).2 = d.endInternal .R := by
    have engine : s.chip.engineDone (s.memory.readWord a) = d := by
      unfold Chip.engineDone
      rw [noAppend]
      exact hd
    exact congrArg (Chip.endInternal .R) engine
  have dUp : (d.endInternal .R).staysUp := by
    unfold Chip.staysUp
    rw [Chip.endInternal_supply, power, delay]
    exact up
  have ended : (d.endInternal .R).finish =
      { d with bus := ({ d with bus := s.chip.bus } : Chip).busGoesOn .R (some x) } := by
    rw [Chip.finish_eq d _ (d.endInternal_params .R) (.inl dUp), ← Chip.busAfter_endInternal_R
      { d with bus := s.chip.bus } d x idle bus, d.endInternal_eq .R]
    rfl
  refine congrArg Host.Outcome.next ((s.transferComplete_of_busy none .R _ true hs port).trans ?_)
  rw [done, ended]
  rfl

/-! ## The image read (R179–R181) -/

theorem Chip.startUpDone_of_image (c : Chip) (got : List Word) (data : Word)
    (phase : c.supply.startUp.phase = .image got) : c.startUpDone data = c.imageWord got data := by
  unfold Chip.startUpDone
  rw [phase]

theorem Chip.imageWord_eq (c : Chip) (got : List Word) (data : Word) : c.imageWord got data =
    if (data :: got).length < checkedWords + refTableWords then
      (c.atPhase (.image (data :: got))).presentRead .R (c.imageAt (imageWordOffset (data :: got).length))
    else c.imageComplete (data :: got).reverse := rfl

/-- With a word of the image left its read is presented. -/
theorem Chip.imageWord_of_next (c : Chip) (got : List Word) (data : Word) (b : Addr) (base : c.map.imageBase = some b)
    (left : (data :: got).length < checkedWords + refTableWords) : c.imageWord got data = { c with
      supply := { c.supply with startUp := { c.supply.startUp with phase := .image (data :: got) } }
      bus := { c.bus with requestR := some ⟨b + BitVec.ofNat 24 (imageWordOffset (data :: got).length), .read⟩ } } := by
  have address (offset : Nat) : c.imageAt offset = b + BitVec.ofNat 24 offset := by
    unfold Chip.imageAt
    rw [base, Option.getD_some]
  rw [c.imageWord_eq, if_pos left, address]
  rfl

/-- The survey's first read is that of the record area's first word (log entry 33). -/
theorem Chip.surveyRead_first (c : Chip) (place : Placement) (placed : c.map.record = some place) :
    c.surveyRead 0 [] = { c with
      supply := { c.supply with startUp := { c.supply.startUp with phase := .slots 0 [] } }
      bus := { c.bus with requestR := some ⟨place.base, .read⟩ } } := by
  have address : c.slotAt 0 (2 * ([] : List Word).length) = place.base := by
    unfold Chip.slotAt
    rw [placed]
    exact BitVec.add_zero _
  unfold Chip.surveyRead
  rw [address]
  rfl

/-- The complete image is loaded, the monitor starts, and the survey's first read is presented (R58, R181). -/
theorem Chip.imageComplete_of_idle (c d : Chip) (words : List Word) (place : Placement) (idle : c.grant.state = .idle)
    (loaded : c.imageLoaded (words.take checkedWords) = d) (placed : d.map.record = some place)
    (grant : d.grant = c.grant) : c.imageComplete words = { d.monitorRestarted with
      supply := { d.supply with startUp := { d.supply.startUp with
        phase := .slots 0 [], refWords := words.drop checkedWords } }
      bus := { d.bus with requestR := some ⟨place.base, .read⟩ } } := by
  unfold Chip.imageLoaded at loaded
  unfold Chip.imageComplete
  dsimp only
  rw [loaded, d.startMonitor_of_idle (by rw [grant, idle])]
  exact Chip.surveyRead_first _ place placed

/-- Settles O20: the image check's three outcomes, and the completion of an image word with one left and of the last. -/
theorem imageSettlesTheParameters : Obligations.ImageSettlesTheParameters := by
  refine ⟨fun c img => ?_, fun s tr got b hs up read port idle noAppend phase base short => ?_⟩
  · intro t sum word byte pick rate edge divider stopLow stopHigh movingLow movingHigh range order
    refine ⟨c.settleParams_frame img, c.settleParams_map img, c.settleParams_link img, fun check => ?_,
      fun check format => ?_, fun check format => ⟨?_, fun item k => ?_⟩⟩
    · have settled : t = _ := c.settleParams_of_fault img .check (imageFault_of_sum img check)
      rw [settled, Chip.addFaults_eq]
      exact ⟨rfl, rfl⟩
    · have settled : t = _ := c.settleParams_of_fault img .format (imageFault_of_format img check format)
      rw [settled, Chip.addFaults_eq]
      exact ⟨rfl, rfl⟩
    · have settled : t = _ := c.settleParams_of_valid img (imageFault_of_valid img check format)
      rw [settled, Chip.addFaults_eq]
      dsimp only
      unfold validParams channelSettings thresholds
      simp only [inBounds_value, coded_value, ordered_low, ordered_high, rateOfCode_getD, edgeOfCode_getD,
        dividerOfCode_getD, parkUseOfCode_getD, imgByte_toNat, imgWord_toNat]
      rw [imgWord_eq]
      rfl
    · have settled : t = _ := c.settleParams_of_valid img (imageFault_of_valid img check format)
      rw [settled, Chip.addFaults_map]
      exact List.mem_append.trans (or_congr_right (mem_validParams_faults img item k))
  · intro words offset goesOn
    have goesOn_eq (c d : Chip) (x : Transfer) (params : d.params = c.params) :
        ({ d with bus := s.chip.bus } : Chip).busGoesOn .R (some x) = goesOn c x :=
      Chip.busGoesOn_congr { c with bus := s.chip.bus } _ .R (some x) rfl params
    have done := s.chip.startUpDone_of_image got (s.memory.readWord tr.address) phase
    refine ⟨fun left => ?_, ?_⟩
    · have next := done.trans (s.chip.imageWord_of_next got _ b base left)
      exact ⟨_, exec_startUpRead s tr _ _ hs up read port idle noAppend next rfl rfl rfl,
        State.changesOnly_of_chip _ s _ ((Chip.changesOnly_iff _ _ _).mpr (by simp)), rfl,
        goesOn_eq _ _ _ rfl⟩
    · intro last grant img loaded
      obtain ⟨⟨place, placed⟩, frame⟩ := s.chip.imageLoaded_frame img b base
      have loaded_eq : s.chip.imageLoaded img = loaded := rfl
      rw [loaded_eq] at placed frame
      clear_value loaded
      have grant_eq : loaded.grant = s.chip.grant := frame .grant (by simp)
      have bus_eq : loaded.bus = s.chip.bus := frame .bus (by simp)
      have supply_eq : loaded.supply = s.chip.supply := frame .supply (by simp)
      have complete : s.chip.imageWord got (s.memory.readWord tr.address) = s.chip.imageComplete words.reverse :=
        if_neg (Nat.not_lt.mpr (Nat.le_of_eq last.symm))
      have ended := done.trans (complete.trans
        (s.chip.imageComplete_of_idle loaded words.reverse place grant loaded_eq placed grant_eq))
      rw [bus_eq, supply_eq] at ended
      refine ⟨_, place, exec_startUpRead s tr _ _ hs up read port idle noAppend ended rfl rfl rfl, ?_, rfl, rfl, rfl,
        rfl, rfl, rfl, rfl, placed, goesOn_eq _ _ _ rfl⟩
      exact State.changesOnly_of_chip _ s _ (Chip.changesOnly_trans (Chip.changesOnly_mono frame (by simp))
        ((Chip.changesOnly_iff _ _ _).mpr (by simp [Chip.monitorRestarted])))

end Sys2Proof.Machine
end
